-- ==== Sys2Proof/Word.lean ====
section
/-! DEFINITION. The two word types of the block: the byte that packets and memories are made of, and the 32-bit register word of R7. -/

namespace Sys2Proof

/-- One byte, as packets, frames, the Vat, DRAM and the MRAM hold it. -/
abbrev Byte := BitVec 8

/-- One register word (R7). -/
abbrev Word := BitVec 32

end Sys2Proof
end

