-- ==== Sys2Proof/Syntax.lean ====
section
/-! DEFINITION. The commands the block takes: one constructor for each row of spec/opcode_table.json, with the row's operands. -/

namespace Sys2Proof

/-- Where a command packet comes in (R114). -/
inductive Ingress where
  /-- HOST0 or HOST1. -/
  | host (port : Fin 2)
  /-- A fabric port FAB0 to FAB7. -/
  | fab (port : Fin 8)
  /-- The I2C sideband (R123). -/
  | sideband
  deriving DecidableEq, Repr

/-- The header of a command packet (Table 4.1) but for OPCODE, REPLY and LENGTH, which the packet's row and its parameters give. -/
structure Hdr where
  /-- VMAJ, byte 0 [7:4]. -/
  vmaj : BitVec 4 := 2
  /-- VMIN, byte 0 [3:0]. -/
  vmin : BitVec 4 := 0
  /-- TAG, byte 2. -/
  tag : Byte := 0
  /-- WAKE, byte 3 [6]. -/
  wake : Bool := false
  /-- NOREPLY, byte 3 [5]. -/
  noreply : Bool := false
  /-- ORDERED, byte 3 [4]. -/
  ordered : Bool := false
  /-- The reserved bits of byte 3, [3:0]. -/
  rsvFlags : BitVec 4 := 0
  /-- The reserved bits above SRC, bytes 4 and 5 [15:10]. -/
  rsvSrc : BitVec 6 := 0
  /-- SRC. -/
  src : BitVec 10 := 0
  /-- The reserved bits above DST, bytes 6 and 7 [15:10]. -/
  rsvDst : BitVec 6 := 0
  /-- DST. -/
  dst : BitVec 10 := 0
  /-- ALIVE, byte 10. -/
  alive : Byte := 0
  /-- STATUS, byte 11. -/
  status : Byte := 0
  /-- COOKIE, bytes 12 to 15. -/
  cookie : Word := 0
  deriving DecidableEq, Repr

/-- How a write reaches AON_CTL (R78, R79): by the command path or by the sideband's AON window. -/
inductive AonRoute where
  /-- A WRITE_REG packet. -/
  | packet (via : Ingress) (h : Hdr)
  /-- The sideband window, index 0x04. -/
  | window
  deriving DecidableEq, Repr

/-- What one pass of reads of the serial NOR gives (R97): the image bytes found at copy A and at copy B. -/
structure NorRead where
  /-- Bytes from NOR offset 0x0000_0000 on. -/
  copyA : List Byte
  /-- Bytes from NOR offset 0x0100_0000 on. -/
  copyB : List Byte
  deriving DecidableEq, Repr

/-- The sender of a datagram: the MAC, the IPv4 address and the UDP port a reply goes to (R140), and the address it was sent to (R141). -/
structure NetAddr where
  /-- Source MAC. -/
  mac : BitVec 48 := 0
  /-- Source IPv4 address. -/
  ip : Word := 0
  /-- Source UDP port. -/
  port : BitVec 16 := 0
  /-- Destination IPv4 address of the datagram. -/
  sentTo : Word := 0
  deriving DecidableEq, Repr

/-- The IEEE 1588 messages a port handles (Table 5.7). -/
inductive PtpKind where
  | sync | followUp | delayReq | delayResp | pdelayReq | pdelayResp | pdelayRespFollowUp | announce
  /-- Management or signalling, which is discarded. -/
  | other
  deriving DecidableEq, Repr

/-- What the servo uses of a received IEEE 1588 message. -/
structure PtpMessage where
  /-- The message. -/
  kind : PtpKind
  /-- domainNumber. -/
  domain : Byte := 0
  /-- sequenceId. -/
  seq : BitVec 16 := 0
  /-- The timestamp the message carries, ns. -/
  stamp : BitVec 64 := 0
  /-- correctionField in 2^-16 ns. -/
  correction : BitVec 64 := 0
  /-- Whether the message comes over UDP/IPv4 rather than Layer 2. -/
  udp : Bool := false
  /-- For Announce: the sender's data set is better than this port's own, by the default best master clock algorithm. -/
  better : Bool := false
  deriving DecidableEq, Repr

/-- One TRAIN block (Table 6.3). -/
structure TrainBlock where
  /-- READY: the sender's receiver needs no further change. -/
  ready : Bool := false
  /-- PRESET: load the preset taps. -/
  preset : Bool := false
  /-- REQ_PRE. -/
  reqPre : BitVec 2 := 0
  /-- REQ_MAIN. -/
  reqMain : BitVec 2 := 0
  /-- REQ_POST. -/
  reqPost : BitVec 2 := 0
  /-- RSP_PRE. -/
  rspPre : BitVec 2 := 0
  /-- RSP_MAIN. -/
  rspMain : BitVec 2 := 0
  /-- RSP_POST. -/
  rspPost : BitVec 2 := 0
  /-- RSEQ. -/
  rseq : BitVec 4 := 0
  /-- ASEQ. -/
  aseq : BitVec 4 := 0
  deriving DecidableEq, Repr

/-- A frame on a head's return lane (Table 13.5): its control block and the data blocks behind it. -/
structure HeadFrame where
  /-- The control block's 64 payload bits, the type byte highest. -/
  block : BitVec 64
  /-- The data blocks as bytes. -/
  data : List Byte := []
  /-- Invalid sync headers seen on the lane since the frame before (R381). -/
  badHeaders : BitVec 16 := 0
  deriving DecidableEq, Repr


/-- How a training run of a DRAM controller ends (R233, R241): what the mode registers of its devices gave, or which channels failed in which phase. A run of 50 ms is a failure of the phase it was in. -/
inductive TrainOutcome where
  /-- Every phase succeeded: DENSITY and RANKS as read. -/
  | trained (density : BitVec 2) (twoRanks : Bool)
  /-- A phase failed on a mask of channels. -/
  | failed (channels : BitVec 4) (phase : BitVec 4)
  deriving DecidableEq, Repr

/-- A packet of a camera link, as its header and payload checks leave it (R412, R416): the virtual channel and data type of its header, corrected where ECC can, and its content. -/
inductive CsiPacket where
  /-- The header has an uncorrectable ECC error. -/
  | badHeader
  /-- A short packet and its 16-bit data field. -/
  | short (channel : BitVec 4) (dataType : BitVec 6) (field : BitVec 16)
  /-- A long packet: its raw pixels, and whether the payload CRC holds. -/
  | long (channel : BitVec 4) (dataType : BitVec 6) (pixels : List (BitVec 16)) (crcOk : Bool)
  deriving DecidableEq, Repr

/-- The block's commands, one constructor for each row of the spec's table of operations and events. -/
inductive Instr where
  /-- POWER_ON_RESET (R80). The rising edge of PORST_N samples the straps, loads the fuses and starts Starter's power-up sequence. -/
  | powerOnReset (sbAddr bootSel : BitVec 2) (testmode : Bool)
  /-- POWER_GOOD_LOST (R42). A filtered VREG_PGn falls while its VREG_ENn is high: the group's domains are lost, the Hoop acts and Starter records the group. -/
  | powerGoodLost (group : Fin 4)
  /-- REFCLK_LOST (R53). REFCLK has no edges for 2 µs: every PLL clock stops and the Hoop acts. -/
  | refclkLost
  /-- THERMAL_TRIP (R85). The die reaches 125 °C: the claim is released, FAULT_N is asserted and every VREG_ENn is driven low. -/
  | thermalTrip
  /-- TEMP_SENSOR_READING (R84). A new die temperature reading updates SYS_TEMP and is judged against WARN and CRIT. -/
  | tempSensorReading (readings : Vector (BitVec 16) 8)
  /-- SYS_TEMP_CFG_WRITE (R84). A write to SYS_TEMP_CFG is checked against the part's limits and re-arms both temperature events. -/
  | sysTempCfgWrite (via : Ingress) (h : Hdr) (value : Word)
  /-- BLOCK_IDLE (R64). IDLE_TIMER expires with no request, and the block's clock is gated. -/
  | blockIdle (domain : Fin 18) (block : Fin 22)
  /-- NAP_ENTRY (R67). NAP_DELAY expires with every condition held: Cave save, clamps, then power switch opened. -/
  | napEntry (domain : Fin 18) (requested : Bool)
  /-- DOMAIN_WAKE_REQUEST (R73). Starter begins the four-step wake of a domain, or joins a wake already in progress. -/
  | domainWakeRequest (domain : Fin 18)
  /-- WAKE_STEP_READY (R73). A wake step's ready signal arrives and the next step begins, or the wake completes. -/
  | wakeStepReady (domain : Fin 18)
  /-- WAKE_STEP_TIMEOUT (R75). A wake step times out and is retried after back-off, or the domain is left OFF with SYS_WAKE_FAIL. -/
  | wakeStepTimeout (domain : Fin 18)
  /-- WAKE_BACKOFF_EXPIRY (R75). The back-off before a retry ends and the step is attempted again. -/
  | wakeBackoffExpiry (domain : Fin 18)
  /-- NOR_IMAGE_LOAD (R97). The boot ROM reads and checks NOR copies A and B and loads an accepted image. -/
  | norImageLoad (quad single : NorRead)
  /-- HOST_BOOT_START (R99). For host boot, the ROM wakes PD_HOST and PD_PIPE, brings the port up and waits for an image. -/
  | hostBootStart
  /-- FIRMWARE_START (R80). Once an image is accepted, the firmware runs on both cores and wakes the other domains in order. -/
  | firmwareStart
  /-- WAKE_N_LOW (R91). A low pulse on WAKE_N ends DORMANT when WAKE_PIN_EN is 1, or repeats power-up after a failure. -/
  | wakeNLow
  /-- AON_CTL_WAKE_REQ (R91). A write of 1 to WAKE_REQ ends DORMANT as a sideband wake, or repeats power-up after a failure. -/
  | aonCtlWakeReq (route : AonRoute) (value : Word)
  /-- AON_CTL_DORMANT (R88). A write of 1 to DORMANT is refused if busy; otherwise the DORMANT entry sequence runs. -/
  | aonCtlDormant (route : AonRoute) (value : Word)
  /-- AON_CTL_FAULT_CLR (R487). A write of 1 to FAULT_CLR clears every latched cause that no longer holds and may release FAULT_N. -/
  | aonCtlFaultClr (route : AonRoute) (value : Word)
  /-- AON_CTL_SB_WR_LOCK (R78). Setting SB_WR_LOCK makes sideband writes to the AON window ignored until power-on reset. -/
  | aonCtlSbWrLock (route : AonRoute) (value : Word)
  /-- SYS_PL_WRITE (R31). A write of SYS_PL.REQ is checked against queued page ceilings and accepted or refused. -/
  | sysPlWrite (via : Ingress) (h : Hdr) (value : Word)
  /-- CLOCK_SWITCH (R94). The CORE and PIPE clocks switch to the new level at the due time or page boundary. -/
  | clockSwitch
  /-- VID_SETTLED (R93). 100 µs after a VID change, VSETTLING clears. -/
  | vidSettled
  /-- SIDEBAND_AON_WRITE (R79). An I²C index write with 4 data bytes writes an AON register, unless SB_WR_LOCK is set. -/
  | sidebandAonWrite (index : Byte) (value : Word)
  /-- SIDEBAND_CMD_WRITE (R123). An I²C write to index 0x80 carries one command packet into the command path. -/
  | sidebandCmdWrite (bytes : List Byte)
  /-- SIDEBAND_REPLY_READ (R123). An I²C read at index 0x80 returns and consumes the pending reply, or returns zeros. -/
  | sidebandReplyRead
  /-- SIDEBAND_PACKET_AON (R92). While PD_CORE is off, PD_AON answers a sideband packet itself, waking from DORMANT for a WAKE packet. -/
  | sidebandPacketAon (bytes : List Byte)
  /-- CMD_PACKET_DISCARD (R112). A packet that fails the carrier, CRC, class or destination check is discarded and counted. -/
  | cmdPacketDiscard (via : Ingress) (carrier : List Byte)
  /-- UNKNOWN_OPCODE (R109). A packet with an unknown opcode, or an EVENT opcode, is refused with BAD_OPCODE. -/
  | unknownOpcode (via : Ingress) (h : Hdr) (opcode : Byte) (params : List Byte)
  /-- READ_REG (R106). Reads one register or one memory word. -/
  | readReg (via : Ingress) (h : Hdr) (params : List Byte)
  /-- WRITE_REG (R106). Writes one register or memory word that has no behaviour of its own. -/
  | writeReg (via : Ingress) (h : Hdr) (params : List Byte)
  /-- MODIFY_REG (R108). Performs an indivisible masked read-modify-write and returns OLD and NEW. -/
  | modifyReg (via : Ingress) (h : Hdr) (params : List Byte)
  /-- READ_BLOCK (R107). Reads COUNT bytes within one register block, Vat region or DRAM region. -/
  | readBlock (via : Ingress) (h : Hdr) (params : List Byte)
  /-- WRITE_BLOCK (R107). Writes consecutive words in ascending address order within one space. -/
  | writeBlock (via : Ingress) (h : Hdr) (params : List Byte)
  /-- PING (R106). Returns its parameter bytes and has no other effect. -/
  | ping (via : Ingress) (h : Hdr) (params : List Byte)
  /-- NEGOTIATE (R122). Agrees the protocol version and feature mask for the endpoint and resets its alive window. -/
  | negotiate (via : Ingress) (h : Hdr) (params : List Byte)
  /-- FW_LOAD (R110). Writes image data into the staging image in Vat region 8. -/
  | fwLoad (via : Ingress) (h : Hdr) (params : List Byte)
  /-- FW_ACTIVATE (R110). Checks the staged image and restarts the cores at its entry point, or raises SYS_FW_REJECT. -/
  | fwActivate (via : Ingress) (h : Hdr) (params : List Byte)
  /-- EVENT_BATCH_SEND (R133). The 2 µs batching window closes and one EVENT packet with the combined records is sent. -/
  | eventBatchSend (slot : Fin 16)
  /-- EVT_PENDING_CLEAR (R130). A W1C write to EVT_PENDING clears sources and their counts, unless an occurrence falls in the same cycle. -/
  | evtPendingClear (via : Ingress) (h : Hdr) (word : Fin 4) (value : Word) (sameCycle : List (BitVec 5 × Word))
  /-- ACC_VIOL_INFO_CLEAR (R128). Clearing VALID in ACC_VIOL_INFO also clears ACC_VIOL_COUNT and re-enables capture. -/
  | accViolInfoClear (via : Ingress) (h : Hdr)
  /-- ACC_CTL_LOCK (R128). Setting LOCK restricts ACC writes to CORE until power-on reset. -/
  | accCtlLock (via : Ingress) (h : Hdr)
  /-- HOST_FRAME_RX (R138). An Ethernet frame is checked and taken, answered (ARP, ICMP), passed to the servo or transport, or discarded. -/
  | hostFrameRx (port : Fin 2) (frame : List Byte)
  /-- HOST_LINK_CHANGE (R135). LINK of a host port changes; frames part-way through are discarded and HOSTp_LINK is raised. -/
  | hostLinkChange (port : Fin 2) (blockLock : BitVec 4) (align fecLock hiSer tenGig : Bool)
  /-- HOST_ALTERNATE_TIMEOUT (R135). In alternate mode, the 500 ms attempt ends and the port tries the other line mode. -/
  | hostAlternateTimeout (port : Fin 2)
  /-- HOST_CTL_WRITE (R136). A write to HOST_CTL changes the line configuration or is refused with BUSY while enabled. -/
  | hostCtlWrite (via : Ingress) (h : Hdr) (port : Fin 2) (value : Word)
  /-- RASTER_DATAGRAM_RX (R146). A RASTER datagram binds or is judged against the stream's expected SEQ, then is passed, held or discarded. -/
  | rasterDatagramRx (port : Fin 2) (source : NetAddr) (datagram : List Byte)
  /-- TRIGGER_DATAGRAM_RX (R201). A TRIGGER datagram with a 32-byte payload is passed to FIRE for this device alone. -/
  | triggerDatagramRx (port : Fin 2) (source : NetAddr) (datagram : List Byte)
  /-- NAK_REQUEST (R147). NAK_DELAY or NAK_RETRY expires for a missing SEQ and a status datagram requesting it is sent. -/
  | nakRequest (port : Fin 2) (stream : Fin 8) (due : List Word)
  /-- ACK_INTERVAL_STATUS (R147). At each ACK_INTERVAL of an active stream, a status datagram listing missing ranges and CREDIT is sent. -/
  | ackIntervalStatus (port : Fin 2) (stream : Fin 8)
  /-- SEQ_GIVEN_UP (R149). A missing SEQ exceeds its last request plus NAK_RETRY: E advances, a gap marker goes to ingest and HOST_RX_GAP counts. -/
  | seqGivenUp (port : Fin 2) (stream : Fin 8) (seq : Word)
  /-- PTP_MESSAGE_RX (R161). An IEEE 1588 message is timestamped and processed by the firmware servo. -/
  | ptpMessageRx (port : Fin 2) (message : PtpMessage)
  /-- TIME_RATE_WRITE (R153). A rate write is clamped if necessary and the offset is rebased so that corrected time is continuous. -/
  | timeRateWrite (via : Ingress) (h : Hdr) (value : Word)
  /-- TIME_CTL_EPOCH_RESET (R156). A write to EPOCH_RESET returns the epoch to UNSTEPPED, refused while armed. -/
  | timeCtlEpochReset (via : Ingress) (h : Hdr) (value : Word)
  /-- TIME_CTL_SRC_WRITE (R159). A change of SRC selects the correction source and resets the epoch, refused while armed. -/
  | timeCtlSrcWrite (via : Ingress) (h : Hdr) (value : Word)
  /-- TIME_STEP (R157). Steps corrected time once per epoch, either absolutely or relatively. -/
  | timeStep (via : Ingress) (h : Hdr) (params : List Byte)
  /-- TIME_STEP_GO (R158). A write of GO makes the same step by the register route. -/
  | timeStepGo (via : Ingress) (h : Hdr) (value : Word)
  /-- TIME_CMP_ARM (R165). A write to TIME_CMPn_HI loads the whole target and sets EN. -/
  | timeCmpArm (via : Ingress) (h : Hdr) (cmp : Fin 4) (value : Word)
  /-- TIME_CMP_REACHED (R165). A compare target is reached: EN clears, REACHED is set, TIME_CMPn is raised, and DORMANT ends if allowed. -/
  | timeCmpReached (cmp : Fin 4)
  /-- TIME_LNCH_EN_WRITE (R167). A write of EN to a launch slot checks, copies and schedules the frame, or cancels the launch. -/
  | timeLnchEnWrite (via : Ingress) (h : Hdr) (slot : Fin 8) (value : Word)
  /-- LAUNCH_SENT (R168). The launch target is reached and the frame leaves on time, late or is dropped. -/
  | launchSent (slot : Fin 8)
  /-- FAB_CTL_EN_WRITE (R174). Writing EN moves a fabric port to DETECT or to DISABLED. -/
  | fabCtlEnWrite (via : Ingress) (h : Hdr) (port : Fin 8) (value : Word)
  /-- FAB_CTL_RETRAIN (R174). A write of RETRAIN sends the port to DETECT. -/
  | fabCtlRetrain (via : Ingress) (h : Hdr) (port : Fin 8) (value : Word)
  /-- FAB_FAR_END_DETECTED (R174). A receiver-detect pulse finds far-end termination and the port enters TRAIN with its taps loaded. -/
  | fabFarEndDetected (port : Fin 8)
  /-- FAB_TRAIN_BLOCK_RX (R178). A TRAIN block is received; tap requests are applied and answered, and READY is tracked. -/
  | fabTrainBlockRx (port : Fin 8) (block : TrainBlock)
  /-- FAB_STATE_TIMEOUT (R174). The TRAIN, LOCK, CAPS or RECOVERY limit expires and the port returns to DETECT. -/
  | fabStateTimeout (port : Fin 8)
  /-- FAB_BLOCK_LOCK_GAINED (R174). Block lock and 32 valid IDLE blocks move LOCK to CAPS, or RECOVERY to ACTIVE. -/
  | fabBlockLockGained (port : Fin 8)
  /-- FAB_BLOCK_LOCK_LOST (R173). Block lock is lost for 1 µs in ACTIVE and the port enters RECOVERY. -/
  | fabBlockLockLost (port : Fin 8)
  /-- FAB_CAP_FRAME_RX (R179). A CAP frame is received; version, features and maximum cell are agreed and the port may go ACTIVE. -/
  | fabCapFrameRx (port : Fin 8) (frame : List Byte)
  /-- FAB_CAP_RETRY (R179). After a version refusal, CAPS retries every 100 ms. -/
  | fabCapRetry (port : Fin 8)
  /-- FAB_CELL_RX (R185). A cell is received, checked by CRC and LSEQ, then delivered locally or forwarded by the routing table. -/
  | fabCellRx (port : Fin 8) (lseq : BitVec 12) (noreplay : Bool) (cell : List Byte) (crc : Word)
  /-- FAB_ACK_RX (R180). An ACK block releases acknowledged cells and returns credit, or a NAK triggers replay. -/
  | fabAckRx (port : Fin 8) (ackLseq : BitVec 12) (nak : Bool) (credit : BitVec 16)
  /-- FAB_REPLAY_TIMEOUT (R180). The oldest unacknowledged cell waits 4 µs and every cell after ACK_LSEQ is replayed. -/
  | fabReplayTimeout (port : Fin 8)
  /-- FAB_ACK_TIMER (R180). At least every 1 µs the receiver sends an ACK block. -/
  | fabAckTimer (port : Fin 8)
  /-- FAB_SLEEP_ENTRY (R183). A transmit direction idle for DELAY sends SLEEP and enters quiet. -/
  | fabSleepEntry (port : Fin 8)
  /-- FAB_SLEEP_EXIT (R183). Something to send ends quiet at once. -/
  | fabSleepExit (port : Fin 8)
  /-- FAB_ELECT_RX (R189). An ELECT frame updates the node's root choice and upstream port. -/
  | fabElectRx (port : Fin 8) (frame : List Byte)
  /-- FAB_ELECT_TIMER (R189). Every 1 ms the node sends ELECT on every ACTIVE port. -/
  | fabElectTimer
  /-- FAB_TOPO_RX (R190). A newer TOPO frame is stored, forwarded and used to update the map and routing table. -/
  | fabTopoRx (port : Fin 8) (frame : List Byte)
  /-- FAB_TOPO_TIMER (R190). Every 10 ms, or on a port change, the node floods TOPO. -/
  | fabTopoTimer
  /-- FAB_ID_ASSIGN (R191). The root's map has been unchanged for 1 ms, so it assigns node IDs and floods ASSIGN. -/
  | fabIdAssign
  /-- FAB_ASSIGN_RX (R191). An ASSIGN frame for this node sets its ID. -/
  | fabAssignRx (port : Fin 8) (frame : List Byte)
  /-- FAB_ROUTING_UPDATE (R192). After a map change, the routing table is rewritten in full within 2 ms. -/
  | fabRoutingUpdate
  /-- FAB_DELAY_REQ_TIMER (R197). Every DELAY_INTERVAL each ACTIVE port sends a DELAY_REQ. -/
  | fabDelayReqTimer
  /-- FAB_TIME_CELL_RX (R197). A TIME cell is received: DELAY_REQ is answered, DELAY_RESP updates FAB_DELAY, and SYNC corrects time. -/
  | fabTimeCellRx (port : Fin 8) (cell : List Byte)
  /-- FAB_SYNC_TIMER (R198). Every SYNC_INTERVAL the root, or a LOCKED node, sends SYNC downstream. -/
  | fabSyncTimer
  /-- FAB_SYNC_LOSS (R199). No SYNC for 8 × SYNC_INTERVAL clears LOCKED. -/
  | fabSyncLoss
  /-- TRIGGER_CELL_RX (R202). A TRIGGER cell is timestamped, handed to FIRE, then forwarded. -/
  | triggerCellRx (port : Fin 8) (cell : List Byte)
  /-- JOB_OPEN (R205). Opens a job with its geometry and DRAM raster ring, and preempts the print fetch channels. -/
  | jobOpen (via : Ingress) (h : Hdr) (params : List Byte)
  /-- JOB_CLOSE (R209). Closes the open job once no page or ring row remains held. -/
  | jobClose (via : Ingress) (h : Hdr) (params : List Byte)
  /-- PAGE_QUEUE (R211). Checks and appends a page descriptor to the queue. -/
  | pageQueue (via : Ingress) (h : Hdr) (params : List Byte)
  /-- PAGE_CANCEL (R213). Cancels a queued page, or all pages that have not started, and frees their slots. -/
  | pageCancel (via : Ingress) (h : Hdr) (params : List Byte)
  /-- STRIP_RING_WRITE_RESUME (R208). A waiting strip's slots become free, or a decode context frees, and the strip is written into the ring. -/
  | stripRingWriteResume
  /-- CODEC_ENC_GO (R226). A write of GO checks and starts a compressor job. -/
  | codecEncGo (via : Ingress) (h : Hdr) (value : Word)
  /-- CODEC_ENC_ABORT (R228). A write of ABORT stops the compressor job and sets STATE 4. -/
  | codecEncAbort (via : Ingress) (h : Hdr) (value : Word)
  /-- CODEC_CHAINED (R227). An output buffer fills and the compressor continues in the next chain entry. -/
  | codecChained
  /-- CODEC_ENC_DONE (R227). The compressor job completes, writes USED and sets STATE 2. -/
  | codecEncDone
  /-- DRAM_CTL_EN_WRITE (R240). Writing EN starts training from OFF, or stops the controller with its devices in self-refresh. -/
  | dramCtlEnWrite (via : Ingress) (h : Hdr) (ctrl : Fin 2) (value : Word)
  /-- DRAM_CTL_RETRAIN (R242). A write of RETRAIN starts a retrain while TRAINED and not armed. -/
  | dramCtlRetrain (via : Ingress) (h : Hdr) (ctrl : Fin 2) (value : Word)
  /-- DRAM_TRAINING_END (R241). Training succeeds, fails or exceeds 50 ms, and the controller becomes TRAINED or FAILED. -/
  | dramTrainingEnd (ctrl : Fin 2) (outcome : TrainOutcome)
  /-- DRAM_TEMP_CHECK (R242). Every 1 ms the sensor is compared with the training temperature; a retrain falls due or is deferred. -/
  | dramTempCheck (ctrl : Fin 2)
  /-- DRAM_WCK_TRACKING (R242). Every 1 ms while armed, WCK oscillator tracking runs. -/
  | dramWckTracking (ctrl : Fin 2)
  /-- DRAM_MR4_CHANGE (R242). A device's MR4 refresh-rate field changes and the refresh rate follows. -/
  | dramMr4Change (ctrl : Fin 2) (rate : BitVec 5)
  /-- DRAM_ECC_EN_WRITE (R244). Changing ECC_EN is checked; setting it starts the initialisation. -/
  | dramEccEnWrite (via : Ingress) (h : Hdr) (value : Word)
  /-- DRAM_ECC_INIT_DONE (R244). The ECC initialisation completes and ECC_INIT clears. -/
  | dramEccInitDone
  /-- DRAM_MAP_WRITE (R237). A write to a DRAM_MAP mask is checked and changes the address decode. -/
  | dramMapWrite (via : Ingress) (h : Hdr) (map : Fin 7) (value : Word)
  /-- DMA_EN_WRITE (R256). Writing EN 1 lets the channel take its shadow; writing EN 0 stops it. -/
  | dmaEnWrite (via : Ingress) (h : Hdr) (channel : Fin 32) (value : Word)
  /-- DMA_STOP_DONE (R256). A stopping channel reaches IDLE within 2 µs. -/
  | dmaStopDone (channel : Fin 32)
  /-- DMA_SHADOW_VALID_WRITE (R250). Writing SHADOW_VALID moves the shadow set from EMPTY to VALID. -/
  | dmaShadowValidWrite (via : Ingress) (h : Hdr) (channel : Fin 32) (value : Word)
  /-- DMA_SHADOW_TAKE (R251). With EN 1 and no active descriptor, a VALID shadow is taken, checked and NEXT is fetched. -/
  | dmaShadowTake (channel : Fin 32)
  /-- DMA_DESC_FETCHED (R251). A fetched descriptor arrives and the shadow becomes VALID. -/
  | dmaDescFetched (channel : Fin 32)
  /-- DMA_DESC_COMPLETE (R252). A descriptor's last byte is written; DESC_COUNT advances and the chain continues or ends. -/
  | dmaDescComplete (channel : Fin 32)
  /-- POS_CTL_EN_WRITE (R261). Enabling a channel resets counts and the observer, or disabling it is refused while armed. -/
  | posCtlEnWrite (via : Ingress) (h : Hdr) (channel : Fin 4) (value : Word)
  /-- POS_CLR_FAULT (R272). CLR_FAULT clears the fault counts and returns the channel to RUN. -/
  | posClrFault (via : Ingress) (h : Hdr) (channel : Fin 4) (value : Word)
  /-- POS_Z_ARM (R264). Z_ARM sets up a reference at the next index edge. -/
  | posZArm (via : Ingress) (h : Hdr) (channel : Fin 4) (value : Word)
  /-- POS_QUAD_EDGE (R262). A filtered quadrature change counts R, updates H and may declare a reversal. -/
  | posQuadEdge (channel : Fin 4) (lineA lineB : Bool)
  /-- POS_INDEX_EDGE (R264). A Z rising edge latches R and, if armed, references the count and clears DOUBT. -/
  | posIndexEdge (channel : Fin 4)
  /-- POS_SC_SAMPLE (R267). A sine/cosine sample pair is corrected, checked for amplitude and unwrapped into R. -/
  | posScSample (channel : Fin 4) (sine cosine : BitVec 16)
  /-- POS_SSI_READ (R268). The SSI period elapses and a read of the absolute encoder is made, checked and counted. -/
  | posSsiRead (channel : Fin 4) (ready : Bool) (bits : BitVec 32) (parity : Bool)
  /-- POS_OBS_UPDATE (R275). Every 250 ns the observer updates and sends the print channel state to the nozzle engine. -/
  | posObsUpdate
  /-- POS_STANDSTILL (R276). No edge for STILL µs resets the observer to standstill. -/
  | posStandstill (channel : Fin 4)
  /-- CMP_PULSE_END (R282). The POS_CMPu pulse width expires and the pin falls. -/
  | cmpPulseEnd (cmp : Fin 4)
  /-- CMP_CTL_EN_WRITE (R284). Writing EN starts a compare unit from entry 0, or stops it. -/
  | cmpCtlEnWrite (via : Ingress) (h : Hdr) (cmp : Fin 4) (value : Word)
  /-- CMP_ENTRY_COMMIT (R285). A write to ENTRY_HI commits a compare entry, or is refused at the pointer. -/
  | cmpEntryCommit (via : Ingress) (h : Hdr) (cmp : Fin 4) (entry : Fin 1024) (value : Word)
  /-- NMAP_LOAD (R306). Claims the spare bank for the host, optionally copying the live bank. -/
  | nmapLoad (via : Ingress) (h : Hdr) (params : List Byte)
  /-- NMAP_SWAP (R307). Releases the spare, or starts the checked swap of the host's table. -/
  | nmapSwap (via : Ingress) (h : Hdr) (params : List Byte)
  /-- NMAP_SWAP_CHECKS_END (R307). The swap steps complete: the spare becomes PENDING, or the swap fails with a reason. -/
  | nmapSwapChecksEnd
  /-- NMAP_HOLD_EXPIRY (R312). The host's claim exceeds NMAP_HOLD: SPARE becomes FREE and HOLD_EXPIRED is set. -/
  | nmapHoldExpiry
  /-- INTERNAL_SWAP_START (R305). With the queue non-empty and SPARE FREE, an internal swap copies the live bank and applies the queue. -/
  | internalSwapStart
  /-- INTERNAL_SWAP_READY (R305). The merge and trim transfer complete and the spare becomes PENDING. -/
  | internalSwapReady
  /-- NMAP_SWAP_TAKE_EFFECT (R310). A PENDING swap takes effect at fire k, or within 10 µs when not armed, setting NMAP_SWAP_ROW. -/
  | nmapSwapTakeEffect
  /-- FIRE_ARM (R320). Checks and arms the bar on the grid, filling the line buffers and setting the first fire. -/
  | fireArm (via : Ingress) (h : Hdr) (params : List Byte)
  /-- FIRE_DECISION (R329). At d_k, page starts, origins and nearest-fire row assignment are decided, fetches issued and fire packets built. -/
  | fireDecision (unserved : List (Fin 256))
  /-- FIRE_INSTANT (R315). At t_k, fire packets and MARKs are sent to every enabled head. -/
  | fireInstant
  /-- FIRE_STALL (R336). No row falls due for STALL ms while a page prints, and STALLED is set. -/
  | fireStall
  /-- FIRE_STOP (R339). Stops the bar at once, or after the started pages end. -/
  | fireStop (via : Ingress) (h : Hdr) (params : List Byte)
  /-- FIRE_STOP_COMPLETE (R340). Within 1 µs of the last fire, pages end, rows are released, FIRE_STOPPED is raised and ARMED clears. -/
  | fireStopComplete
  /-- FIRE_WF_GO (R358). A write of GO checks the named heads' spare waveform banks and makes the swap pending. -/
  | fireWfGo (via : Ingress) (h : Hdr)
  /-- WAVEFORM_SWAP_EFFECT (R359). The pending waveform swap takes effect at the next fire, or within 10 µs when not armed. -/
  | waveformSwapEffect
  /-- HL_FIRE_DELAY_WRITE (R399). A host write of TAP sets the fire delay from the next decision, and BASE and T_BASE. -/
  | hlFireDelayWrite (via : Ingress) (h : Hdr) (port : Fin 64) (value : Word)
  /-- HL_WF_CFG_WRITE (R363). A write of the waveform limits or WHEY_MODE is checked and applies from the next decision. -/
  | hlWfCfgWrite (via : Ingress) (h : Hdr) (port : Fin 64) (limit : Bool) (value : Word)
  /-- HL_CTL_EN_WRITE (R367). Writing EN moves a head link to DETECT or DISABLED, refused while firing. -/
  | hlCtlEnWrite (via : Ingress) (h : Hdr) (port : Fin 64) (value : Word)
  /-- HL_CTL_RETRAIN (R367). A write of RETRAIN sends the head link to DETECT. -/
  | hlCtlRetrain (via : Ingress) (h : Hdr) (port : Fin 64) (value : Word)
  /-- HL_LOCK_HELD (R367). The return lane holds block lock for 1 ms, and the port enters ALIGN; PRESENT is set. -/
  | hlLockHeld (port : Fin 64)
  /-- HL_ALIGN_DONE (R369). The phase sweep ends and sets TAP, entering CAPS or failing for a small eye. -/
  | hlAlignDone (port : Fin 64) (errorFree : BitVec 64)
  /-- HL_STATE_TIMEOUT (R367). The ALIGN or CAPS limit expires and the port returns to DETECT. -/
  | hlStateTimeout (port : Fin 64)
  /-- HL_BLOCK_LOCK_LOST (R368). Return-lane lock is lost and the port goes to ALIGN, stopping the bar if armed. -/
  | hlBlockLockLost (port : Fin 64)
  /-- HL_LOCK_NOT_REGAINED (R368). Lock is not regained within 1 ms, the port goes to DETECT and PRESENT clears. -/
  | hlLockNotRegained (port : Fin 64)
  /-- HL_CAP_RX (R370). A head CAP block agrees the version and features, or starts a version retry. -/
  | hlCapRx (port : Fin 64) (frame : HeadFrame)
  /-- HL_CAP_RETRY (R370). Every 100 ms, CAPS retries after a version mismatch. -/
  | hlCapRetry (port : Fin 64)
  /-- HL_ECHO_TIMER (R371). Every 10 ms an ECHO is sent to measure the link delay. -/
  | hlEchoTimer (port : Fin 64)
  /-- HL_ECHO_RSP_RX (R371). An ECHO_RSP gives a delay sample that updates HL_DELAY. -/
  | hlEchoRspRx (port : Fin 64) (frame : HeadFrame) (roundTrip : Word)
  /-- HL_ID_DATA_RX (R372). Head-ID data fills the copy; when complete, the copy is checked. -/
  | hlIdDataRx (port : Fin 64) (frame : HeadFrame)
  /-- HL_CAPS_COMPLETE (R367). CAPS completes and the port enters READY, or HOLD on a standby. -/
  | hlCapsComplete (port : Fin 64)
  /-- HL_ID_ACCEPT (R373). A write of ACCEPT takes a new SERIAL as expected after mismatch 0x3. -/
  | hlIdAccept (via : Ingress) (h : Hdr) (port : Fin 64) (value : Word)
  /-- HL_TRIM_ACK_RX (R378). A TRIM_ACK marks a segment held, or triggers a resend. -/
  | hlTrimAckRx (port : Fin 64) (frame : HeadFrame)
  /-- HL_TRIM_ACK_TIMEOUT (R378). A TRIM segment that is unanswered for 20 µs is sent again. -/
  | hlTrimAckTimeout (port : Fin 64) (bank : Fin 2) (segment : Fin 4)
  /-- HL_ACK_RX (R377). A fire ACK is received; failures are counted and the rows are marked not fired. -/
  | hlAckRx (port : Fin 64) (frame : HeadFrame)
  /-- HL_ACK_TIMEOUT (R377). A fire has no ACK by t_k + 20 µs; HL_MISSED counts, and eight in a row take the link down. -/
  | hlAckTimeout (port : Fin 64)
  /-- HL_TEMP_RX (R379). A TEMP block updates the head readings and may raise HL_HEAD_TEMP. -/
  | hlTempRx (port : Fin 64) (frame : HeadFrame)
  /-- HL_TEMP_CFG_WRITE (R380). A write to HL_TEMP_CFG is checked and re-arms the head temperature cases. -/
  | hlTempCfgWrite (via : Ingress) (h : Hdr) (port : Fin 64) (value : Word)
  /-- HL_MEAS_GO (R387). A write of GO starts an element resistance measurement on the named heads. -/
  | hlMeasGo (via : Ingress) (h : Hdr)
  /-- HL_MEAS_ABORT (R389). A write of ABORT ends the measurement with RESULT 3. -/
  | hlMeasAbort (via : Ingress) (h : Hdr)
  /-- HL_MEAS_SETTLE_END (R387). The heads settle and measurement begins, or WAIT expires with RESULT 4. -/
  | hlMeasSettleEnd (settled : Bool)
  /-- HL_MEAS_DATA_RX (R388). MEAS_DATA results are corrected to 25 °C, written, and out-of-band ones queue masks. -/
  | hlMeasDataRx (port : Fin 64) (frame : HeadFrame)
  /-- CAL_TEMP_CHECK (R394). Every 1 ms the temperatures are compared with the references and heads or channels fall due. -/
  | calTempCheck
  /-- CAL_AUTO_RUN_START (R395). With items due and no run in progress, an automatic run starts. -/
  | calAutoRunStart
  /-- CAL_FORCED_RUN_START (R397). A head reaching READY or HOLD with FIRST clear starts a forced run. -/
  | calForcedRunStart
  /-- CAL_RUN (R396). Starts a run of the named items for the named heads and channels. -/
  | calRun (via : Ingress) (h : Hdr) (params : List Byte)
  /-- CAL_ITEM_END (R403). An item's result is checked and applied, rejected, skipped or discarded. -/
  | calItemEnd (item : Fin 4) (index : Fin 64) (agree : BitVec 64)
  /-- CSI_PACKET_RX (R417). A CSI-2 packet is checked and handled as Frame Start, line or Frame End. -/
  | csiPacketRx (port : Fin 4) (packet : CsiPacket)
  /-- CAM_FRAME_TIMEOUT (R417). No packet for FRAME_TO ms ends the frame as NO_FE. -/
  | camFrameTimeout (port : Fin 4) (exposure : Fin 3)
  /-- ISP_LINE_PROCESSED (R421). A merged line passes through the pipeline and its outputs are written. -/
  | ispLineProcessed
  /-- ISP_COMMIT (R434). A write of COMMIT checks the shadow parameter set and marks it for taking. -/
  | ispCommit (via : Ingress) (h : Hdr) (port : Fin 4) (value : Word)
  /-- ISP_SHADOW_TAKEN (R435). A committed set becomes active at the next Frame Start, or within 10 µs with EN 0. -/
  | ispShadowTaken (port : Fin 4)
  /-- CAM_CTL_WRITE (R436). A write of CAM_CTL enables a port after a set is taken, or ends it at once. -/
  | camCtlWrite (via : Ingress) (h : Hdr) (port : Fin 4) (value : Word)
  /-- INSPECT_SET (R440). Switches inspection, NOMASK and the head mask, and may restart the baseline. -/
  | inspectSet (via : Ingress) (h : Hdr) (params : List Byte)
  /-- NHA_GROUP_ANALYSE (R443). A posted group is read from MV, placed on rows and added to nozzle sums, or set aside. -/
  | nhaGroupAnalyse (port : Fin 4)
  /-- NOZZLE_REPORT_RX (R459). A NOZZLE_REPORT cell is gathered into a block that is placed and added to nozzle sums. -/
  | nozzleReportRx (cell : List Byte)
  /-- NHA_REPORT_TIMEOUT (R459). A block not complete within 1 ms is discarded and counted late. -/
  | nhaReportTimeout (source : Fin 4) (bseq : BitVec 16)
  /-- NHA_RWAIT_EXPIRY (R441). NHA_RWAIT passes after a row passes a remote far line and the row counts as read back. -/
  | nhaRwaitExpiry (source : Fin 4) (ringRow : BitVec 48)
  /-- NHA_WINDOW_CLOSE (R450). A 512-row window is read back; gains, classes and streaks are computed and masks queued. -/
  | nhaWindowClose
  /-- NHA_SOURCE_EN_WRITE (R456). Writing EN of a local port or remote source starts a new baseline period. -/
  | nhaSourceEnWrite (via : Ingress) (h : Hdr) (source : Fin 8) (value : Word)
  /-- PAIR_CTL_CLAIM (R469). A write of CLAIM moves the role to GUARD, unless refused. -/
  | pairCtlClaim (via : Ingress) (h : Hdr) (value : Word)
  /-- PAIR_CTL_RELEASE (R469). A write of RELEASE gives up ownership, stopping an armed bar. -/
  | pairCtlRelease (via : Ingress) (h : Hdr) (value : Word)
  /-- PAIR_CTL_EN_WRITE (R468). Writing EN moves the role between IDLE and STANDBY. -/
  | pairCtlEnWrite (via : Ingress) (h : Hdr) (value : Word)
  /-- PAIR_GUARD_PASS (R468). OWN_PEER_N stays released for 2 µs in GUARD; OWN_OUT_N goes low and the role becomes OWNER. -/
  | pairGuardPass
  /-- OWN_PEER_N_CHANGE (R480). The filtered peer claim changes; a guard ends, a conflict arises, or a watching standby begins takeover. -/
  | ownPeerNChange (low : Bool)
  /-- PAIR_WATCH_START (R480). OWN_PEER_N asserted without a break for 1 ms sets WATCH. -/
  | pairWatchStart
  /-- PAIR_CONFLICT_TIMEOUT (R472). Member 0 still sees the peer claim 50 µs after a conflict and releases. -/
  | pairConflictTimeout
  /-- PAIR_HB_SEND (R474). Every HB_INTERVAL a STATE cell is sent and IN_STEP is evaluated. -/
  | pairHbSend
  /-- PAIR_HB_LOSS (R480). No STATE within HB_LOSS clears PEER_IN_STEP and raises PAIR_PEER_LOST. -/
  | pairHbLoss
  /-- PAIR_SYNC_RX (R473). A PAIR_SYNC cell of kind STATE, SEGMENT or BANK is checked and applied. -/
  | pairSyncRx (cell : List Byte)
  /-- PAIR_SWAP (R483). Hands the bar to the standby at once or at the next page gap. -/
  | pairSwap (via : Ingress) (h : Hdr) (params : List Byte)
  /-- HOOP_WDOG_EXPIRY (R485). A core's watchdog expires, raising SYS_WDOG_COREn and latching a Hoop cause. -/
  | hoopWdogExpiry (core : Fin 2)
  /-- HOOP_KICK (R485). A CORE write to HOOP_KICK restarts a core's watchdog. -/
  | hoopKick (cores : BitVec 2)
  /-- HOOP_CTL_FORCE (R485). A write of FORCE latches cause 7. -/
  | hoopCtlForce (via : Ingress) (h : Hdr) (value : Word)
  /-- HOOP_HOLD_EXPIRY (R486). The hold ends; OWN_OUT_N is released and FAULT_N and CAP_REQ_N are asserted. -/
  | hoopHoldExpiry
  /-- HOOP_CFG_WRITE (R488). A write to HOOP_CFG is checked against EN and the armed state. -/
  | hoopCfgWrite (via : Ingress) (h : Hdr) (value : Word)
  /-- AXIS_MOVE (R504). Starts a profiled move, or a run, of one axis. -/
  | axisMove (via : Ingress) (h : Hdr) (params : List Byte)
  /-- AXIS_STOP (R508). Stops the named axes immediately. -/
  | axisStop (via : Ingress) (h : Hdr) (params : List Byte)
  /-- AXIS_HOME (R514). Starts a search for the home switch. -/
  | axisHome (via : Ingress) (h : Hdr) (params : List Byte)
  /-- AXIS_PROFILE_TICK (R501). Every 1 µs the profile updates acceleration and VNOW and ends moves at the target. -/
  | axisProfileTick (axis : Fin 6)
  /-- AXIS_MICROSTEP (R495). The phase accumulator overflows and one microstep is issued. -/
  | axisMicrostep (axis : Fin 6)
  /-- AXIS_PWM_PERIOD (R498). At each 25 µs period start the phase duties are computed from P and VNOW. -/
  | axisPwmPeriod (axis : Fin 6)
  /-- AXIS_DRIVER_FAULT (R493). A filtered AXa_FLT_N low faults the axis to FAULT with its coils off. -/
  | axisDriverFault (axis : Fin 6)
  /-- AXIS_LIMIT_TRIP (R512). A limit holds its active level for DEB µs, latches P and may fault or end homing. -/
  | axisLimitTrip (axis : Fin 6) (hi : Bool) (since : BitVec 10)
  /-- AXIS_LIMIT_RELEASE (R512). A tripped limit holds inactive for DEB µs and is released. -/
  | axisLimitRelease (axis : Fin 6) (hi : Bool)
  /-- AXIS_CTL_WRITE (R494). A write of EN or CLR_FAULT moves the axis state. -/
  | axisCtlWrite (via : Ingress) (h : Hdr) (axis : Fin 6) (value : Word)
  /-- AXIS_POS_COMMIT (R511). A write to AXIS_POS_HI commits P and clears POS_DOUBT. -/
  | axisPosCommit (via : Ingress) (h : Hdr) (axis : Fin 6) (value : Word)
  /-- LAMP_PWM_PERIOD (R520). Every 4 µs DUTY is recomputed and the dithered on-time is set. -/
  | lampPwmPeriod (channel : Fin 8)
  /-- LAMP_STROBE_OPEN (R522). A scheduled strobe window opens. -/
  | lampStrobeOpen (channel : Fin 8)
  /-- LAMP_STROBE_CLOSE (R522). A strobe window closes. -/
  | lampStrobeClose (channel : Fin 8)
  /-- LAMP_SET_WRITE (R524). A write of LAMP_SET starts a fade toward TARGET. -/
  | lampSetWrite (via : Ingress) (h : Hdr) (channel : Fin 8) (value : Word)
  /-- LAMP_FADE_TICK (R524). Every 1 ms a fade advances NOW, and completes at tick n. -/
  | lampFadeTick (channel : Fin 8)
  /-- NTC_EVALUATION (R527). Every 1 ms the NTC codes are converted into temperatures and channel gains. -/
  | ntcEvaluation (codes : Vector (BitVec 12) 8)
  /-- LAMP_GLOBAL_LOAD (R529). A write of LOAD checks the staged tables and applies them at the next evaluation. -/
  | lampGlobalLoad (via : Ingress) (h : Hdr)
  /-- LAMP_CTL_WRITE (R519). A write of LAMP_CTL sets EN and mode, refused while enabled for MODE and NTC. -/
  | lampCtlWrite (via : Ingress) (h : Hdr) (channel : Fin 8) (value : Word)
  /-- MX_SLOT (R530). Each 125 µs slot blanks, then drives one matrix row with its cell levels. -/
  | mxSlot
  /-- CHK_GO (R534). A write of GO checks and starts a scan. -/
  | chkGo (via : Ingress) (h : Hdr) (unit : Fin 4) (value : Word)
  /-- CHK_ABORT (R536). A write of ABORT stops a running scan. -/
  | chkAbort (via : Ingress) (h : Hdr) (unit : Fin 4) (value : Word)
  /-- CHK_INIT (R533). A write of INIT loads the algorithm's initial state into VALUE. -/
  | chkInit (via : Ingress) (h : Hdr) (unit : Fin 4) (value : Word)
  /-- CHK_SCAN_END (R536). A scan ends DONE with MATCH, or ends with ERROR. -/
  | chkScanEnd (unit : Fin 4)
  /-- NVM_WRITE (R543). Writes or erases MRAM pages with verify. -/
  | nvmWrite (via : Ingress) (h : Hdr) (params : List Byte)
  /-- NVM_READ (R544). Returns COUNT MRAM pages. -/
  | nvmRead (via : Ingress) (h : Hdr) (params : List Byte)
  /-- NVM_PAGE_WRITTEN (R543). A page write and verify complete; the next host or device page follows. -/
  | nvmPageWritten (firstBad secondBad : Bool)
  /-- JTAG_TCK_EDGE (R59). An edge of TCK, with TMS, TDI and TRST_N, advances the IEEE 1149.1 test access port and its instruction and boundary registers. -/
  | jtagTckEdge (rising tms tdi trstN : Bool)
  /-- PTP_MESSAGE_INTERVAL (R161). A port's IEEE 1588 message interval expires and it sends Sync, Announce, Delay_Req or Pdelay_Req with a hardware timestamp. -/
  | ptpMessageInterval (port : Fin 2) (kind : PtpKind)
  /-- FAB_SLEEP_RX (R183). A SLEEP control block arrives on a fabric receive lane; the receiver holds lock across the silences and shows RX_SLEEP until traffic returns. -/
  | fabSleepRx (port : Fin 8)
  /-- HL_HOLD_EXIT_IDLE_END (R383). The 4 µs of IDLE blocks sent when a head link leaves HOLD end, and the port enters FIRING if armed or READY otherwise. -/
  | hlHoldExitIdleEnd (port : Fin 64)
  /-- DMA_TRANSFER_FAULT (R255). An access of a running descriptor fails (ECC, RANGE, DORMANT, REFUSED or a remap column), and the channel stops in ERROR with DMA_ERROR. -/
  | dmaTransferFault (channel : Fin 32)
  /-- CAM_ULPS_CHANGE (R412). A camera link enters or leaves ULPS by an LP-RX escape sequence (deskew sequences are received the same way), and CAM_STATUS.ULPS follows. -/
  | camUlpsChange (port : Fin 4) (ulps : Bool)
  /-- NHA_LAG_TIMEOUT (R461). A posted group has waited more than 10 ms for analysis, and NHA_STATUS.LAG becomes 1. -/
  | nhaLagTimeout
  /-- AXIS_FLT_N_RELEASE (R493). Filtered AXa_FLT_N returns high, and FLT_IN clears so that CLR_FAULT can be accepted. -/
  | axisFltNRelease (axis : Fin 6)
  deriving DecidableEq, Repr

end Sys2Proof
end

