-- ==== Sys2Proof/Decode.lean ====
section
/-! DEFINITION. Words of the table of commands. The table gives no row any bits: a command reaches the block as a packet, a frame or an event, never as a word. -/

namespace Sys2Proof

/-- The command that a word spells by the table's bits: none, as the table gives no row bits. -/
def decodeTableWord (_nbits _w : Nat) : Option Instr := none

end Sys2Proof
end

