-- ==== Sys2Proof/Config.lean ====
section
/-! DEFINITION. What one part of the FZ8131 fixes for itself (its fuses, R2, R141, R189, R96) and the values the spec leaves open, as constants without a body. -/

namespace Sys2Proof

/-- Free values (notes/assumptions/1.md): the n-th value that the spec leaves open on a run. Nothing is known of it. -/
opaque Config.freeBits : Nat → BitVec 64

/-- The fused 64-bit unique ID (R141, R189). -/
opaque Config.uidBits : BitVec 64

/-- The fuse that tells an FZ8131-I from an FZ8131-C (R1, R2). -/
opaque Config.industrial : Bool

/-- R96, check 5: SHA-384 of PUBKEY equals the fused key hash. The fused hash is the part's own. -/
opaque Config.keyHashMatches : List Byte → Bool

/-- R96, check 6: the ECDSA P-384 verification of a signature with a key over bytes (key, signature, bytes). -/
opaque Config.signatureVerifies : List Byte → List Byte → List Byte → Bool

/-- R59: the number of cells of the boundary register, which the BSDL description gives and this spec does not. -/
opaque Config.boundaryCells : Nat

/-- R225: how the compressor codes is its own choice; any tokens that decode to the codes will do. From the codes still to code, which token comes next. -/
opaque Config.coderChoice : List Nat → Nat

/-- R242: which of the eight sensors of SYS lies nearest each DRAM controller. The spec names none. -/
opaque Config.dramSensor : Nat → Nat

/-- The unique ID as a number. -/
def Config.uid : Nat := Config.uidBits.toNat

/-- SYS_ID.GRADE (R2): 0x1 for the FZ8131-C, 0x2 for the FZ8131-I. -/
def Config.grade : Nat := if Config.industrial then 2 else 1

/-- SYS_TEMP_CFG.WARN at reset (Table 3.9). -/
def Config.tempWarnReset : Nat := if Config.industrial then 95 else 85

/-- SYS_TEMP_CFG.CRIT at reset, which is also the part's maximum junction temperature in degrees (Tables 0.2 and 3.9). -/
def Config.tempCritReset : Nat := if Config.industrial then 105 else 95

/-- HOST_MAC of port p at reset (R141): byte 0, then 0x5A, then the unique ID's bits [31:0]. -/
def Config.factoryMac (p : Nat) : Nat :=
  ((if p = 0 then 0x02 else 0x06) * 2 ^ 40) + 0x5A * 2 ^ 32 + Config.uid % 2 ^ 32

/-- R497: entries 0 of the quarter wave. -/
def Config.quarterSine0 : List Nat :=
  [3, 9, 16, 22, 28, 35, 41, 47, 53, 60, 66, 72, 78, 85, 91, 97,
   103, 110, 116, 122, 128, 135, 141, 147, 153, 159, 166, 172, 178, 184, 190, 196,
   203, 209, 215, 221, 227, 233, 239, 246, 252, 258, 264, 270, 276, 282, 288, 294,
   300, 306, 312, 318, 324, 330, 336, 342, 348, 353, 359, 365, 371, 377, 383, 389]

/-- R497: entries 1 of the quarter wave. -/
def Config.quarterSine1 : List Nat :=
  [394, 400, 406, 412, 417, 423, 429, 435, 440, 446, 452, 457, 463, 468, 474, 479,
   485, 491, 496, 502, 507, 512, 518, 523, 529, 534, 539, 545, 550, 555, 560, 566,
   571, 576, 581, 586, 592, 597, 602, 607, 612, 617, 622, 627, 632, 637, 642, 647,
   651, 656, 661, 666, 671, 675, 680, 685, 689, 694, 699, 703, 708, 712, 717, 721]

/-- R497: entries 2 of the quarter wave. -/
def Config.quarterSine2 : List Nat :=
  [726, 730, 734, 739, 743, 747, 752, 756, 760, 764, 768, 773, 777, 781, 785, 789,
   793, 797, 801, 805, 808, 812, 816, 820, 824, 827, 831, 835, 838, 842, 845, 849,
   852, 856, 859, 863, 866, 869, 873, 876, 879, 882, 885, 889, 892, 895, 898, 901,
   904, 907, 909, 912, 915, 918, 921, 923, 926, 929, 931, 934, 937, 939, 941, 944]

/-- R497: entries 3 of the quarter wave. -/
def Config.quarterSine3 : List Nat :=
  [946, 949, 951, 953, 956, 958, 960, 962, 964, 966, 968, 970, 972, 974, 976, 978,
   980, 982, 983, 985, 987, 988, 990, 992, 993, 995, 996, 997, 999, 1000, 1001, 1003,
   1004, 1005, 1006, 1007, 1008, 1010, 1011, 1011, 1012, 1013, 1014, 1015, 1016, 1016, 1017, 1018,
   1018, 1019, 1019, 1020, 1020, 1021, 1021, 1022, 1022, 1022, 1022, 1023, 1023, 1023, 1023, 1023]

/-- R497: the axis table T[m] at reset, round(1,023 x sin(pi/2 x (m + 0.5) / 256)). -/
def quarterSine (m : Nat) : Nat :=
  if m < 64 then Config.quarterSine0.getD m 0
  else if m < 128 then Config.quarterSine1.getD (m - 64) 0
  else if m < 192 then Config.quarterSine2.getD (m - 128) 0
  else Config.quarterSine3.getD (m - 192) 0

end Sys2Proof
end

