-- ==== Sys2Proof/Machine/RegTable.lean ====
section
/-! DEFINITION. The registers of the register maps (Tables 0.3 to 20.5): one Fld for each field, with its place, its length and its reset value, and one RegRow for each register word. -/

namespace Sys2Proof.Machine

/-- A register field, or an array of them with up to two indices.
The place of a field is the bit address of its lowest bit: 8 times the byte address of its (low) word, plus the bit number in that word. -/
structure Fld where
  /-- Bit address of the field with both indices 0. -/
  at0 : Nat
  /-- Width in bits; a value that spans a low and a high register (R14) is one field. -/
  len : Nat
  /-- Bits from one value of the first index to the next. -/
  s1 : Nat := 0
  /-- Bits from one value of the second index to the next. -/
  s2 : Nat := 0
  /-- Reset value (R13). -/
  rst : Nat → Nat → Nat := fun _ _ => 0

/-- The bit address of one field of an array. -/
def Fld.key (F : Fld) (i j : Nat) : Nat := F.at0 + F.s1 * i + F.s2 * j

/-- The field with d added to its place, its first index and its second: for the several equal fields of one word. -/
def Fld.sub (F : Fld) (i j : Nat) : Fld := { F with at0 := F.key i j, rst := fun a b => F.rst (a + i) (b + j) }

/-- The access codes of Table 0.6 that the register maps use. -/
inductive Acc where
  | ro | rw | rwc | w1c | w1s | wo
  deriving DecidableEq, Repr

/-- One field as it stands in a register word: its bits hi to lo there, its access code, and the part of the field they show, from bit off of it. -/
structure Slot where
  hi : Nat
  lo : Nat
  acc : Acc
  fld : Fld
  off : Nat := 0

/-- One register word, or an array of them: byte address, strides and counts of its two indices, and its fields. -/
structure RegRow where
  base : Nat
  s1 : Nat
  n1 : Nat
  s2 : Nat
  n2 : Nat
  slots : List Slot

/-- A WO field, which stores nothing (Table 0.6). -/
def Fld.none : Fld := { at0 := 0, len := 0 }

/-! ### Table 0.3, 00_scope.md -/

/-- R2: RO, reset 0x8131. -/
def SYS_ID.DEVICE : Fld := { at0 := 0x10, len := 16, rst := fun _ _ => 0x8131 }
/-- R2: RO, reset 0xB. -/
def SYS_ID.MAJOR : Fld := { at0 := 0xc, len := 4, rst := fun _ _ => 0xb }
/-- R2: RO, reset 0x0. -/
def SYS_ID.MINOR : Fld := { at0 := 8, len := 4 }
/-- R2: RO, reset fused. -/
def SYS_ID.GRADE : Fld := { at0 := 4, len := 4, rst := fun _ _ => Config.grade }
/-! ### Table 3.2, 03_power_and_wake.md -/

/-- R66: RWC, reset 0x03E8. -/
def SYS_PD_CTL.NAP_DELAY : Fld := { at0 := 0x1010, len := 16, s1 := 0x20, rst := fun _ _ => 0x3e8 }
/-- R66: RWC, reset 0x10. -/
def SYS_PD_CTL.IDLE_TIMER : Fld := { at0 := 0x1008, len := 8, s1 := 0x20, rst := fun _ _ => 0x10 }
/-- R66: RWC, reset 0. -/
def SYS_PD_CTL.NAP_EN : Fld := { at0 := 0x1000, len := 1, s1 := 0x20 }
/-! ### Table 3.4, 03_power_and_wake.md -/

/-- R72: RO, reset 0. -/
def CAVE_VALID.VALID : Fld := { at0 := 0x9800001, len := 17 }
/-- R72: W1C, reset 0. -/
def CAVE_LOST.LOST : Fld := { at0 := 0x9800021, len := 17 }
/-! ### Table 3.6, 03_power_and_wake.md -/

/-- R78: RO, reset 0x0. -/
def AON_STATUS.BOOT : Fld := { at0 := 0x81c, len := 4 }
/-- R78: RO, reset 0x0. -/
def AON_STATUS.CAUSE : Fld := { at0 := 0x818, len := 4 }
/-- R78: RO, reset 0. -/
def AON_STATUS.DOMAIN : Fld := { at0 := 0x812, len := 5 }
/-- R78: RO, reset 0. -/
def AON_STATUS.GROUP : Fld := { at0 := 0x810, len := 2 }
/-- R78: RO, reset 0. -/
def AON_STATUS.ATTEMPTS : Fld := { at0 := 0x80d, len := 3 }
/-- R78: W1C, reset 0. -/
def AON_STATUS.FAIL : Fld := { at0 := 0x807, len := 1 }
/-- R78: RO, reset 0. -/
def AON_STATUS.WAKE_FAIL_PEND : Fld := { at0 := 0x806, len := 1 }
/-- R78: RO, reset 0b00. -/
def AON_STATUS.WAKE_SRC : Fld := { at0 := 0x804, len := 2 }
/-- R78: W1C, reset 0. -/
def AON_STATUS.TIME_HOLDOVER : Fld := { at0 := 0x803, len := 1 }
/-- R78: RO, reset 0x0000_0002, 0x0. -/
def AON_PD_STATE.STATE : Fld := { at0 := 0x820, len := 2, s1 := 2, rst := fun d _ => if d = 0 then 2 else 0 }
/-- R78: RW, reset 0x32. -/
def AON_WAKE_CFG.T_REG : Fld := { at0 := 0x878, len := 8, rst := fun _ _ => 0x32 }
/-- R78: RW, reset 0x14. -/
def AON_WAKE_CFG.T_LOCK : Fld := { at0 := 0x870, len := 8, rst := fun _ _ => 0x14 }
/-- R78: RW, reset 0x0A. -/
def AON_WAKE_CFG.BACKOFF : Fld := { at0 := 0x868, len := 8, rst := fun _ _ => 0xa }
/-- R78: RW, reset 0x3. -/
def AON_WAKE_CFG.RETRIES : Fld := { at0 := 0x860, len := 3, rst := fun _ _ => 3 }
/-- R78: W1S, reset 0. -/
def AON_CTL.SB_WR_LOCK : Fld := { at0 := 0x89f, len := 1 }
/-- R78: RW, reset 0x0. -/
def AON_CTL.WAKE_CMP : Fld := { at0 := 0x88c, len := 4 }
/-- R78: RW, reset 1. -/
def AON_CTL.WAKE_SB_EN : Fld := { at0 := 0x889, len := 1, rst := fun _ _ => 1 }
/-- R78: RW, reset 1. -/
def AON_CTL.WAKE_PIN_EN : Fld := { at0 := 0x888, len := 1, rst := fun _ _ => 1 }
/-- R78: RO, reset 0x0032_0000. -/
def AON_TIME_CAL.PERIOD : Fld := { at0 := 0x8a0, len := 32, rst := fun _ _ => 0x320000 }
/-! ### Table 3.9, 03_power_and_wake.md -/

/-- R85: RO, reset X. -/
def SYS_TEMP.HOTTEST : Fld := { at0 := 0x210, len := 4 }
/-- R85: RO, reset X. -/
def SYS_TEMP.MAX : Fld := { at0 := 0x200, len := 16 }
/-- R85: RW, reset grade. -/
def SYS_TEMP_CFG.WARN : Fld := { at0 := 0x228, len := 8, rst := fun _ _ => Config.tempWarnReset }
/-- R85: RW, reset grade. -/
def SYS_TEMP_CFG.CRIT : Fld := { at0 := 0x220, len := 8, rst := fun _ _ => Config.tempCritReset }
/-! ### Table 3.12, 03_power_and_wake.md -/

/-- R93: RO, reset 0. -/
def SYS_PL.VSETTLING : Fld := { at0 := 0x89, len := 1 }
/-- R93: RO, reset 0. -/
def SYS_PL.PENDING : Fld := { at0 := 0x88, len := 1 }
/-- R93: RO, reset 0b01. -/
def SYS_PL.IN_FORCE : Fld := { at0 := 0x84, len := 2, rst := fun _ _ => 1 }
/-- R93: RWC, reset 0b01. -/
def SYS_PL.REQ : Fld := { at0 := 0x80, len := 2, rst := fun _ _ => 1 }
/-! ### Table 4.8, 04_command_packets.md -/

/-- R124: RW, reset 0. -/
def SYS_CMD_DISCARD.COUNT : Fld := { at0 := 0x1800, len := 32 }
/-- R124: RW, reset 0. -/
def SYS_CMD_REFUSED.COUNT : Fld := { at0 := 0x1820, len := 32 }
/-- R124: RO, reset 0. -/
def SYS_CMD_INFLIGHT.NOW : Fld := { at0 := 0x1840, len := 9 }
/-! ### Table 4.10, 04_command_packets.md -/

/-- R128: W1S, reset 0. -/
def ACC_CTL.LOCK : Fld := { at0 := 0x80000, len := 1 }
/-- R128: W1C, reset 0. -/
def ACC_VIOL_INFO.VALID : Fld := { at0 := 0x8003f, len := 1 }
/-- R128: RO, reset 0. -/
def ACC_VIOL_INFO.CLASS : Fld := { at0 := 0x8003c, len := 3 }
/-- R128: RO, reset 0. -/
def ACC_VIOL_INFO.KIND : Fld := { at0 := 0x8003a, len := 2 }
/-- R128: RO, reset 0. -/
def ACC_VIOL_INFO.SPACE : Fld := { at0 := 0x80038, len := 2 }
/-- R128: RO, reset 0. -/
def ACC_VIOL_INFO.INDEX : Fld := { at0 := 0x80030, len := 8 }
/-- R128: RO, reset 0. -/
def ACC_VIOL_INFO.OPCODE : Fld := { at0 := 0x80028, len := 8 }
/-- R128: RO, reset 0. -/
def ACC_VIOL_ADDR.ADDR : Fld := { at0 := 0x80040, len := 40 }
/-- R128: RO, reset 0. -/
def ACC_VIOL_COUNT.COUNT : Fld := { at0 := 0x80080, len := 32 }
/-- R128: RWC, reset 0xE1_BFFF. -/
def ACC_BLK.RIGHTS : Fld := { at0 := 0x80800, len := 24, s1 := 0x20, rst := fun _ _ => 0xe1bfff }
/-- R128: RWC, reset 0xE1_BFFF. -/
def ACC_VAT.RIGHTS : Fld := { at0 := 0x81000, len := 24, s1 := 0x20, rst := fun _ _ => 0xe1bfff }
/-- R128: RWC, reset 0. -/
def ACC_DRAM_BASE.EN : Fld := { at0 := 0x8181f, len := 1, s1 := 0x80 }
/-- R128: RWC, reset 0. -/
def ACC_DRAM_BASE.BASE : Fld := { at0 := 0x81800, len := 15, s1 := 0x80 }
/-- R128: RWC, reset 0. -/
def ACC_DRAM_LIMIT.LIMIT : Fld := { at0 := 0x81820, len := 15, s1 := 0x80 }
/-- R128: RWC, reset 0xE1_BFFF. -/
def ACC_DRAM_RIGHTS.RIGHTS : Fld := { at0 := 0x81840, len := 24, s1 := 0x80, rst := fun _ _ => 0xe1bfff }
/-- R128: RWC, reset 0xE1_BFFF. -/
def ACC_DRAM_DEFAULT.RIGHTS : Fld := { at0 := 0x82000, len := 24, rst := fun _ _ => 0xe1bfff }
/-! ### Table 4.11, 04_command_packets.md -/

/-- R131: RWC, reset Table 4.12. -/
def EVT_ENABLE.ENABLE : Fld := { at0 := 0x100000, len := 32, s1 := 0x20, rst := fun w _ => [0xFFFF0FFF, 0xFFFF1FFF, 0x070FFF01, 0xFF3F1FFF].getD w 0 }
/-- R131: W1C, reset 0. -/
def EVT_PENDING.PENDING : Fld := { at0 := 0x100080, len := 32, s1 := 0x20 }
/-- R131: RWC, reset 0xFFFF_FFFF. -/
def EVT_PIN_MASK.PIN_MASK : Fld := { at0 := 0x100100, len := 32, s1 := 0x20, rst := fun _ _ => 0xffffffff }
/-- R131: RO, reset 0. -/
def EVT_SUMMARY.GROUP : Fld := { at0 := 0x100180, len := 9 }
/-- R131: RO, reset 0. -/
def EVT_COUNT.COUNT : Fld := { at0 := 0x100200, len := 32, s1 := 0x20 }
/-- R131: RWC, reset 0. -/
def EVT_SUB_CFG.EN : Fld := { at0 := 0x10081f, len := 1, s1 := 0x100 }
/-- R131: RWC, reset 0. -/
def EVT_SUB_CFG.BATCH : Fld := { at0 := 0x10081e, len := 1, s1 := 0x100 }
/-- R131: RWC, reset 0b00. -/
def EVT_SUB_CFG.PORT : Fld := { at0 := 0x10081c, len := 2, s1 := 0x100 }
/-- R131: RWC, reset 0. -/
def EVT_SUB_CFG.NODE : Fld := { at0 := 0x100800, len := 10, s1 := 0x100 }
/-- R131: RO, reset 0. -/
def EVT_SUB_SEQ.SEQ : Fld := { at0 := 0x100820, len := 16, s1 := 0x100 }
/-- R131: RWC, reset 0. -/
def EVT_SUB_MASK.MASK : Fld := { at0 := 0x100880, len := 32, s1 := 0x100, s2 := 0x20 }
/-! ### Table 5.5, 05_host_ports_and_time.md -/

/-- R151: RWC, reset 0x000. -/
def HOST_CTL.VID : Fld := { at0 := 0x800010, len := 12, s1 := 0x40000 }
/-- R151: RWC, reset 0. -/
def HOST_CTL.VLAN_EN : Fld := { at0 := 0x80000c, len := 1, s1 := 0x40000 }
/-- R151: RWC, reset 0x0. -/
def HOST_CTL.TX_INV : Fld := { at0 := 0x800008, len := 4, s1 := 0x40000 }
/-- R151: RWC, reset 0x0. -/
def HOST_CTL.RX_INV : Fld := { at0 := 0x800004, len := 4, s1 := 0x40000 }
/-- R151: RWC, reset 1. -/
def HOST_CTL.FEC_EN : Fld := { at0 := 0x800003, len := 1, s1 := 0x40000, rst := fun _ _ => 1 }
/-- R151: RWC, reset 0b00. -/
def HOST_CTL.MODE : Fld := { at0 := 0x800001, len := 2, s1 := 0x40000 }
/-- R151: RWC, reset 0. -/
def HOST_CTL.EN : Fld := { at0 := 0x800000, len := 1, s1 := 0x40000 }
/-- R151: RO, reset 0x0. -/
def HOST_STATUS.BLOCK_LOCK : Fld := { at0 := 0x800028, len := 4, s1 := 0x40000 }
/-- R151: RO, reset 0b00. -/
def HOST_STATUS.MODE_IN_FORCE : Fld := { at0 := 0x800024, len := 2, s1 := 0x40000 }
/-- R151: RO, reset 0. -/
def HOST_STATUS.HI_SER : Fld := { at0 := 0x800023, len := 1, s1 := 0x40000 }
/-- R151: RO, reset 0. -/
def HOST_STATUS.FEC_LOCK : Fld := { at0 := 0x800022, len := 1, s1 := 0x40000 }
/-- R151: RO, reset 0. -/
def HOST_STATUS.ALIGN : Fld := { at0 := 0x800021, len := 1, s1 := 0x40000 }
/-- R151: RO, reset 0. -/
def HOST_STATUS.LINK : Fld := { at0 := 0x800020, len := 1, s1 := 0x40000 }
/-- R151: RWC, reset R141. -/
def HOST_MAC.MAC : Fld := { at0 := 0x800040, len := 48, s1 := 0x40000, rst := fun p _ => Config.factoryMac p }
/-- R151: RWC, reset 0. -/
def HOST_IP.IP : Fld := { at0 := 0x800080, len := 32, s1 := 0x40000 }
/-- R151: RWC, reset 0. -/
def HOST_MCAST.GROUP : Fld := { at0 := 0x8000a0, len := 32, s1 := 0x40000 }
/-- R151: RWC, reset 0x5A31. -/
def HOST_UDP.PORT : Fld := { at0 := 0x8000c0, len := 16, s1 := 0x40000, rst := fun _ _ => 0x5a31 }
/-- R151: RWC, reset 0x0A. -/
def HOST_NAK_CFG.ACK_INTERVAL : Fld := { at0 := 0x8000f8, len := 8, s1 := 0x40000, rst := fun _ _ => 0xa }
/-- R151: RWC, reset 0x4. -/
def HOST_NAK_CFG.NAK_TRIES : Fld := { at0 := 0x8000f0, len := 4, s1 := 0x40000, rst := fun _ _ => 4 }
/-- R151: RWC, reset 0x14. -/
def HOST_NAK_CFG.NAK_RETRY : Fld := { at0 := 0x8000e8, len := 8, s1 := 0x40000, rst := fun _ _ => 0x14 }
/-- R151: RWC, reset 0x14. -/
def HOST_NAK_CFG.NAK_DELAY : Fld := { at0 := 0x8000e0, len := 8, s1 := 0x40000, rst := fun _ _ => 0x14 }
/-- R151: RWC, reset 0. -/
def HOST_PTP_CFG.ASYM : Fld := { at0 := 0x800110, len := 16, s1 := 0x40000 }
/-- R151: RWC, reset 0. -/
def HOST_PTP_CFG.DOMAIN : Fld := { at0 := 0x800108, len := 8, s1 := 0x40000 }
/-- R151: RWC, reset 1. -/
def HOST_PTP_CFG.SLAVE_ONLY : Fld := { at0 := 0x800103, len := 1, s1 := 0x40000, rst := fun _ _ => 1 }
/-- R151: RWC, reset 0. -/
def HOST_PTP_CFG.P2P : Fld := { at0 := 0x800102, len := 1, s1 := 0x40000 }
/-- R151: RWC, reset 0. -/
def HOST_PTP_CFG.UDP : Fld := { at0 := 0x800101, len := 1, s1 := 0x40000 }
/-- R151: RWC, reset 0. -/
def HOST_PTP_CFG.EN : Fld := { at0 := 0x800100, len := 1, s1 := 0x40000 }
/-- R151: RW, reset 0. -/
def HOST_RX_DISCARD.COUNT : Fld := { at0 := 0x800200, len := 32, s1 := 0x40000 }
/-- R151: RW, reset 0. -/
def HOST_RX_GAP.COUNT : Fld := { at0 := 0x800220, len := 32, s1 := 0x40000 }
/-- R151: RW, reset 0. -/
def HOST_FEC_CORR.COUNT : Fld := { at0 := 0x800240, len := 32, s1 := 0x40000 }
/-- R151: RW, reset 0. -/
def HOST_FEC_UNCORR.COUNT : Fld := { at0 := 0x800260, len := 32, s1 := 0x40000 }
/-- R151: RO, reset 0x0. -/
def HOST_RX_REASON.LAST : Fld := { at0 := 0x800280, len := 4, s1 := 0x40000 }
/-! ### Table 5.8, 05_host_ports_and_time.md -/

/-- R164: RW, reset 0b00. -/
def TIME_CTL.SRC : Fld := { at0 := 0x1000000, len := 2 }
/-- R164: RO, reset 0b00. -/
def TIME_STATUS.STEP_RESULT : Fld := { at0 := 0x1000024, len := 2 }
/-- R164: RO, reset 0. -/
def TIME_STATUS.RATE_CLAMPED : Fld := { at0 := 0x1000021, len := 1 }
/-- R164: RO, reset 0. -/
def TIME_STATUS.STEPPED : Fld := { at0 := 0x1000020, len := 1 }
/-- R164: RO, reset 0. -/
def TIME_RAW.RAW : Fld := { at0 := 0x1000040, len := 64 }
/-- R164: RO, reset X. -/
def TIME_NOW.NOW : Fld := { at0 := 0x1000080, len := 64 }
/-- R164: RO, reset X. -/
def TIME_NOW_FRAC.FRAC : Fld := { at0 := 0x10000c0, len := 16 }
/-- R164: RW, reset 0. -/
def TIME_RATE.RATE : Fld := { at0 := 0x1000100, len := 32 }
/-- R164: RW, reset 0x0D1B_7176. -/
def TIME_RATE_MAX.MAX : Fld := { at0 := 0x1000120, len := 31, rst := fun _ _ => 0xd1b7176 }
/-- R164: RO, reset 0. -/
def TIME_OFFSET_FRAC.FRAC : Fld := { at0 := 0x1000140, len := 16 }
/-- R164: RO, reset 0. -/
def TIME_OFFSET.OFFSET : Fld := { at0 := 0x1000160, len := 64 }
/-- R164: RW, reset 0. -/
def TIME_STEP_RAW.RAW_AT : Fld := { at0 := 0x1000200, len := 64 }
/-- R164: RW, reset 0. -/
def TIME_STEP_VAL.VALUE : Fld := { at0 := 0x1000240, len := 64 }
/-- R164: RW, reset 0. -/
def TIME_STEP_CFG.RELATIVE : Fld := { at0 := 0x1000290, len := 1 }
/-- R164: RW, reset 0. -/
def TIME_STEP_CFG.FRAC : Fld := { at0 := 0x1000280, len := 16 }
/-- R164: RW, reset 0. -/
def TIME_CMP.TGT : Fld := { at0 := 0x1000800, len := 48, s1 := 0x80 }
/-- R164: RW, reset 0. -/
def TIME_CMP.EN : Fld := { at0 := 0x100083f, len := 1, s1 := 0x80 }
/-- R164: W1C, reset 0. -/
def TIME_CMP.REACHED : Fld := { at0 := 0x100083e, len := 1, s1 := 0x80 }
/-- R164: RO, reset 0. -/
def TIME_LNCH_CFG.STATE : Fld := { at0 := 0x1001008, len := 3, s1 := 0x100 }
/-- R164: RW, reset 0x0. -/
def TIME_LNCH_CFG.PORT : Fld := { at0 := 0x1001004, len := 4, s1 := 0x100 }
/-- R164: RW, reset 0. -/
def TIME_LNCH_CFG.EN : Fld := { at0 := 0x1001000, len := 1, s1 := 0x100 }
/-- R164: RW, reset 0. -/
def TIME_LNCH_ADDR.OFFSET : Fld := { at0 := 0x1001020, len := 22, s1 := 0x100 }
/-- R164: RW, reset 0. -/
def TIME_LNCH_LEN.LEN : Fld := { at0 := 0x1001040, len := 14, s1 := 0x100 }
/-- R164: RW, reset 0. -/
def TIME_LNCH_TGT.TGT : Fld := { at0 := 0x1001060, len := 48, s1 := 0x100 }
/-- R164: RO, reset 0. -/
def TIME_LNCH_SENT.SENT : Fld := { at0 := 0x10010a0, len := 48, s1 := 0x100 }
/-! ### Table 6.10, 06_evnar_fabric.md -/

/-- R203: RWC, reset 0x0. -/
def FAB_CTL.TEST : Fld := { at0 := 0x1800008, len := 4, s1 := 0x20000 }
/-- R203: RWC, reset 0. -/
def FAB_CTL.TAP_STORE : Fld := { at0 := 0x1800005, len := 1, s1 := 0x20000 }
/-- R203: RWC, reset 0. -/
def FAB_CTL.TAP_MEM : Fld := { at0 := 0x1800004, len := 1, s1 := 0x20000 }
/-- R203: RWC, reset 1. -/
def FAB_CTL.SLEEP_EN : Fld := { at0 := 0x1800003, len := 1, s1 := 0x20000, rst := fun _ _ => 1 }
/-- R203: RWC, reset 0. -/
def FAB_CTL.TX_INV : Fld := { at0 := 0x1800002, len := 1, s1 := 0x20000 }
/-- R203: RWC, reset 0. -/
def FAB_CTL.RX_INV : Fld := { at0 := 0x1800001, len := 1, s1 := 0x20000 }
/-- R203: RWC, reset 0. -/
def FAB_CTL.EN : Fld := { at0 := 0x1800000, len := 1, s1 := 0x20000 }
/-- R203: RO, reset 0x00. -/
def FAB_STATUS.VERSION : Fld := { at0 := 0x1800038, len := 8, s1 := 0x20000 }
/-- R203: RO, reset 0x0. -/
def FAB_STATUS.LAST_DOWN : Fld := { at0 := 0x1800030, len := 4, s1 := 0x20000 }
/-- R203: RO, reset 0. -/
def FAB_STATUS.PEER_PORT : Fld := { at0 := 0x1800029, len := 3, s1 := 0x20000 }
/-- R203: RO, reset 0. -/
def FAB_STATUS.UPSTREAM : Fld := { at0 := 0x1800028, len := 1, s1 := 0x20000 }
/-- R203: RO, reset 0. -/
def FAB_STATUS.TX_SLEEP : Fld := { at0 := 0x1800027, len := 1, s1 := 0x20000 }
/-- R203: RO, reset 0. -/
def FAB_STATUS.RX_SLEEP : Fld := { at0 := 0x1800026, len := 1, s1 := 0x20000 }
/-- R203: RO, reset 0. -/
def FAB_STATUS.STATE : Fld := { at0 := 0x1800020, len := 3, s1 := 0x20000 }
/-- R203: RO, reset 0. -/
def FAB_PEER_UID.UID : Fld := { at0 := 0x1800040, len := 64, s1 := 0x20000 }
/-- R203: RO, reset 52. -/
def FAB_TAPS.MAIN : Fld := { at0 := 0x1800090, len := 6, s1 := 0x20000, rst := fun _ _ => 0x34 }
/-- R203: RO, reset 8. -/
def FAB_TAPS.POST : Fld := { at0 := 0x1800088, len := 5, s1 := 0x20000, rst := fun _ _ => 8 }
/-- R203: RO, reset 3. -/
def FAB_TAPS.PRE : Fld := { at0 := 0x1800080, len := 4, s1 := 0x20000, rst := fun _ _ => 3 }
/-- R203: RO, reset 0. -/
def FAB_DELAY.DELAY : Fld := { at0 := 0x18000a0, len := 32, s1 := 0x20000 }
/-- R203: RWC, reset 0. -/
def FAB_ASYM.ASYM : Fld := { at0 := 0x18000c0, len := 16, s1 := 0x20000 }
/-- R203: RW, reset 0. -/
def FAB_CRC_ERR.COUNT : Fld := { at0 := 0x1800100, len := 32, s1 := 0x20000 }
/-- R203: RW, reset 0. -/
def FAB_REPLAY.COUNT : Fld := { at0 := 0x1800120, len := 32, s1 := 0x20000 }
/-- R203: RW, reset 0. -/
def FAB_TRAIN_FAILS.COUNT : Fld := { at0 := 0x1800140, len := 32, s1 := 0x20000 }
/-- R203: RW, reset 0. -/
def FAB_DROP.COUNT : Fld := { at0 := 0x1800160, len := 32, s1 := 0x20000 }
/-! ### Table 6.11, 06_evnar_fabric.md -/

/-- R204: RO, reset 1. -/
def FAB_NODE.VALID : Fld := { at0 := 0x190001f, len := 1, rst := fun _ _ => 1 }
/-- R204: RO, reset 1. -/
def FAB_NODE.ROOT : Fld := { at0 := 0x190001e, len := 1, rst := fun _ _ => 1 }
/-- R204: RO, reset 0. -/
def FAB_NODE.DEPTH : Fld := { at0 := 0x1900010, len := 8 }
/-- R204: RO, reset 0. -/
def FAB_NODE.ID : Fld := { at0 := 0x1900000, len := 10 }
/-- R204: RWC, reset 0x3FE. -/
def FAB_ID_CFG.ID_HI : Fld := { at0 := 0x1900034, len := 10, rst := fun _ _ => 0x3fe }
/-- R204: RWC, reset 0x000. -/
def FAB_ID_CFG.ID_LO : Fld := { at0 := 0x190002a, len := 10 }
/-- R204: RWC, reset 0x3FF. -/
def FAB_ID_CFG.PREFERRED : Fld := { at0 := 0x1900020, len := 10, rst := fun _ _ => 0x3ff }
/-- R204: RO, reset fused. -/
def FAB_UID.UID : Fld := { at0 := 0x1900040, len := 64, rst := fun _ _ => Config.uid }
/-- R204: RO, reset own UID. -/
def FAB_ROOT_UID.UID : Fld := { at0 := 0x1900080, len := 64, rst := fun _ _ => Config.uid }
/-- R204: RO, reset 0. -/
def FAB_TOPO.GEN : Fld := { at0 := 0x19000d0, len := 16 }
/-- R204: RO, reset 1. -/
def FAB_TOPO.NODES : Fld := { at0 := 0x19000c0, len := 11, rst := fun _ _ => 1 }
/-- R204: RWC, reset 0x7D. -/
def FAB_TIME_CFG.SYNC_INTERVAL : Fld := { at0 := 0x1900118, len := 8, rst := fun _ _ => 0x7d }
/-- R204: RWC, reset 0x01. -/
def FAB_TIME_CFG.DELAY_INTERVAL : Fld := { at0 := 0x1900110, len := 8, rst := fun _ _ => 1 }
/-- R204: RWC, reset 1. -/
def FAB_TIME_CFG.EN : Fld := { at0 := 0x1900100, len := 1, rst := fun _ _ => 1 }
/-- R204: RO, reset 0. -/
def FAB_TIME_STATUS.ERROR : Fld := { at0 := 0x1900130, len := 16 }
/-- R204: RO, reset 0. -/
def FAB_TIME_STATUS.LOCKED : Fld := { at0 := 0x1900120, len := 1 }
/-- R204: RWC, reset 0x0A. -/
def FAB_SLEEP_CFG.DELAY : Fld := { at0 := 0x1900140, len := 8, rst := fun _ _ => 0xa }
/-- R204: RW, reset 0. -/
def FAB_ROUTE_DROP_COUNT.COUNT : Fld := { at0 := 0x1900180, len := 32 }
/-- R204: RO, reset 0. -/
def FAB_DROP_INFO.INFO : Fld := { at0 := 0x19001a0, len := 32 }
/-! ### Table 7.8, 07_raster_ingest_and_curd.md -/

/-- R230: RO, reset 0. -/
def CODEC_STATUS.CTX_BUSY : Fld := { at0 := 0x2000010, len := 5 }
/-- R230: RO, reset 0. -/
def CODEC_STATUS.ENC_BUSY : Fld := { at0 := 0x2000000, len := 1 }
/-- R230: RW, reset 0. -/
def CODEC_BAD_STRIPS.COUNT : Fld := { at0 := 0x2000020, len := 32 }
/-- R230: RW, reset 0. -/
def CODEC_ENC_CTL.MODE : Fld := { at0 := 0x2000800, len := 1 }
/-- R230: RW, reset 0. -/
def CODEC_ENC_SRC.SRC : Fld := { at0 := 0x2000820, len := 40 }
/-- R230: RW, reset 0. -/
def CODEC_ENC_COLUMNS.COLUMNS : Fld := { at0 := 0x2000860, len := 18 }
/-- R230: RW, reset 0. -/
def CODEC_ENC_LEN.LEN : Fld := { at0 := 0x2000880, len := 32 }
/-- R230: RW, reset 0x200. -/
def CODEC_ENC_STRIP_ROWS.STRIP_ROWS : Fld := { at0 := 0x20008a0, len := 13, rst := fun _ _ => 0x200 }
/-- R230: RW, reset 0. -/
def CODEC_ENC_CHAIN.ADDR : Fld := { at0 := 0x20008c0, len := 40 }
/-- R230: RW, reset 0. -/
def CODEC_ENC_CHAIN_CFG.ENTRIES : Fld := { at0 := 0x2000900, len := 5 }
/-- R230: RO, reset 0. -/
def CODEC_ENC_OUT.OUT : Fld := { at0 := 0x2000920, len := 32 }
/-- R230: RO, reset 0. -/
def CODEC_ENC_RESULT.STATE : Fld := { at0 := 0x2000948, len := 3 }
/-- R230: RO, reset 0. -/
def CODEC_ENC_RESULT.ENTRY : Fld := { at0 := 0x2000940, len := 4 }
/-! ### Table 7.9, 07_raster_ingest_and_curd.md -/

/-- R231: RO, reset 0. -/
def FIRE_ING_JOB.OPEN : Fld := { at0 := 0x480401f, len := 1 }
/-- R231: RO, reset 0. -/
def FIRE_ING_JOB.ROW_RES : Fld := { at0 := 0x4804018, len := 2 }
/-- R231: RO, reset 0. -/
def FIRE_ING_JOB.JOB : Fld := { at0 := 0x4804010, len := 8 }
/-- R231: RO, reset 0. -/
def FIRE_ING_COLUMNS.COLUMNS : Fld := { at0 := 0x4804020, len := 18 }
/-- R231: RO, reset 0. -/
def FIRE_ING_SLOTS.SLOTS : Fld := { at0 := 0x4804040, len := 32 }
/-- R231: RO, reset 0. -/
def FIRE_ING_FREE.FREE : Fld := { at0 := 0x4804060, len := 32 }
/-- R231: RO, reset 0. -/
def FIRE_ING_QUEUE.DEPTH : Fld := { at0 := 0x4804090, len := 7 }
/-- R231: RO, reset 0xFFFF. -/
def FIRE_ING_QUEUE.HEAD : Fld := { at0 := 0x4804080, len := 16, rst := fun _ _ => 0xffff }
/-- R231: RO, reset 0. -/
def FIRE_ING_DEFECT.TOTAL : Fld := { at0 := 0x48040b0, len := 16 }
/-- R231: RO, reset 0. -/
def FIRE_ING_DEFECT.NEXT : Fld := { at0 := 0x48040a0, len := 6 }
/-- R231: RW, reset 0. -/
def FIRE_ING_DISCARD.COUNT : Fld := { at0 := 0x48040c0, len := 32 }
/-- R231: RW, reset 0. -/
def FIRE_ING_UNDERRUN_ROWS.COUNT : Fld := { at0 := 0x48040e0, len := 32 }
/-- R231: RO, reset 0. -/
def FIRE_ING_REC.PAGE : Fld := { at0 := 0x4806010, len := 16, s1 := 0x80 }
/-- R231: RO, reset 0. -/
def FIRE_ING_REC.STRIP : Fld := { at0 := 0x4806000, len := 16, s1 := 0x80 }
/-- R231: RO, reset 0. -/
def FIRE_ING_REC.KIND : Fld := { at0 := 0x4806020, len := 4, s1 := 0x80 }
/-- R231: RO, reset 0. -/
def FIRE_ING_REC.FIRST_ROW : Fld := { at0 := 0x4806040, len := 32, s1 := 0x80 }
/-- R231: RO, reset 0. -/
def FIRE_ING_REC.ROWS : Fld := { at0 := 0x4806060, len := 32, s1 := 0x80 }
/-! ### Table 8.5, 08_dram_and_dma.md -/

/-- R246: RWC, reset 0. -/
def DRAM_CTL.EN : Fld := { at0 := 0x3000000, len := 1, s1 := 0x40000 }
/-- R246: RO, reset 0. -/
def DRAM_STATUS.TRAIN_TEMP : Fld := { at0 := 0x3000030, len := 8, s1 := 0x40000 }
/-- R246: RO, reset 0x0. -/
def DRAM_STATUS.FAIL_PHASE : Fld := { at0 := 0x300002c, len := 4, s1 := 0x40000 }
/-- R246: RO, reset 0x0. -/
def DRAM_STATUS.FAIL_CH : Fld := { at0 := 0x3000028, len := 4, s1 := 0x40000 }
/-- R246: RO, reset 0b00. -/
def DRAM_STATUS.RANKS : Fld := { at0 := 0x3000026, len := 2, s1 := 0x40000 }
/-- R246: RO, reset 0b00. -/
def DRAM_STATUS.DENSITY : Fld := { at0 := 0x3000024, len := 2, s1 := 0x40000 }
/-- R246: RO, reset 0. -/
def DRAM_STATUS.DUE : Fld := { at0 := 0x3000023, len := 1, s1 := 0x40000 }
/-- R246: RO, reset 0. -/
def DRAM_STATUS.STATE : Fld := { at0 := 0x3000020, len := 3, s1 := 0x40000 }
/-- R246: RW, reset 0. -/
def DRAM_ECC_CORR.COUNT : Fld := { at0 := 0x3000040, len := 32, s1 := 0x40000 }
/-- R246: RW, reset 0. -/
def DRAM_ECC_UNCORR.COUNT : Fld := { at0 := 0x3000060, len := 32, s1 := 0x40000 }
/-- R246: RO, reset 0. -/
def DRAM_ECC_ADDR.ADDR : Fld := { at0 := 0x3000080, len := 40, s1 := 0x40000 }
/-! ### Table 8.6, 08_dram_and_dma.md -/

/-- R246: RWC, reset 0xFF. -/
def DRAM_MEM_CFG.PASR_KEEP : Fld := { at0 := 0x3000808, len := 8, rst := fun _ _ => 0xff }
/-- R246: RO, reset 0. -/
def DRAM_MEM_CFG.ECC_INIT : Fld := { at0 := 0x3000801, len := 1 }
/-- R246: RWC, reset 0. -/
def DRAM_MEM_CFG.ECC_EN : Fld := { at0 := 0x3000800, len := 1 }
/-- R246: RO, reset 0. -/
def DRAM_USABLE.MIB : Fld := { at0 := 0x3000820, len := 32 }
/-- R246: RWC, reset Table 8.3. -/
def DRAM_MAP.MASK : Fld := { at0 := 0x3000880, len := 29, s1 := 0x20, rst := fun x _ => [0x1001, 0x2002, 0x4004, 0x10100, 0x20200, 0x40400, 0x80800].getD x 0 }
/-! ### Table 8.10, 08_dram_and_dma.md -/

/-- R258: W1S, reset 0. -/
def DMA_CTL.SHADOW_VALID : Fld := { at0 := 0x2800001, len := 1, s1 := 0x800 }
/-- R258: RW, reset 0. -/
def DMA_CTL.EN : Fld := { at0 := 0x2800000, len := 1, s1 := 0x800 }
/-- R258: RO, reset 0x0. -/
def DMA_STATUS.ERR : Fld := { at0 := 0x280002c, len := 4, s1 := 0x800 }
/-- R258: RO, reset 0b00. -/
def DMA_STATUS.SHADOW : Fld := { at0 := 0x2800028, len := 2, s1 := 0x800 }
/-- R258: RO, reset 0. -/
def DMA_STATUS.STATE : Fld := { at0 := 0x2800020, len := 3, s1 := 0x800 }
/-- R258: RO, reset 0. -/
def DMA_DONE_BYTES.BYTES : Fld := { at0 := 0x2800040, len := 32, s1 := 0x800 }
/-- R258: RW, reset 0. -/
def DMA_DESC_COUNT.COUNT : Fld := { at0 := 0x2800060, len := 32, s1 := 0x800 }
/-- R258: RW, reset 0. -/
def DMA_SH.WORD : Fld := { at0 := 0x2800100, len := 32, s1 := 0x800, s2 := 0x20 }
/-- R258: RO, reset 0. -/
def DMA_ACT.WORD : Fld := { at0 := 0x2800300, len := 32, s1 := 0x800, s2 := 0x20 }
/-- R258: RO, reset 0. -/
def DMA_PF_OFFSET.ENABLED : Fld := { at0 := 0x2800510, len := 1, s1 := 0x800, s2 := 0x20 }
/-- R258: RO, reset 0. -/
def DMA_PF_OFFSET.OFFSET : Fld := { at0 := 0x2800500, len := 16, s1 := 0x800, s2 := 0x20 }
/-! ### Table 9.6, 09_position_feedback.md -/

/-- R286: W1S, reset 0. -/
def POS_CTL.Z_ARM : Fld := { at0 := 0x380001e, len := 1, s1 := 0x8000 }
/-- R286: RWC, reset 0x2. -/
def POS_CTL.FILT : Fld := { at0 := 0x380000c, len := 4, s1 := 0x8000, rst := fun _ _ => 2 }
/-- R286: RWC, reset 0. -/
def POS_CTL.TERM : Fld := { at0 := 0x3800007, len := 1, s1 := 0x8000 }
/-- R286: RWC, reset 0. -/
def POS_CTL.Z_EN : Fld := { at0 := 0x3800006, len := 1, s1 := 0x8000 }
/-- R286: RWC, reset 0. -/
def POS_CTL.INV : Fld := { at0 := 0x3800004, len := 1, s1 := 0x8000 }
/-- R286: RWC, reset 0b00. -/
def POS_CTL.MODE : Fld := { at0 := 0x3800001, len := 2, s1 := 0x8000 }
/-- R286: RWC, reset 0. -/
def POS_CTL.EN : Fld := { at0 := 0x3800000, len := 1, s1 := 0x8000 }
/-- R286: RO, reset 0x0. -/
def POS_STATUS.FAULT_REASON : Fld := { at0 := 0x3800028, len := 4, s1 := 0x8000 }
/-- R286: RO, reset 0. -/
def POS_STATUS.DOUBT : Fld := { at0 := 0x3800026, len := 1, s1 := 0x8000 }
/-- R286: RO, reset 0. -/
def POS_STATUS.HELD : Fld := { at0 := 0x3800025, len := 1, s1 := 0x8000 }
/-- R286: RO, reset 0. -/
def POS_STATUS.STILL : Fld := { at0 := 0x3800024, len := 1, s1 := 0x8000 }
/-- R286: RO, reset 0. -/
def POS_STATUS.DIR : Fld := { at0 := 0x3800023, len := 1, s1 := 0x8000 }
/-- R286: RO, reset 0. -/
def POS_STATUS.SPD_VALID : Fld := { at0 := 0x3800022, len := 1, s1 := 0x8000 }
/-- R286: RO, reset 0b00. -/
def POS_STATUS.STATE : Fld := { at0 := 0x3800020, len := 2, s1 := 0x8000 }
/-- R286: RO, reset 0. -/
def POS_RAW.R : Fld := { at0 := 0x3800040, len := 64, s1 := 0x8000 }
/-- R286: RO, reset 0. -/
def POS_HELD.H : Fld := { at0 := 0x3800080, len := 64, s1 := 0x8000 }
/-- R286: RO, reset 0. -/
def POS_INDEX.R_AT_Z : Fld := { at0 := 0x38000c0, len := 64, s1 := 0x8000 }
/-- R286: RO, reset 0. -/
def POS_OBS_X.X : Fld := { at0 := 0x3800100, len := 64, s1 := 0x8000 }
/-- R286: RO, reset 0. -/
def POS_OBS_FRAC.FRAC : Fld := { at0 := 0x3800140, len := 16, s1 := 0x8000 }
/-- R286: RO, reset 0. -/
def POS_OBS_V.V : Fld := { at0 := 0x3800160, len := 32, s1 := 0x8000 }
/-- R286: RO, reset 0. -/
def POS_OBS_A.A : Fld := { at0 := 0x3800180, len := 32, s1 := 0x8000 }
/-- R286: RO, reset 0. -/
def POS_OBS_T.T : Fld := { at0 := 0x38001a0, len := 64, s1 := 0x8000 }
/-- R286: RWC, reset 0x0100_0000. -/
def POS_SCALE.SCALE : Fld := { at0 := 0x3800200, len := 32, s1 := 0x8000, rst := fun _ _ => 0x1000000 }
/-- R286: RWC, reset 0x0004. -/
def POS_BACKLASH.WINDOW : Fld := { at0 := 0x3800220, len := 16, s1 := 0x8000, rst := fun _ _ => 4 }
/-- R286: RWC, reset 0x00_2710. -/
def POS_STILL.STILL : Fld := { at0 := 0x3800240, len := 24, s1 := 0x8000, rst := fun _ _ => 0x2710 }
/-- R286: RWC, reset 0x64. -/
def POS_ILL_CFG.WINDOW : Fld := { at0 := 0x3800268, len := 8, s1 := 0x8000, rst := fun _ _ => 0x64 }
/-- R286: RWC, reset 0x08. -/
def POS_ILL_CFG.MAX : Fld := { at0 := 0x3800260, len := 8, s1 := 0x8000, rst := fun _ _ => 8 }
/-- R286: RW, reset 0. -/
def POS_ILL_COUNT.COUNT : Fld := { at0 := 0x3800280, len := 32, s1 := 0x8000 }
/-- R286: RWC, reset 0x1000. -/
def POS_OBS_ALPHA.ALPHA : Fld := { at0 := 0x38002a0, len := 16, s1 := 0x8000, rst := fun _ _ => 0x1000 }
/-- R286: RWC, reset 0x0080. -/
def POS_OBS_BETA.BETA : Fld := { at0 := 0x38002c0, len := 16, s1 := 0x8000, rst := fun _ _ => 0x80 }
/-- R286: RWC, reset 0x0002. -/
def POS_OBS_GAMMA.GAMMA : Fld := { at0 := 0x38002e0, len := 16, s1 := 0x8000, rst := fun _ _ => 2 }
/-- R286: RWC, reset 0. -/
def POS_SC_OFS.OFS_S : Fld := { at0 := 0x3800310, len := 16, s1 := 0x8000 }
/-- R286: RWC, reset 0. -/
def POS_SC_OFS.OFS_C : Fld := { at0 := 0x3800300, len := 16, s1 := 0x8000 }
/-- R286: RWC, reset 0x4000. -/
def POS_SC_GAIN.GAIN_S : Fld := { at0 := 0x3800330, len := 16, s1 := 0x8000, rst := fun _ _ => 0x4000 }
/-- R286: RWC, reset 0x4000. -/
def POS_SC_GAIN.GAIN_C : Fld := { at0 := 0x3800320, len := 16, s1 := 0x8000, rst := fun _ _ => 0x4000 }
/-- R286: RO, reset 0. -/
def POS_SC_PHASE.STALE : Fld := { at0 := 0x380035f, len := 1, s1 := 0x8000 }
/-- R286: RWC, reset 0. -/
def POS_SC_PHASE.PHASE : Fld := { at0 := 0x3800340, len := 16, s1 := 0x8000 }
/-- R286: RWC, reset 0x2400. -/
def POS_SC_AMP.MAX : Fld := { at0 := 0x3800370, len := 16, s1 := 0x8000, rst := fun _ _ => 0x2400 }
/-- R286: RWC, reset 0x0900. -/
def POS_SC_AMP.MIN : Fld := { at0 := 0x3800360, len := 16, s1 := 0x8000, rst := fun _ _ => 0x900 }
/-- R286: RO, reset 0. -/
def POS_SC_AMP_CFG.AMP_NOW : Fld := { at0 := 0x3800390, len := 16, s1 := 0x8000 }
/-- R286: RWC, reset 0x10. -/
def POS_SC_AMP_CFG.FILT : Fld := { at0 := 0x3800380, len := 8, s1 := 0x8000, rst := fun _ _ => 0x10 }
/-- R286: RWC, reset 0x14. -/
def POS_SSI_CFG.MONO : Fld := { at0 := 0x3800418, len := 8, s1 := 0x8000, rst := fun _ _ => 0x14 }
/-- R286: RWC, reset 0x09. -/
def POS_SSI_CFG.CLK_DIV : Fld := { at0 := 0x3800410, len := 8, s1 := 0x8000, rst := fun _ _ => 9 }
/-- R286: RWC, reset 0b00. -/
def POS_SSI_CFG.PARITY : Fld := { at0 := 0x3800408, len := 2, s1 := 0x8000 }
/-- R286: RWC, reset 0. -/
def POS_SSI_CFG.GRAY : Fld := { at0 := 0x3800406, len := 1, s1 := 0x8000 }
/-- R286: RWC, reset 0x20. -/
def POS_SSI_CFG.LEN : Fld := { at0 := 0x3800400, len := 6, s1 := 0x8000, rst := fun _ _ => 0x20 }
/-- R286: RWC, reset 0x0000. -/
def POS_SSI_TIMING.LATCH_DELAY : Fld := { at0 := 0x3800430, len := 16, s1 := 0x8000 }
/-- R286: RWC, reset 0x00FA. -/
def POS_SSI_TIMING.PERIOD : Fld := { at0 := 0x3800420, len := 16, s1 := 0x8000, rst := fun _ _ => 0xfa }
/-- R286: RWC, reset 0x0000_1000. -/
def POS_SSI_JUMP.JUMP : Fld := { at0 := 0x3800440, len := 32, s1 := 0x8000, rst := fun _ _ => 0x1000 }
/-- R286: RWC, reset 0x03. -/
def POS_SSI_ERR_CFG.ERR_MAX : Fld := { at0 := 0x3800460, len := 8, s1 := 0x8000, rst := fun _ _ => 3 }
/-- R286: RW, reset 0. -/
def POS_SSI_ERR_COUNT.COUNT : Fld := { at0 := 0x3800480, len := 32, s1 := 0x8000 }
/-! ### Table 9.7, 09_position_feedback.md -/

/-- R287: RWC, reset 0b00. -/
def POS_PRINT.CH : Fld := { at0 := 0x3820000, len := 2 }
/-- R287: RWC, reset 0b00. -/
def CMP_CTL.CH : Fld := { at0 := 0x3820804, len := 2, s1 := 0x200 }
/-- R287: RWC, reset 0. -/
def CMP_CTL.DIR : Fld := { at0 := 0x3820802, len := 1, s1 := 0x200 }
/-- R287: RWC, reset 0. -/
def CMP_CTL.MODE : Fld := { at0 := 0x3820801, len := 1, s1 := 0x200 }
/-- R287: RW, reset 0. -/
def CMP_CTL.EN : Fld := { at0 := 0x3820800, len := 1, s1 := 0x200 }
/-- R287: RO, reset 0. -/
def CMP_STATUS.LAPS : Fld := { at0 := 0x3820834, len := 12, s1 := 0x200 }
/-- R287: RO, reset 0. -/
def CMP_STATUS.RUNNING : Fld := { at0 := 0x3820830, len := 1, s1 := 0x200 }
/-- R287: RO, reset 0. -/
def CMP_STATUS.POINTER : Fld := { at0 := 0x3820820, len := 10, s1 := 0x200 }
/-- R287: RWC, reset 0. -/
def CMP_LAST.LAST : Fld := { at0 := 0x3820840, len := 10, s1 := 0x200 }
/-- R287: RWC, reset 0x00C8. -/
def CMP_WIDTH.WIDTH : Fld := { at0 := 0x3820860, len := 16, s1 := 0x200, rst := fun _ _ => 0xc8 }
/-- R287: RWC, reset 0. -/
def CMP_PITCH.PITCH : Fld := { at0 := 0x3820880, len := 48, s1 := 0x200 }
/-- R287: RWC, reset 0xFFFF. -/
def CMP_TRIG.TRIGGER_ID : Fld := { at0 := 0x38208c0, len := 16, s1 := 0x200, rst := fun _ _ => 0xffff }
/-- R287: RW, reset 0. -/
def CMP_MERGED.COUNT : Fld := { at0 := 0x38208e0, len := 32, s1 := 0x200 }
/-- R287: RO, reset 0. -/
def CMP_BASE.BASE : Fld := { at0 := 0x3820900, len := 48, s1 := 0x200 }
/-- R287: RW, reset 0. -/
def CMP_ENTRY.P : Fld := { at0 := 0x3840000, len := 48, s1 := 0x10000, s2 := 0x40 }
/-- R287: RW, reset 0. -/
def CMP_ENTRY.LAMP : Fld := { at0 := 0x3840038, len := 8, s1 := 0x10000, s2 := 0x40 }
/-- R287: RW, reset 0. -/
def CMP_ENTRY.CAM : Fld := { at0 := 0x3840034, len := 4, s1 := 0x10000, s2 := 0x40 }
/-- R287: RW, reset 0. -/
def CMP_ENTRY.PAGE : Fld := { at0 := 0x3840032, len := 1, s1 := 0x10000, s2 := 0x40 }
/-- R287: RW, reset 0. -/
def CMP_ENTRY.EVT : Fld := { at0 := 0x3840031, len := 1, s1 := 0x10000, s2 := 0x40 }
/-- R287: RW, reset 0. -/
def CMP_ENTRY.PIN : Fld := { at0 := 0x3840030, len := 1, s1 := 0x10000, s2 := 0x40 }
/-! ### Table 10.13, 10_nozzle_map.md -/

/-- R314: RO, reset 0. -/
def NMAP_STATUS.QUEUE : Fld := { at0 := 0x4000010, len := 11 }
/-- R314: RO, reset 0x0. -/
def NMAP_STATUS.LAST_FAIL : Fld := { at0 := 0x400000c, len := 4 }
/-- R314: W1C, reset 0. -/
def NMAP_STATUS.HOLD_EXPIRED : Fld := { at0 := 0x4000005, len := 1 }
/-- R314: RO, reset 0. -/
def NMAP_STATUS.TABLE : Fld := { at0 := 0x4000004, len := 1 }
/-- R314: RO, reset 0. -/
def NMAP_STATUS.CHECKING : Fld := { at0 := 0x4000003, len := 1 }
/-- R314: RO, reset 0b00. -/
def NMAP_STATUS.SPARE : Fld := { at0 := 0x4000001, len := 2 }
/-- R314: RO, reset 0. -/
def NMAP_STATUS.LIVE : Fld := { at0 := 0x4000000, len := 1 }
/-- R314: RO, reset 0. -/
def NMAP_FAIL_INDEX.INDEX : Fld := { at0 := 0x4000020, len := 17 }
/-- R314: RWC, reset 0x03E8. -/
def NMAP_HOLD.HOLD : Fld := { at0 := 0x4000040, len := 16, rst := fun _ _ => 0x3e8 }
/-- R314: RW, reset 0. -/
def NMAP_QUEUE_FULL.COUNT : Fld := { at0 := 0x4000060, len := 32 }
/-- R314: RO, reset 0. -/
def NMAP_TRIM_PEND.PEND : Fld := { at0 := 0x4000080, len := 64 }
/-- R314: RO, reset 0. -/
def NMAP_SWAP_ROW.ROW : Fld := { at0 := 0x40000c0, len := 64 }
/-- R314: RW, reset 0. -/
def NMAP_SWAPS.COUNT : Fld := { at0 := 0x4000100, len := 32 }
/-- R314: RO, reset 0. -/
def NMAP_MASKED.COUNT : Fld := { at0 := 0x4000120, len := 18 }
/-- R314: RO, reset 0. -/
def NMAP_DEAD.COUNT : Fld := { at0 := 0x4000140, len := 18 }
/-- R314: RO, reset 0. -/
def NMAP_TABLE_ID.ID : Fld := { at0 := 0x4000160, len := 32 }
/-! ### Table 11.9, 11_fire_cadence_and_resampling.md -/

/-- R341: RO, reset 0xFFFF. -/
def FIRE_STATUS.PAGE : Fld := { at0 := 0x4800010, len := 16, rst := fun _ _ => 0xffff }
/-- R341: RO, reset 0x0. -/
def FIRE_STATUS.STOP_REASON : Fld := { at0 := 0x480000c, len := 4 }
/-- R341: RO, reset 0. -/
def FIRE_STATUS.AGAINST : Fld := { at0 := 0x4800003, len := 1 }
/-- R341: RO, reset 0. -/
def FIRE_STATUS.OVER_WARN : Fld := { at0 := 0x4800002, len := 1 }
/-- R341: RO, reset 0. -/
def FIRE_STATUS.STALLED : Fld := { at0 := 0x4800001, len := 1 }
/-- R341: RO, reset 0. -/
def FIRE_STATUS.ARMED : Fld := { at0 := 0x4800000, len := 1 }
/-- R341: RWC, reset 0x0064. -/
def FIRE_CFG.STALL : Fld := { at0 := 0x4800030, len := 16, rst := fun _ _ => 0x64 }
/-- R341: RWC, reset 0xF3. -/
def FIRE_CFG.WARN : Fld := { at0 := 0x4800020, len := 8, rst := fun _ _ => 0xf3 }
/-- R341: RWC, reset 0. -/
def FIRE_FLIGHT.FLIGHT : Fld := { at0 := 0x4800040, len := 24 }
/-- R341: RWC, reset 0. -/
def FIRE_ALIGN.REV : Fld := { at0 := 0x4800070, len := 16 }
/-- R341: RWC, reset 0. -/
def FIRE_ALIGN.FWD : Fld := { at0 := 0x4800060, len := 16 }
/-- R341: RWC, reset 0x00_0400. -/
def FIRE_TRIG_OFFSET.OFFSET : Fld := { at0 := 0x4800080, len := 24, rst := fun _ _ => 0x400 }
/-- R341: RO, reset 0. -/
def FIRE_EPOCH.EPOCH : Fld := { at0 := 0x4800100, len := 64 }
/-- R341: RO, reset 0. -/
def FIRE_EPOCH_FRAC.FRAC : Fld := { at0 := 0x4800140, len := 24 }
/-- R341: RO, reset 0. -/
def FIRE_PERIOD_NS.NS : Fld := { at0 := 0x4800160, len := 32 }
/-- R341: RO, reset 0. -/
def FIRE_PERIOD_FRAC.FRAC : Fld := { at0 := 0x4800180, len := 24 }
/-- R341: RO, reset 0. -/
def FIRE_NUM.K : Fld := { at0 := 0x48001c0, len := 64 }
/-- R341: RO, reset 0. -/
def FIRE_TRAVEL.W : Fld := { at0 := 0x4800200, len := 32 }
/-- R341: RO, reset 0. -/
def FIRE_POS.P : Fld := { at0 := 0x4800220, len := 64 }
/-- R341: RO, reset 0. -/
def FIRE_LAST_START.PAGE : Fld := { at0 := 0x4800290, len := 16 }
/-- R341: RO, reset 0. -/
def FIRE_LAST_START.DIR : Fld := { at0 := 0x4800283, len := 1 }
/-- R341: RO, reset 0. -/
def FIRE_LAST_START.REBASE : Fld := { at0 := 0x4800282, len := 1 }
/-- R341: RO, reset 0. -/
def FIRE_LAST_START.EARLY : Fld := { at0 := 0x4800281, len := 1 }
/-- R341: RO, reset 0. -/
def FIRE_LAST_START.LATE : Fld := { at0 := 0x4800280, len := 1 }
/-- R341: RW, reset 0. -/
def FIRE_OVERSPED_ROWS.COUNT : Fld := { at0 := 0x4800300, len := 32 }
/-- R341: RW, reset 0. -/
def FIRE_TRIG_DISCARD.COUNT : Fld := { at0 := 0x4800320, len := 32 }
/-- R341: RO, reset 0. -/
def FIRE_TRIG_PEND.COUNT : Fld := { at0 := 0x4800340, len := 4 }
/-! ### Table 12.6, 12_drop_formation.md -/

/-- R363: RWC, reset 0. -/
def HL_WF.WORD : Fld := { at0 := 0x5001000, len := 32, s1 := 0x2000, s2 := 0x20 }
/-- R363: RWC, reset 0x0C8. -/
def HL_WF_LIMIT.WHEY_MAX : Fld := { at0 := 0x5001810, len := 12, s1 := 0x2000, rst := fun _ _ => 0xc8 }
/-- R363: RWC, reset 0x3E8. -/
def HL_WF_LIMIT.ON_MAX : Fld := { at0 := 0x5001800, len := 12, s1 := 0x2000, rst := fun _ _ => 0x3e8 }
/-- R363: RWC, reset 0b01. -/
def HL_WF_CFG.WHEY_MODE : Fld := { at0 := 0x500183c, len := 2, s1 := 0x2000, rst := fun _ _ => 1 }
/-- R363: RWC, reset 0x0C8. -/
def HL_WF_CFG.GUARD : Fld := { at0 := 0x5001830, len := 12, s1 := 0x2000, rst := fun _ _ => 0xc8 }
/-- R363: RWC, reset 0x40. -/
def HL_WF_CFG.DUTY_MAX : Fld := { at0 := 0x5001820, len := 8, s1 := 0x2000, rst := fun _ _ => 0x40 }
/-- R363: RO, reset 0. -/
def HL_FIRE_DELAY.STALE : Fld := { at0 := 0x500185f, len := 1, s1 := 0x2000 }
/-- R363: RWC, reset 0x00. -/
def HL_FIRE_DELAY.TAP : Fld := { at0 := 0x5001840, len := 8, s1 := 0x2000 }
/-- R363: RO, reset 0. -/
def HL_WF_STATE.FLOOR : Fld := { at0 := 0x5001870, len := 16, s1 := 0x2000 }
/-- R363: RO, reset 0. -/
def HL_WF_STATE.TSEL : Fld := { at0 := 0x5001863, len := 1, s1 := 0x2000 }
/-- R363: RO, reset 0. -/
def HL_WF_STATE.TRIM_OK : Fld := { at0 := 0x5001862, len := 1, s1 := 0x2000 }
/-- R363: RO, reset 0. -/
def HL_WF_STATE.VALID : Fld := { at0 := 0x5001861, len := 1, s1 := 0x2000 }
/-- R363: RO, reset 0. -/
def HL_WF_STATE.LIVE : Fld := { at0 := 0x5001860, len := 1, s1 := 0x2000 }
/-! ### Table 12.7, 12_drop_formation.md -/

/-- R364: RW, reset 0. -/
def FIRE_WF_MASK.MASK : Fld := { at0 := 0x4800800, len := 64 }
/-- R364: RO, reset 0. -/
def FIRE_WF_STATUS.HEAD : Fld := { at0 := 0x4800868, len := 6 }
/-- R364: RO, reset 0x0. -/
def FIRE_WF_STATUS.REASON : Fld := { at0 := 0x4800864, len := 4 }
/-- R364: RO, reset 0b00. -/
def FIRE_WF_STATUS.RESULT : Fld := { at0 := 0x4800861, len := 2 }
/-- R364: RO, reset 0. -/
def FIRE_WF_STATUS.PENDING : Fld := { at0 := 0x4800860, len := 1 }
/-- R364: RO, reset 0. -/
def FIRE_WF_SWAP_FIRE.K : Fld := { at0 := 0x4800880, len := 64 }
/-- R364: RW, reset 0. -/
def FIRE_WF_SWAPS.COUNT : Fld := { at0 := 0x48008c0, len := 32 }
/-! ### Table 13.9, 13_head_link.md -/

/-- R390: RWC, reset 0. -/
def HL_CTL.RX_INV : Fld := { at0 := 0x5000002, len := 1, s1 := 0x2000 }
/-- R390: RWC, reset 0. -/
def HL_CTL.TX_INV : Fld := { at0 := 0x5000001, len := 1, s1 := 0x2000 }
/-- R390: RWC, reset 0. -/
def HL_CTL.EN : Fld := { at0 := 0x5000000, len := 1, s1 := 0x2000 }
/-- R390: RO, reset 0x00. -/
def HL_STATUS.VERSION : Fld := { at0 := 0x5000038, len := 8, s1 := 0x2000 }
/-- R390: RO, reset 0x0. -/
def HL_STATUS.LAST_DOWN : Fld := { at0 := 0x5000034, len := 4, s1 := 0x2000 }
/-- R390: RO, reset 0. -/
def HL_STATUS.ID_OK : Fld := { at0 := 0x5000033, len := 1, s1 := 0x2000 }
/-- R390: RO, reset 0b00. -/
def HL_STATUS.CLAIM_SEEN : Fld := { at0 := 0x5000031, len := 2, s1 := 0x2000 }
/-- R390: RO, reset 0. -/
def HL_STATUS.PRESENT : Fld := { at0 := 0x5000030, len := 1, s1 := 0x2000 }
/-- R390: RO, reset 0. -/
def HL_STATUS.STATE : Fld := { at0 := 0x5000020, len := 3, s1 := 0x2000 }
/-- R390: RO, reset 0. -/
def HL_FEATURES.AGREED : Fld := { at0 := 0x5000040, len := 16, s1 := 0x2000 }
/-- R390: RO, reset 0. -/
def HL_RX_PHASE.STALE : Fld := { at0 := 0x500007f, len := 1, s1 := 0x2000 }
/-- R390: RO, reset 0. -/
def HL_RX_PHASE.EYE : Fld := { at0 := 0x5000070, len := 6, s1 := 0x2000 }
/-- R390: RWC, reset 0x20. -/
def HL_RX_PHASE.TAP : Fld := { at0 := 0x5000060, len := 6, s1 := 0x2000, rst := fun _ _ => 0x20 }
/-- R390: RO, reset 0. -/
def HL_DELAY.DELAY : Fld := { at0 := 0x5000080, len := 16, s1 := 0x2000 }
/-- R390: RO, reset X. -/
def HL_TEMP01.T1 : Fld := { at0 := 0x50000b0, len := 16, s1 := 0x2000 }
/-- R390: RO, reset X. -/
def HL_TEMP01.T0 : Fld := { at0 := 0x50000a0, len := 16, s1 := 0x2000 }
/-- R390: RO, reset X. -/
def HL_TEMP23.T3 : Fld := { at0 := 0x50000d0, len := 16, s1 := 0x2000 }
/-- R390: RO, reset X. -/
def HL_TEMP23.T2 : Fld := { at0 := 0x50000c0, len := 16, s1 := 0x2000 }
/-- R390: RWC, reset 0x41. -/
def HL_TEMP_CFG.CRIT : Fld := { at0 := 0x50000e8, len := 8, s1 := 0x2000, rst := fun _ _ => 0x41 }
/-- R390: RWC, reset 0x37. -/
def HL_TEMP_CFG.WARN : Fld := { at0 := 0x50000e0, len := 8, s1 := 0x2000, rst := fun _ _ => 0x37 }
/-- R390: RW, reset 0. -/
def HL_SYNC_ERR.COUNT : Fld := { at0 := 0x5000100, len := 32, s1 := 0x2000 }
/-- R390: RW, reset 0. -/
def HL_HCRC_FAIL.COUNT : Fld := { at0 := 0x5000120, len := 32, s1 := 0x2000 }
/-- R390: RW, reset 0. -/
def HL_MISSED.COUNT : Fld := { at0 := 0x5000140, len := 32, s1 := 0x2000 }
/-- R390: RW, reset 0. -/
def HL_TLM_ERR.COUNT : Fld := { at0 := 0x5000160, len := 32, s1 := 0x2000 }
/-- R390: RWC, reset 0x0A. -/
def HL_ERR_CFG.WINDOW : Fld := { at0 := 0x5000188, len := 8, s1 := 0x2000, rst := fun _ _ => 0xa }
/-- R390: RWC, reset 0x10. -/
def HL_ERR_CFG.MAX : Fld := { at0 := 0x5000180, len := 8, s1 := 0x2000, rst := fun _ _ => 0x10 }
/-- R390: RO, reset 0. -/
def HL_ID_SERIAL.SERIAL : Fld := { at0 := 0x5000200, len := 64, s1 := 0x2000 }
/-- R390: RWC, reset 0. -/
def HL_ID_EXPECT.EXPECT : Fld := { at0 := 0x5000240, len := 64, s1 := 0x2000 }
/-- R390: RO, reset 0x0. -/
def HL_ID_CHECK.MISMATCH : Fld := { at0 := 0x5000280, len := 4, s1 := 0x2000 }
/-- R390: RW, reset 0b00. -/
def HL_ID_PAGE.PAGE : Fld := { at0 := 0x50002a0, len := 2, s1 := 0x2000 }
/-- R390: RO, reset 0. -/
def HL_ID_WIN.WORD : Fld := { at0 := 0x5000800, len := 32, s1 := 0x2000, s2 := 0x20 }
/-! ### Table 13.10, 13_head_link.md -/

/-- R391: RO, reset 0. -/
def HL_MEAS_STATUS.RESULT : Fld := { at0 := 0x5080028, len := 3 }
/-- R391: RW, reset 0. -/
def HL_MEAS_MASK.MASK : Fld := { at0 := 0x5080040, len := 64 }
/-- R391: RW, reset 0. -/
def HL_MEAS_ADDR.ADDR : Fld := { at0 := 0x5080080, len := 40 }
/-- R391: RW, reset 0x0A. -/
def HL_MEAS_CFG.WAIT : Fld := { at0 := 0x50800c0, len := 8, rst := fun _ _ => 0xa }
/-! ### Table 14.3, 14_ripening.md -/

/-- R409: RWC, reset 0. -/
def CAL_CTL.VIEW : Fld := { at0 := 0x5800008, len := 1 }
/-- R409: RWC, reset 1. -/
def CAL_CTL.USE_MEAS : Fld := { at0 := 0x5800007, len := 1, rst := fun _ _ => 1 }
/-- R409: RWC, reset 1. -/
def CAL_CTL.STORE : Fld := { at0 := 0x5800006, len := 1, rst := fun _ _ => 1 }
/-- R409: RWC, reset 1. -/
def CAL_CTL.RESTORE : Fld := { at0 := 0x5800005, len := 1, rst := fun _ _ => 1 }
/-- R409: RWC, reset 0xF. -/
def CAL_CTL.AUTO_EN : Fld := { at0 := 0x5800000, len := 4, rst := fun _ _ => 0xf }
/-- R409: RO, reset 0. -/
def CAL_STATUS.LEFT : Fld := { at0 := 0x5800030, len := 8 }
/-- R409: RO, reset 0. -/
def CAL_STATUS.AUTO : Fld := { at0 := 0x5800021, len := 1 }
/-- R409: RO, reset 0. -/
def CAL_STATUS.RUNNING : Fld := { at0 := 0x5800020, len := 1 }
/-- R409: RO, reset 0. -/
def CAL_FIRST.FIRST : Fld := { at0 := 0x5800040, len := 64 }
/-- R409: RO, reset 0. -/
def CAL_DUE.DUE : Fld := { at0 := 0x5800080, len := 64 }
/-- R409: RO, reset 0x0. -/
def CAL_DUE_POS.DUE : Fld := { at0 := 0x58000c0, len := 4 }
/-- R409: RWC, reset 0x50. -/
def CAL_THRESH.ENC : Fld := { at0 := 0x5800110, len := 8, rst := fun _ _ => 0x50 }
/-- R409: RWC, reset 0x50. -/
def CAL_THRESH.DIE : Fld := { at0 := 0x5800108, len := 8, rst := fun _ _ => 0x50 }
/-- R409: RWC, reset 0x30. -/
def CAL_THRESH.HEAD : Fld := { at0 := 0x5800100, len := 8, rst := fun _ _ => 0x30 }
/-- R409: RWC, reset 0x10. -/
def CAL_LIMIT_HEAD.MIN_EYE : Fld := { at0 := 0x5800138, len := 8, rst := fun _ _ => 0x10 }
/-- R409: RWC, reset 0x08. -/
def CAL_LIMIT_HEAD.PHASE_STEP : Fld := { at0 := 0x5800130, len := 8, rst := fun _ _ => 8 }
/-- R409: RWC, reset 0x08. -/
def CAL_LIMIT_HEAD.TRIM_STEP : Fld := { at0 := 0x5800128, len := 8, rst := fun _ _ => 8 }
/-- R409: RWC, reset 0x10. -/
def CAL_LIMIT_HEAD.TAP_STEP : Fld := { at0 := 0x5800120, len := 8, rst := fun _ _ => 0x10 }
/-- R409: RWC, reset 0x0100. -/
def CAL_LIMIT_SC.RES_MAX : Fld := { at0 := 0x5800150, len := 16, rst := fun _ _ => 0x100 }
/-- R409: RWC, reset 0x40. -/
def CAL_LIMIT_SC.MIN_PERIODS : Fld := { at0 := 0x5800148, len := 8, rst := fun _ _ => 0x40 }
/-- R409: RWC, reset 0x64. -/
def CAL_LIMIT_SC.WINDOW : Fld := { at0 := 0x5800140, len := 8, rst := fun _ _ => 0x64 }
/-- R409: RW, reset 0. -/
def CAL_RUNS.COUNT : Fld := { at0 := 0x5800180, len := 32 }
/-- R409: RW, reset 0. -/
def CAL_REJECTS.COUNT : Fld := { at0 := 0x58001a0, len := 32 }
/-! ### Table 14.4, 14_ripening.md -/

/-- R410: RWC, reset 0. -/
def CAL_HEAD_TAP.T_BASE : Fld := { at0 := 0x5808010, len := 16, s1 := 0x80 }
/-- R410: RWC, reset 0. -/
def CAL_HEAD_TAP.BASE : Fld := { at0 := 0x5808000, len := 8, s1 := 0x80 }
/-- R410: RWC, reset 0. -/
def CAL_HEAD_MODEL.RNOM : Fld := { at0 := 0x5808030, len := 16, s1 := 0x80 }
/-- R410: RWC, reset 0. -/
def CAL_HEAD_MODEL.TC : Fld := { at0 := 0x5808020, len := 16, s1 := 0x80 }
/-- R410: RO, reset 0. -/
def CAL_HEAD_RES.FIRE_R : Fld := { at0 := 0x580805e, len := 2, s1 := 0x80 }
/-- R410: RO, reset 0. -/
def CAL_HEAD_RES.PHASE_R : Fld := { at0 := 0x580805c, len := 2, s1 := 0x80 }
/-- R410: RO, reset 0. -/
def CAL_HEAD_RES.TRIM_R : Fld := { at0 := 0x580805a, len := 2, s1 := 0x80 }
/-- R410: RO, reset 0x0. -/
def CAL_HEAD_RES.REASON : Fld := { at0 := 0x5808056, len := 4, s1 := 0x80 }
/-- R410: RO, reset 0. -/
def CAL_HEAD_RES.PHASE : Fld := { at0 := 0x5808050, len := 6, s1 := 0x80 }
/-- R410: RO, reset 0. -/
def CAL_HEAD_RES.TRIM : Fld := { at0 := 0x5808048, len := 8, s1 := 0x80 }
/-- R410: RO, reset 0. -/
def CAL_HEAD_RES.FIRE : Fld := { at0 := 0x5808040, len := 8, s1 := 0x80 }
/-- R410: RO, reset 0. -/
def CAL_HEAD_TREF.DIE : Fld := { at0 := 0x5808070, len := 16, s1 := 0x80 }
/-- R410: RO, reset 0. -/
def CAL_HEAD_TREF.HEAD : Fld := { at0 := 0x5808060, len := 16, s1 := 0x80 }
/-- R410: RO, reset 0. -/
def CAL_POS_CFG.TREF : Fld := { at0 := 0x5810010, len := 16, s1 := 0x80 }
/-- R410: RWC, reset 0xF. -/
def CAL_POS_CFG.SRC : Fld := { at0 := 0x5810000, len := 4, s1 := 0x80, rst := fun _ _ => 0xf }
/-- R410: RO, reset 0. -/
def CAL_POS_RES.SC_R : Fld := { at0 := 0x581003d, len := 3, s1 := 0x80 }
/-- R410: RO, reset 0x0. -/
def CAL_POS_RES.REASON : Fld := { at0 := 0x5810039, len := 4, s1 := 0x80 }
/-- R410: RO, reset 0. -/
def CAL_POS_RES.VALUE : Fld := { at0 := 0x5810020, len := 16, s1 := 0x80 }
/-- R410: RO, reset 0. -/
def CAL_POS_OFS.OFS_S : Fld := { at0 := 0x5810050, len := 16, s1 := 0x80 }
/-- R410: RO, reset 0. -/
def CAL_POS_OFS.OFS_C : Fld := { at0 := 0x5810040, len := 16, s1 := 0x80 }
/-- R410: RO, reset 0. -/
def CAL_POS_GAIN.GAIN_S : Fld := { at0 := 0x5810070, len := 16, s1 := 0x80 }
/-- R410: RO, reset 0. -/
def CAL_POS_GAIN.GAIN_C : Fld := { at0 := 0x5810060, len := 16, s1 := 0x80 }
/-! ### Table 15.8, 15_inspection_cameras.md -/

/-- R437: RWC, reset 0x2C. -/
def CAM_CTL.DT : Fld := { at0 := 0x6000010, len := 6, s1 := 0x20000, rst := fun _ _ => 0x2c }
/-- R437: RWC, reset 0x0. -/
def CAM_CTL.VC : Fld := { at0 := 0x600000c, len := 4, s1 := 0x20000 }
/-- R437: RWC, reset 0x0. -/
def CAM_CTL.LANE_INV : Fld := { at0 := 0x6000008, len := 4, s1 := 0x20000 }
/-- R437: RWC, reset 0b11. -/
def CAM_CTL.LANES : Fld := { at0 := 0x6000001, len := 2, s1 := 0x20000, rst := fun _ _ => 3 }
/-- R437: RWC, reset 0. -/
def CAM_CTL.EN : Fld := { at0 := 0x6000000, len := 1, s1 := 0x20000 }
/-- R437: RO, reset 0. -/
def CAM_STATUS.LEVEL : Fld := { at0 := 0x6000030, len := 14, s1 := 0x20000 }
/-- R437: RO, reset 0. -/
def CAM_STATUS.ULPS : Fld := { at0 := 0x6000024, len := 1, s1 := 0x20000 }
/-- R437: RO, reset 0. -/
def CAM_STATUS.SETS2 : Fld := { at0 := 0x6000023, len := 1, s1 := 0x20000 }
/-- R437: RO, reset 0. -/
def CAM_STATUS.STATE : Fld := { at0 := 0x6000020, len := 3, s1 := 0x20000 }
/-- R437: RWC, reset 0x03E8. -/
def CAM_CFG.TRIG_WIN : Fld := { at0 := 0x6000050, len := 16, s1 := 0x20000, rst := fun _ _ => 0x3e8 }
/-- R437: RWC, reset 0x64. -/
def CAM_CFG.FRAME_TO : Fld := { at0 := 0x6000048, len := 8, s1 := 0x20000, rst := fun _ _ => 0x64 }
/-- R437: RW, reset 0. -/
def CAM_FRAMES.COUNT : Fld := { at0 := 0x6000080, len := 32, s1 := 0x20000 }
/-- R437: RW, reset 0. -/
def CAM_DROPS.COUNT : Fld := { at0 := 0x60000a0, len := 32, s1 := 0x20000 }
/-- R437: RW, reset 0. -/
def CAM_ECC_ERR.COUNT : Fld := { at0 := 0x60000c0, len := 32, s1 := 0x20000 }
/-- R437: RW, reset 0. -/
def CAM_CRC_ERR.COUNT : Fld := { at0 := 0x60000e0, len := 32, s1 := 0x20000 }
/-- R437: RW, reset 0. -/
def CAM_LINE_ERR.COUNT : Fld := { at0 := 0x6000100, len := 32, s1 := 0x20000 }
/-- R437: RW, reset 0. -/
def CAM_DISCARD.COUNT : Fld := { at0 := 0x6000120, len := 32, s1 := 0x20000 }
/-- R437: RW, reset 0. -/
def CAM_TRIG_DISCARD.COUNT : Fld := { at0 := 0x6000140, len := 32, s1 := 0x20000 }
/-- R437: RW, reset 0. -/
def CAM_FIFO_PEAK.PEAK : Fld := { at0 := 0x6000160, len := 14, s1 := 0x20000 }
/-- R437: W1S, reset 0. -/
def ISP_COMMIT.COMMIT : Fld := { at0 := 0x600019f, len := 1, s1 := 0x20000 }
/-- R437: RO, reset 0x0. -/
def ISP_COMMIT.REASON : Fld := { at0 := 0x6000188, len := 4, s1 := 0x20000 }
/-- R437: RO, reset 0. -/
def ISP_COMMITS.COUNT : Fld := { at0 := 0x60001a0, len := 32, s1 := 0x20000 }
/-! ### Table 15.9, 15_inspection_cameras.md -/

/-- R438: RW, reset 0. -/
def ISP_GEOM.HEIGHT : Fld := { at0 := 0x6000810, len := 16, s1 := 0x20000 }
/-- R438: RW, reset 0. -/
def ISP_GEOM.WIDTH : Fld := { at0 := 0x6000800, len := 16, s1 := 0x20000 }
/-- R438: RW, reset 0b01. -/
def ISP_FRAME.EXPOSURES : Fld := { at0 := 0x6000830, len := 2, s1 := 0x20000, rst := fun _ _ => 1 }
/-- R438: RW, reset 0. -/
def ISP_FRAME.FILL : Fld := { at0 := 0x6000820, len := 16, s1 := 0x20000 }
/-- R438: RW, reset 0. -/
def ISP_MERGE.STAGGER : Fld := { at0 := 0x6000850, len := 8, s1 := 0x20000 }
/-- R438: RW, reset 0xF000. -/
def ISP_MERGE.SAT : Fld := { at0 := 0x6000840, len := 16, s1 := 0x20000, rst := fun _ _ => 0xf000 }
/-- R438: RW, reset 0x0100. -/
def ISP_RATIO.RATIO2 : Fld := { at0 := 0x6000870, len := 16, s1 := 0x20000, rst := fun _ _ => 0x100 }
/-- R438: RW, reset 0x0100. -/
def ISP_RATIO.RATIO1 : Fld := { at0 := 0x6000860, len := 16, s1 := 0x20000, rst := fun _ _ => 0x100 }
/-- R438: RW, reset 0. -/
def ISP_PATTERN.PHASE_Y : Fld := { at0 := 0x600088a, len := 2, s1 := 0x20000 }
/-- R438: RW, reset 0. -/
def ISP_PATTERN.PHASE_X : Fld := { at0 := 0x6000888, len := 2, s1 := 0x20000 }
/-- R438: RW, reset 0. -/
def ISP_PATTERN.UH : Fld := { at0 := 0x6000886, len := 2, s1 := 0x20000 }
/-- R438: RW, reset 0. -/
def ISP_PATTERN.UW : Fld := { at0 := 0x6000884, len := 2, s1 := 0x20000 }
/-- R438: RW, reset 0b00. -/
def ISP_PATTERN.PATTERN : Fld := { at0 := 0x6000880, len := 2, s1 := 0x20000 }
/-- R438: RW, reset 0. -/
def ISP_USER.CELLS : Fld := { at0 := 0x60008a0, len := 64, s1 := 0x20000 }
/-- R438: RW, reset 0. -/
def ISP_DEFECTS.COUNT : Fld := { at0 := 0x60008e0, len := 11, s1 := 0x20000 }
/-- R438: RW, reset 0b0_0000. -/
def ISP_OUT.MV_PLANES : Fld := { at0 := 0x6000910, len := 5, s1 := 0x20000 }
/-- R438: RW, reset 0b00. -/
def ISP_OUT.DS : Fld := { at0 := 0x600090c, len := 2, s1 := 0x20000 }
/-- R438: RW, reset 0. -/
def ISP_OUT.CODE_EN : Fld := { at0 := 0x6000909, len := 1, s1 := 0x20000 }
/-- R438: RW, reset 0. -/
def ISP_OUT.DISP_EN : Fld := { at0 := 0x6000908, len := 1, s1 := 0x20000 }
/-- R438: RW, reset 0x0. -/
def ISP_OUT.SLOTS : Fld := { at0 := 0x6000900, len := 4, s1 := 0x20000 }
/-- R438: RW, reset 0x0100. -/
def ISP_DISP_GAIN.GAIN : Fld := { at0 := 0x6000920, len := 16, s1 := 0x20000, rst := fun _ _ => 0x100 }
/-- R438: RW, reset 0x1000 if i = j, else 0. -/
def ISP_CM.COEF : Fld := { at0 := 0x6000a00, len := 16, s1 := 0x20000, s2 := 0x20, rst := fun _ k => if k / 5 = k % 5 then 0x1000 else 0 }
/-- R438: RW, reset 0. -/
def ISP_CM_OFS.OFS : Fld := { at0 := 0x6000d80, len := 16, s1 := 0x20000, s2 := 0x20 }
/-- R438: RW, reset 0. -/
def ISP_RING.BASE : Fld := { at0 := 0x6001000, len := 40, s1 := 0x20000, s2 := 0x80 }
/-- R438: RW, reset 0. -/
def ISP_RING_SLOT.SLOT_BYTES : Fld := { at0 := 0x6001040, len := 32, s1 := 0x20000, s2 := 0x80 }
/-! ### Table 16.5, 16_nozzle_health_loop.md -/

/-- R462: RWC, reset 0x20. -/
def NHA_CTL.CONF_MIN : Fld := { at0 := 0x6800018, len := 8, rst := fun _ _ => 0x20 }
/-- R462: RWC, reset 0x2. -/
def NHA_CTL.CONFIRM : Fld := { at0 := 0x6800010, len := 4, rst := fun _ _ => 2 }
/-- R462: RWC, reset 0x2. -/
def NHA_CTL.BASE_PAGES : Fld := { at0 := 0x680000c, len := 4, rst := fun _ _ => 2 }
/-- R462: RWC, reset 0. -/
def NHA_CTL.MASK_DEV : Fld := { at0 := 0x6800003, len := 1 }
/-- R462: RWC, reset 1. -/
def NHA_CTL.MASK_WEAK : Fld := { at0 := 0x6800002, len := 1, rst := fun _ _ => 1 }
/-- R462: RWC, reset 0. -/
def NHA_CTL.NOMASK : Fld := { at0 := 0x6800001, len := 1 }
/-- R462: RWC, reset 0. -/
def NHA_CTL.EN : Fld := { at0 := 0x6800000, len := 1 }
/-- R462: RO, reset 0. -/
def NHA_STATUS.BASE_SEEN : Fld := { at0 := 0x680003c, len := 4 }
/-- R462: RO, reset 0. -/
def NHA_STATUS.LAG : Fld := { at0 := 0x6800021, len := 1 }
/-- R462: RO, reset 0. -/
def NHA_STATUS.BASELINE : Fld := { at0 := 0x6800020, len := 1 }
/-- R462: RWC, reset 0x40. -/
def NHA_TH.MISS_TH : Fld := { at0 := 0x6800058, len := 8, rst := fun _ _ => 0x40 }
/-- R462: RWC, reset 0xB3. -/
def NHA_TH.WEAK_TH : Fld := { at0 := 0x6800050, len := 8, rst := fun _ _ => 0xb3 }
/-- R462: RWC, reset 0x80. -/
def NHA_TH.DEV_TH : Fld := { at0 := 0x6800048, len := 8, rst := fun _ _ => 0x80 }
/-- R462: RWC, reset 0x0040. -/
def NHA_MIN.MIN_DROPS : Fld := { at0 := 0x6800070, len := 16, rst := fun _ _ => 0x40 }
/-- R462: RWC, reset 0x0010. -/
def NHA_MIN.MIN_ISO : Fld := { at0 := 0x6800060, len := 16, rst := fun _ _ => 0x10 }
/-- R462: RWC, reset 0x231A_1200, 0x644E_3C2E. -/
def NHA_VOL.VOL : Fld := { at0 := 0x6800080, len := 8, s1 := 8, rst := fun k _ => [0x00, 0x12, 0x1A, 0x23, 0x2E, 0x3C, 0x4E, 0x64].getD k 0 }
/-- R462: RWC, reset 0xFFFF_FFFF. -/
def NHA_HEAD_MASK.MASK : Fld := { at0 := 0x68000c0, len := 64, rst := fun _ _ => 0xffffffffffffffff }
/-- R462: RO, reset 0. -/
def NHA_D_CAM.ROWS : Fld := { at0 := 0x6800100, len := 32 }
/-- R462: RW, reset 0. -/
def NHA_WINDOWS.COUNT : Fld := { at0 := 0x6800120, len := 32 }
/-- R462: RW, reset 0. -/
def NHA_EXCL.COUNT : Fld := { at0 := 0x6800140, len := 32 }
/-- R462: RO, reset 0x0. -/
def NHA_EXCL_REASON.LAST : Fld := { at0 := 0x6800160, len := 4 }
/-- R462: RW, reset 0. -/
def NHA_LATE.COUNT : Fld := { at0 := 0x6800180, len := 32 }
/-- R462: RW, reset 0. -/
def NHA_MASKS.COUNT : Fld := { at0 := 0x68001a0, len := 32 }
/-- R462: RO, reset 0. -/
def NHA_SUSPECTS.COUNT : Fld := { at0 := 0x68001c0, len := 18 }
/-- R462: RW, reset 0. -/
def NHA_SKIPPED.COUNT : Fld := { at0 := 0x68001e0, len := 32 }
/-- R462: RWC, reset 0x0032. -/
def NHA_RWAIT.WAIT : Fld := { at0 := 0x6800200, len := 16, rst := fun _ _ => 0x32 }
/-! ### Table 16.6, 16_nozzle_health_loop.md -/

/-- R463: RWC, reset 0x0100. -/
def NHA_CAM_CFG.LPITCH : Fld := { at0 := 0x6800810, len := 16, s1 := 0x400, rst := fun _ _ => 0x100 }
/-- R463: RWC, reset 0. -/
def NHA_CAM_CFG.DIR : Fld := { at0 := 0x6800802, len := 1, s1 := 0x400 }
/-- R463: RWC, reset 0. -/
def NHA_CAM_CFG.EN : Fld := { at0 := 0x6800800, len := 1, s1 := 0x400 }
/-- R463: RWC, reset 0. -/
def NHA_CAM_DIST.CAM_DIST : Fld := { at0 := 0x6800820, len := 32, s1 := 0x400 }
/-- R463: RWC, reset 0. -/
def NHA_CAM_EXP.EXP_DELAY : Fld := { at0 := 0x6800840, len := 24, s1 := 0x400 }
/-- R463: RWC, reset 0b00. -/
def NHA_CAM_BARS.SELF : Fld := { at0 := 0x6800864, len := 2, s1 := 0x400 }
/-- R463: RWC, reset 0b00. -/
def NHA_CAM_BARS.NBARS : Fld := { at0 := 0x6800860, len := 2, s1 := 0x400 }
/-- R463: RWC, reset 0xFFFF. -/
def NHA_CAM_WHITE.W : Fld := { at0 := 0x6800880, len := 16, s1 := 0x400, s2 := 0x10, rst := fun _ _ => 0xffff }
/-- R463: RWC, reset 0x3FF. -/
def NHA_CAM_NODE.NODE : Fld := { at0 := 0x68008e0, len := 10, s1 := 0x400, s2 := 0x10, rst := fun _ _ => 0x3ff }
/-- R463: RWC, reset 0. -/
def NHA_CAM_UNMIX.COEF : Fld := { at0 := 0x6800980, len := 16, s1 := 0x400, s2 := 0x20 }
/-- R463: RWC, reset 0x0100. -/
def NHA_RSRC_CFG.LPITCH : Fld := { at0 := 0x6802810, len := 16, s1 := 0x100, rst := fun _ _ => 0x100 }
/-- R463: RWC, reset 0. -/
def NHA_RSRC_CFG.EN : Fld := { at0 := 0x680280f, len := 1, s1 := 0x100 }
/-- R463: RWC, reset 0. -/
def NHA_RSRC_CFG.DIR : Fld := { at0 := 0x680280e, len := 1, s1 := 0x100 }
/-- R463: RWC, reset 0b00. -/
def NHA_RSRC_CFG.PORT : Fld := { at0 := 0x680280c, len := 2, s1 := 0x100 }
/-- R463: RWC, reset 0x3FF. -/
def NHA_RSRC_CFG.NODE : Fld := { at0 := 0x6802800, len := 10, s1 := 0x100, rst := fun _ _ => 0x3ff }
/-- R463: RWC, reset 0. -/
def NHA_RSRC_DIST.CAM_DIST : Fld := { at0 := 0x6802820, len := 32, s1 := 0x100 }
/-- R463: RWC, reset 0x0001. -/
def NHA_RSRC_SPAN.SPAN : Fld := { at0 := 0x6802840, len := 16, s1 := 0x100, rst := fun _ _ => 1 }
/-- R463: RW, reset 0. -/
def NHA_RSRC_BLOCKS.COUNT : Fld := { at0 := 0x6802860, len := 32, s1 := 0x100 }
/-! ### Table 17.9, 17_redundant_pair_and_hoop.md -/

/-- R489: RWC, reset 1. -/
def PAIR_CTL.TABLE_SYNC : Fld := { at0 := 0x7000007, len := 1, rst := fun _ _ => 1 }
/-- R489: RWC, reset 0. -/
def PAIR_CTL.FWD : Fld := { at0 := 0x7000006, len := 1 }
/-- R489: RWC, reset 1. -/
def PAIR_CTL.AUTO : Fld := { at0 := 0x7000005, len := 1, rst := fun _ _ => 1 }
/-- R489: RWC, reset 0. -/
def PAIR_CTL.MEMBER : Fld := { at0 := 0x7000001, len := 1 }
/-- R489: RWC, reset 0. -/
def PAIR_CTL.EN : Fld := { at0 := 0x7000000, len := 1 }
/-- R489: RO, reset 0. -/
def PAIR_STATUS.OOS : Fld := { at0 := 0x7000030, len := 8 }
/-- R489: RO, reset 0. -/
def PAIR_STATUS.WATCH : Fld := { at0 := 0x7000028, len := 1 }
/-- R489: RO, reset 0. -/
def PAIR_STATUS.PEER_IN_STEP : Fld := { at0 := 0x7000027, len := 1 }
/-- R489: RO, reset 0. -/
def PAIR_STATUS.IN_STEP : Fld := { at0 := 0x7000026, len := 1 }
/-- R489: RO, reset 0. -/
def PAIR_STATUS.PEER_CLAIM : Fld := { at0 := 0x7000025, len := 1 }
/-- R489: RO, reset 0. -/
def PAIR_STATUS.OWN_CLAIM : Fld := { at0 := 0x7000024, len := 1 }
/-- R489: RO, reset 0. -/
def PAIR_STATUS.SWAP_WAIT : Fld := { at0 := 0x7000023, len := 1 }
/-- R489: RO, reset 0. -/
def PAIR_STATUS.ROLE : Fld := { at0 := 0x7000020, len := 3 }
/-- R489: RWC, reset 0x3FF. -/
def PAIR_PEER.NODE : Fld := { at0 := 0x7000040, len := 10, rst := fun _ _ => 0x3ff }
/-- R489: RWC, reset 0x64. -/
def PAIR_TIMING.HB_INTERVAL : Fld := { at0 := 0x7000078, len := 8, rst := fun _ _ => 0x64 }
/-- R489: RWC, reset 0x1E. -/
def PAIR_TIMING.HB_LOSS : Fld := { at0 := 0x7000070, len := 8, rst := fun _ _ => 0x1e }
/-- R489: RWC, reset 0x1000. -/
def PAIR_TIMING.POS_TOL : Fld := { at0 := 0x7000060, len := 16, rst := fun _ _ => 0x1000 }
/-- R489: RW, reset 0. -/
def PAIR_LOST_ROWS.COUNT : Fld := { at0 := 0x7000080, len := 32 }
/-- R489: RW, reset 0. -/
def PAIR_TAKEOVERS.COUNT : Fld := { at0 := 0x70000a0, len := 32 }
/-- R489: RW, reset 0. -/
def PAIR_SYNC_ERR.COUNT : Fld := { at0 := 0x70000c0, len := 32 }
/-- R489: RO, reset 0. -/
def PAIR_LAST_GAP.FIRES : Fld := { at0 := 0x70000e0, len := 16 }
/-- R489: RO, reset 0. -/
def PAIR_LAST_TAKE.T : Fld := { at0 := 0x7000100, len := 48 }
/-- R489: RW, reset 0x01. -/
def HOOP_CFG.HOLD : Fld := { at0 := 0x7000838, len := 8, rst := fun _ _ => 1 }
/-- R489: RW, reset 0x32. -/
def HOOP_CFG.WDOG : Fld := { at0 := 0x7000830, len := 8, rst := fun _ _ => 0x32 }
/-- R489: RW, reset 0. -/
def HOOP_CFG.DEBUG : Fld := { at0 := 0x7000822, len := 1 }
/-- R489: RW, reset 1. -/
def HOOP_CFG.HEAD_EN : Fld := { at0 := 0x7000821, len := 1, rst := fun _ _ => 1 }
/-- R489: RW, reset 0. -/
def HOOP_CFG.STOP_KIND : Fld := { at0 := 0x7000820, len := 1 }
/-- R489: RO, reset 0. -/
def HOOP_STATUS.LATCHED : Fld := { at0 := 0x7000868, len := 8 }
/-- R489: RO, reset 0. -/
def HOOP_STATUS.CAP : Fld := { at0 := 0x7000863, len := 1 }
/-- R489: RO, reset 1. -/
def HOOP_STATUS.FAULT : Fld := { at0 := 0x7000862, len := 1, rst := fun _ _ => 1 }
/-- R489: RO, reset 0. -/
def HOOP_STATUS.OVERRIDE : Fld := { at0 := 0x7000861, len := 1 }
/-- R489: RO, reset 0. -/
def HOOP_STATUS.ACTED : Fld := { at0 := 0x7000860, len := 1 }
/-- R489: RO, reset 0. -/
def HOOP_TIME.T : Fld := { at0 := 0x7000880, len := 48 }
/-! ### Table 18.6, 18_maintenance_axes.md -/

/-- R517: RWC, reset 0b00. -/
def AXIS_CTL.LIM_POL : Fld := { at0 := 0x7800008, len := 2, s1 := 0x2000 }
/-- R517: RWC, reset 0. -/
def AXIS_CTL.INV : Fld := { at0 := 0x7800001, len := 1, s1 := 0x2000 }
/-- R517: RWC, reset 0. -/
def AXIS_CTL.EN : Fld := { at0 := 0x7800000, len := 1, s1 := 0x2000 }
/-- R517: RO, reset 0x0. -/
def AXIS_STATUS.LAST_FAULT : Fld := { at0 := 0x7800034, len := 4, s1 := 0x2000 }
/-- R517: RO, reset 0x0. -/
def AXIS_STATUS.LAST_END : Fld := { at0 := 0x7800030, len := 4, s1 := 0x2000 }
/-- R517: RO, reset 0. -/
def AXIS_STATUS.LIM_HI : Fld := { at0 := 0x7800029, len := 1, s1 := 0x2000 }
/-- R517: RO, reset 0. -/
def AXIS_STATUS.LIM_LO : Fld := { at0 := 0x7800028, len := 1, s1 := 0x2000 }
/-- R517: RO, reset 0. -/
def AXIS_STATUS.HOMED : Fld := { at0 := 0x7800027, len := 1, s1 := 0x2000 }
/-- R517: RO, reset 1. -/
def AXIS_STATUS.POS_DOUBT : Fld := { at0 := 0x7800026, len := 1, s1 := 0x2000, rst := fun _ _ => 1 }
/-- R517: RO, reset 0. -/
def AXIS_STATUS.FLT_IN : Fld := { at0 := 0x7800025, len := 1, s1 := 0x2000 }
/-- R517: RO, reset 0. -/
def AXIS_STATUS.DIR : Fld := { at0 := 0x7800024, len := 1, s1 := 0x2000 }
/-- R517: RO, reset 0. -/
def AXIS_STATUS.STATE : Fld := { at0 := 0x7800020, len := 3, s1 := 0x2000 }
/-- R517: RWC, reset 0. -/
def AXIS_POS.P : Fld := { at0 := 0x7800040, len := 64, s1 := 0x2000 }
/-- R517: RO, reset 0. -/
def AXIS_TARGET.TARGET : Fld := { at0 := 0x7800080, len := 64, s1 := 0x2000 }
/-- R517: RO, reset 0. -/
def AXIS_VNOW.V : Fld := { at0 := 0x78000c0, len := 32, s1 := 0x2000 }
/-- R517: RWC, reset 0x0010_0000. -/
def AXIS_VMAX.VMAX : Fld := { at0 := 0x7800100, len := 32, s1 := 0x2000, rst := fun _ _ => 0x100000 }
/-- R517: RWC, reset 0x0000_1000. -/
def AXIS_AMAX.AMAX : Fld := { at0 := 0x7800120, len := 32, s1 := 0x2000, rst := fun _ _ => 0x1000 }
/-- R517: RWC, reset 0x0000_0100. -/
def AXIS_JMAX.JMAX : Fld := { at0 := 0x7800140, len := 32, s1 := 0x2000, rst := fun _ _ => 0x100 }
/-- R517: RWC, reset 0x200. -/
def AXIS_KVAL.KHOLD : Fld := { at0 := 0x7800190, len := 12, s1 := 0x2000, rst := fun _ _ => 0x200 }
/-- R517: RWC, reset 0x400. -/
def AXIS_KVAL.KRUN : Fld := { at0 := 0x7800180, len := 12, s1 := 0x2000, rst := fun _ _ => 0x400 }
/-- R517: RWC, reset 0x14. -/
def AXIS_BEMF.DEAD : Fld := { at0 := 0x78001b0, len := 8, s1 := 0x2000, rst := fun _ _ => 0x14 }
/-- R517: RWC, reset 0x0000. -/
def AXIS_BEMF.BEMF : Fld := { at0 := 0x78001a0, len := 16, s1 := 0x2000 }
/-- R517: RWC, reset 0x0A. -/
def AXIS_LIM_CFG.DEB : Fld := { at0 := 0x78001c0, len := 8, s1 := 0x2000, rst := fun _ _ => 0xa }
/-- R517: RO, reset 0. -/
def AXIS_LIM_LO_POS.P : Fld := { at0 := 0x7800200, len := 64, s1 := 0x2000 }
/-- R517: RO, reset 0. -/
def AXIS_LIM_HI_POS.P : Fld := { at0 := 0x7800240, len := 64, s1 := 0x2000 }
/-- R517: RW, reset 0. -/
def AXIS_MOVES.COUNT : Fld := { at0 := 0x7800300, len := 32, s1 := 0x2000 }
/-- R517: RW, reset 0. -/
def AXIS_FAULTS.COUNT : Fld := { at0 := 0x7800320, len := 32, s1 := 0x2000 }
/-- R517: RWC, reset R497. -/
def AXIS_TABLE.T : Fld := { at0 := 0x7801000, len := 10, s1 := 0x2000, s2 := 0x10, rst := fun _ m => quarterSine m }
/-! ### Table 19.1, 19_lamps_and_indicators.md -/

/-- R531: RWC, reset 0x0. -/
def LAMP_CTL.CAM_SRC : Fld := { at0 := 0x8000008, len := 4, s1 := 0x200 }
/-- R531: RWC, reset 0x0. -/
def LAMP_CTL.NTC : Fld := { at0 := 0x8000004, len := 4, s1 := 0x200 }
/-- R531: RWC, reset 0. -/
def LAMP_CTL.COMP_EN : Fld := { at0 := 0x8000002, len := 1, s1 := 0x200 }
/-- R531: RWC, reset 0. -/
def LAMP_CTL.MODE : Fld := { at0 := 0x8000001, len := 1, s1 := 0x200 }
/-- R531: RWC, reset 0. -/
def LAMP_CTL.EN : Fld := { at0 := 0x8000000, len := 1, s1 := 0x200 }
/-- R531: RWC, reset 0. -/
def LAMP_SET.FADE_MS : Fld := { at0 := 0x8000030, len := 16, s1 := 0x200 }
/-- R531: RWC, reset 0. -/
def LAMP_SET.TARGET : Fld := { at0 := 0x8000020, len := 16, s1 := 0x200 }
/-- R531: RO, reset 0. -/
def LAMP_STATUS.DUTY : Fld := { at0 := 0x8000050, len := 16, s1 := 0x200 }
/-- R531: RO, reset 0. -/
def LAMP_STATUS.STROBING : Fld := { at0 := 0x8000041, len := 1, s1 := 0x200 }
/-- R531: RO, reset 0. -/
def LAMP_STATUS.FADING : Fld := { at0 := 0x8000040, len := 1, s1 := 0x200 }
/-- R531: RO, reset 0. -/
def LAMP_NOW.NOW : Fld := { at0 := 0x8000060, len := 16, s1 := 0x200 }
/-- R531: RWC, reset 0x00C8. -/
def LAMP_STROBE.WIDTH : Fld := { at0 := 0x8000090, len := 16, s1 := 0x200, rst := fun _ _ => 0xc8 }
/-- R531: RWC, reset 0x0014. -/
def LAMP_STROBE.DELAY : Fld := { at0 := 0x8000080, len := 16, s1 := 0x200, rst := fun _ _ => 0x14 }
/-- R531: RW, reset 0. -/
def LAMP_STROBE_LATE.COUNT : Fld := { at0 := 0x80000a0, len := 32, s1 := 0x200 }
/-- R531: RW, reset 0. -/
def LAMP_STROBE_MERGED.COUNT : Fld := { at0 := 0x80000c0, len := 32, s1 := 0x200 }
/-- R531: RWC, reset 160 × p. -/
def LAMP_COMP.TEMP : Fld := { at0 := 0x8002010, len := 16, s1 := 0x200, s2 := 0x20, rst := fun _ p => 160 * p }
/-- R531: RWC, reset 0x4000. -/
def LAMP_COMP.GAIN : Fld := { at0 := 0x8002000, len := 16, s1 := 0x200, s2 := 0x20, rst := fun _ _ => 0x4000 }
/-- R531: RWC, reset 0. -/
def LAMP_CURVE.TEMP : Fld := { at0 := 0x8004010, len := 16, s1 := 0x20 }
/-- R531: RWC, reset 256 × p + 128. -/
def LAMP_CURVE.CODE : Fld := { at0 := 0x8004000, len := 12, s1 := 0x20, rst := fun p _ => 256 * p + 128 }
/-- R531: RO, reset 0. -/
def LAMP_NTC.TEMP : Fld := { at0 := 0x8004810, len := 16, s1 := 0x20 }
/-- R531: RO, reset 0. -/
def LAMP_NTC.FAULT : Fld := { at0 := 0x800480c, len := 1, s1 := 0x20 }
/-- R531: RO, reset 0. -/
def LAMP_NTC.CODE : Fld := { at0 := 0x8004800, len := 12, s1 := 0x20 }
/-- R531: RWC, reset 0x32. -/
def MX_CFG.BLINK_T : Fld := { at0 := 0x8006010, len := 8, rst := fun _ _ => 0x32 }
/-- R531: RWC, reset 0x04. -/
def MX_CFG.BLANK : Fld := { at0 := 0x8006008, len := 6, rst := fun _ _ => 4 }
/-- R531: RWC, reset 0. -/
def MX_CFG.EN : Fld := { at0 := 0x8006000, len := 1 }
/-- R531: RWC, reset 0. -/
def MX_CELL.LEVEL : Fld := { at0 := 0x8006200, len := 2, s1 := 4 }
/-- R531: RWC, reset 0. -/
def MX_CELL.BLINK : Fld := { at0 := 0x8006202, len := 1, s1 := 4 }
/-! ### Table 20.2, 20_check_units_and_nvm.md -/

/-- R538: RWC, reset 0. -/
def CHK_CTL.ALIVE_EN : Fld := { at0 := 0x8800010, len := 1, s1 := 0x800 }
/-- R538: RWC, reset 0x00. -/
def CHK_CTL.ALIVE : Fld := { at0 := 0x8800008, len := 8, s1 := 0x800 }
/-- R538: RWC, reset 0b00. -/
def CHK_CTL.ALG : Fld := { at0 := 0x8800000, len := 2, s1 := 0x800 }
/-- R538: RO, reset 0x0. -/
def CHK_STATUS.ERR : Fld := { at0 := 0x8800024, len := 4, s1 := 0x800 }
/-- R538: RO, reset 0. -/
def CHK_STATUS.MATCH : Fld := { at0 := 0x8800023, len := 1, s1 := 0x800 }
/-- R538: RO, reset 0. -/
def CHK_STATUS.STATE : Fld := { at0 := 0x8800020, len := 3, s1 := 0x800 }
/-- R538: RW, reset 0. -/
def CHK_SRC.SRC : Fld := { at0 := 0x8800040, len := 40, s1 := 0x800 }
/-- R538: RW, reset 0. -/
def CHK_LEN.LEN : Fld := { at0 := 0x8800080, len := 32, s1 := 0x800 }
/-- R538: RO, reset 0. -/
def CHK_DONE.DONE : Fld := { at0 := 0x88000a0, len := 32, s1 := 0x800 }
/-- R538: RWC, reset 0xFFFF_FFFF. -/
def CHK_VALUE.VALUE : Fld := { at0 := 0x88000c0, len := 32, s1 := 0x800, rst := fun _ _ => 0xffffffff }
/-- R538: RO, reset 0. -/
def CHK_RESULT.RESULT : Fld := { at0 := 0x88000e0, len := 32, s1 := 0x800 }
/-- R538: RWC, reset 0. -/
def CHK_EXPECT.EXPECT : Fld := { at0 := 0x8800100, len := 32, s1 := 0x800 }
/-- R538: RWC, reset 0. -/
def CHK_LAST_ALIVE.VALID : Fld := { at0 := 0x8800128, len := 1, s1 := 0x800 }
/-- R538: RO, reset 0x00. -/
def CHK_LAST_ALIVE.LAST : Fld := { at0 := 0x8800120, len := 8, s1 := 0x800 }
/-! ### Table 20.5, 20_check_units_and_nvm.md -/

/-- R546: RO, reset 0. -/
def NVM_STATUS.BOOT_BAD : Fld := { at0 := 0x900001f, len := 1 }
/-- R546: W1C, reset 0. -/
def NVM_STATUS.HIST_WRAP : Fld := { at0 := 0x900001e, len := 1 }
/-- R546: RO, reset 0. -/
def NVM_STATUS.BAD_PAGE : Fld := { at0 := 0x9000010, len := 14 }
/-- R546: RO, reset 0. -/
def NVM_STATUS.QUEUE : Fld := { at0 := 0x9000008, len := 8 }
/-- R546: RO, reset 0. -/
def NVM_STATUS.HOST_BUSY : Fld := { at0 := 0x9000000, len := 1 }
/-- R546: RWC, reset 0x2FAF_0800. -/
def NVM_WEAR_CFG.THRESH : Fld := { at0 := 0x9000020, len := 32, rst := fun _ _ => 0x2faf0800 }
/-- R546: RO, reset 0. -/
def NVM_WEAR_MAX.COUNT : Fld := { at0 := 0x9000040, len := 32 }
/-- R546: RO, reset 0. -/
def NVM_WEAR_PAGE.PAGE : Fld := { at0 := 0x9000060, len := 14 }
/-- R546: RW, reset 0. -/
def NVM_WRITES.COUNT : Fld := { at0 := 0x9000080, len := 32 }
/-- R546: RW, reset 0. -/
def NVM_VERIFY_FAIL.COUNT : Fld := { at0 := 0x90000a0, len := 32 }
/-- R546: RW, reset 0. -/
def NVM_BOOT_SKIP.COUNT : Fld := { at0 := 0x90000c0, len := 32 }
/-- R546: RW, reset 0. -/
def NVM_DROPPED.COUNT : Fld := { at0 := 0x90000e0, len := 32 }
/-- R546: RWC, reset Table 20.6. -/
def NVM_LOG_MASK.MASK : Fld := { at0 := 0x9000100, len := 32, s1 := 0x20, rst := fun w _ => [0xA6A, 0x24200200, 0x2000F00, 0x22330000].getD w 0 }
/-- R546: RO, reset 0. -/
def NVM_LOG_NEXT.SEQ : Fld := { at0 := 0x9000180, len := 32 }
/-! ### R204, 06_evnar_fabric.md -/

/-- R204: RO, reset 0xF (0x8 for the own ID). -/
def FAB_ROUTE.CODE : Fld := { at0 := 0x1908000, len := 4, s1 := 0x20, rst := fun n _ => if n = 0 then 8 else 0xF }
/-! ### R438, 15_inspection_cameras.md -/

/-- R438: RW, reset i x 16. -/
def ISP_LUT.ENTRY : Fld := { at0 := 0x6008000, len := 16, s1 := 0x20000, s2 := 0x10, rst := fun _ i => i * 16 }
/-- R438: RW, reset 0. -/
def ISP_DEFECT.X : Fld := { at0 := 0x6018000, len := 16, s1 := 0x20000, s2 := 0x20 }
/-- R438: RW, reset 0. -/
def ISP_DEFECT.Y : Fld := { at0 := 0x6018010, len := 16, s1 := 0x20000, s2 := 0x20 }
/-! ### R463, 16_nozzle_health_loop.md -/

/-- R463: RW, reset 0. -/
def NHA_GEOM.VALID : Fld := { at0 := 0x688001f, len := 1, s1 := 0x40000, s2 := 0x20 }
/-- R463: RW, reset 0. -/
def NHA_GEOM.SKEW : Fld := { at0 := 0x6880012, len := 13, s1 := 0x40000, s2 := 0x20 }
/-- R463: RW, reset 0. -/
def NHA_GEOM.COL : Fld := { at0 := 0x6880000, len := 17, s1 := 0x40000, s2 := 0x20 }
/-- R463: RW, reset 0. -/
def NHA_RGEOM.VALID : Fld := { at0 := 0x698001f, len := 1, s1 := 0x40000, s2 := 0x20 }
/-- R463: RW, reset 0. -/
def NHA_RGEOM.SKEW : Fld := { at0 := 0x6980012, len := 13, s1 := 0x40000, s2 := 0x20 }
/-- R463: RW, reset 0. -/
def NHA_RGEOM.COL : Fld := { at0 := 0x6980000, len := 17, s1 := 0x40000, s2 := 0x20 }
/-! ### Table 16.7, 16_nozzle_health_loop.md -/

/-- R464: RO, reset 0. -/
def NHA_NOZ.CONF : Fld := { at0 := 0x6c00018, len := 8, s1 := 0x20 }
/-- R464: RO, reset 0. -/
def NHA_NOZ.STREAK : Fld := { at0 := 0x6c00014, len := 4, s1 := 0x20 }
/-- R464: RO, reset 0. -/
def NHA_NOZ.BASE_OWN : Fld := { at0 := 0x6c00013, len := 1, s1 := 0x20 }
/-- R464: RO, reset 0. -/
def NHA_NOZ.CLASS : Fld := { at0 := 0x6c00010, len := 3, s1 := 0x20 }
/-- R464: RO, reset 0. -/
def NHA_NOZ.RATIO : Fld := { at0 := 0x6c00000, len := 16, s1 := 0x20 }

/-- A field of a table that holds two entries in each word, as one word holds it: the d-th of the two. -/
def Fld.pair (F : Fld) (d : Nat) : Fld :=
  { F with at0 := F.at0 + F.s2 * d, s2 := 2 * F.s2, rst := fun i j => F.rst i (2 * j + d) }

/-- A field of a table that holds eight entries in each word, as one word holds it: the d-th of the eight. -/
def Fld.eighth (F : Fld) (d : Nat) : Fld :=
  { F with at0 := F.at0 + F.s1 * d, s1 := 8 * F.s1, rst := fun i j => F.rst (8 * i + d) j }

/-- The register words of SYS, part 0. -/
def rowsSYS0 : List RegRow :=
  [⟨0, 0, 1, 0, 1, [⟨31, 16, .ro, SYS_ID.DEVICE, 0⟩, ⟨15, 12, .ro, SYS_ID.MAJOR, 0⟩, ⟨11, 8, .ro, SYS_ID.MINOR, 0⟩, ⟨7, 4, .ro, SYS_ID.GRADE, 0⟩]⟩,
   ⟨0x204, 0, 1, 0, 1, [⟨31, 16, .rwc, (SYS_PD_CTL.NAP_DELAY.sub 1 0), 0⟩, ⟨15, 8, .rwc, (SYS_PD_CTL.IDLE_TIMER.sub 1 0), 0⟩, ⟨0, 0, .ro, (SYS_PD_CTL.NAP_EN.sub 1 0), 0⟩]⟩,
   ⟨0x208, 4, 4, 0, 1, [⟨31, 16, .rwc, (SYS_PD_CTL.NAP_DELAY.sub 2 0), 0⟩, ⟨15, 8, .rwc, (SYS_PD_CTL.IDLE_TIMER.sub 2 0), 0⟩, ⟨0, 0, .rwc, (SYS_PD_CTL.NAP_EN.sub 2 0), 0⟩]⟩,
   ⟨0x218, 0, 1, 0, 1, [⟨31, 16, .rwc, (SYS_PD_CTL.NAP_DELAY.sub 6 0), 0⟩, ⟨15, 8, .rwc, (SYS_PD_CTL.IDLE_TIMER.sub 6 0), 0⟩, ⟨0, 0, .ro, (SYS_PD_CTL.NAP_EN.sub 6 0), 0⟩]⟩,
   ⟨0x21c, 4, 11, 0, 1, [⟨31, 16, .rwc, (SYS_PD_CTL.NAP_DELAY.sub 7 0), 0⟩, ⟨15, 8, .rwc, (SYS_PD_CTL.IDLE_TIMER.sub 7 0), 0⟩, ⟨0, 0, .rwc, (SYS_PD_CTL.NAP_EN.sub 7 0), 0⟩]⟩,
   ⟨0x100, 0, 1, 0, 1, [⟨31, 28, .ro, AON_STATUS.BOOT, 0⟩, ⟨27, 24, .ro, AON_STATUS.CAUSE, 0⟩, ⟨22, 18, .ro, AON_STATUS.DOMAIN, 0⟩, ⟨17, 16, .ro, AON_STATUS.GROUP, 0⟩, ⟨15, 13, .ro, AON_STATUS.ATTEMPTS, 0⟩, ⟨7, 7, .w1c, AON_STATUS.FAIL, 0⟩, ⟨6, 6, .ro, AON_STATUS.WAKE_FAIL_PEND, 0⟩, ⟨5, 4, .ro, AON_STATUS.WAKE_SRC, 0⟩, ⟨3, 3, .w1c, AON_STATUS.TIME_HOLDOVER, 0⟩]⟩,
   ⟨0x104, 0, 1, 0, 1, [⟨1, 0, .ro, AON_PD_STATE.STATE, 0⟩, ⟨3, 2, .ro, (AON_PD_STATE.STATE.sub 1 0), 0⟩, ⟨5, 4, .ro, (AON_PD_STATE.STATE.sub 2 0), 0⟩, ⟨7, 6, .ro, (AON_PD_STATE.STATE.sub 3 0), 0⟩, ⟨9, 8, .ro, (AON_PD_STATE.STATE.sub 4 0), 0⟩, ⟨11, 10, .ro, (AON_PD_STATE.STATE.sub 5 0), 0⟩, ⟨13, 12, .ro, (AON_PD_STATE.STATE.sub 6 0), 0⟩, ⟨15, 14, .ro, (AON_PD_STATE.STATE.sub 7 0), 0⟩, ⟨17, 16, .ro, (AON_PD_STATE.STATE.sub 8 0), 0⟩, ⟨19, 18, .ro, (AON_PD_STATE.STATE.sub 9 0), 0⟩, ⟨21, 20, .ro, (AON_PD_STATE.STATE.sub 10 0), 0⟩, ⟨23, 22, .ro, (AON_PD_STATE.STATE.sub 11 0), 0⟩, ⟨25, 24, .ro, (AON_PD_STATE.STATE.sub 12 0), 0⟩, ⟨27, 26, .ro, (AON_PD_STATE.STATE.sub 13 0), 0⟩, ⟨29, 28, .ro, (AON_PD_STATE.STATE.sub 14 0), 0⟩, ⟨31, 30, .ro, (AON_PD_STATE.STATE.sub 15 0), 0⟩]⟩,
   ⟨0x108, 0, 1, 0, 1, [⟨1, 0, .ro, (AON_PD_STATE.STATE.sub 16 0), 0⟩, ⟨3, 2, .ro, (AON_PD_STATE.STATE.sub 17 0), 0⟩]⟩,
   ⟨0x10c, 0, 1, 0, 1, [⟨31, 24, .rw, AON_WAKE_CFG.T_REG, 0⟩, ⟨23, 16, .rw, AON_WAKE_CFG.T_LOCK, 0⟩, ⟨15, 8, .rw, AON_WAKE_CFG.BACKOFF, 0⟩, ⟨2, 0, .rw, AON_WAKE_CFG.RETRIES, 0⟩]⟩,
   ⟨0x110, 0, 1, 0, 1, [⟨31, 31, .w1s, AON_CTL.SB_WR_LOCK, 0⟩, ⟨15, 12, .rw, AON_CTL.WAKE_CMP, 0⟩, ⟨9, 9, .rw, AON_CTL.WAKE_SB_EN, 0⟩, ⟨8, 8, .rw, AON_CTL.WAKE_PIN_EN, 0⟩, ⟨2, 2, .wo, .none, 0⟩, ⟨1, 1, .wo, .none, 0⟩, ⟨0, 0, .wo, .none, 0⟩]⟩,
   ⟨0x114, 0, 1, 0, 1, [⟨31, 0, .ro, AON_TIME_CAL.PERIOD, 0⟩]⟩,
   ⟨0x40, 0, 1, 0, 1, [⟨19, 16, .ro, SYS_TEMP.HOTTEST, 0⟩, ⟨15, 0, .ro, SYS_TEMP.MAX, 0⟩]⟩,
   ⟨0x44, 0, 1, 0, 1, [⟨15, 8, .rw, SYS_TEMP_CFG.WARN, 0⟩, ⟨7, 0, .rw, SYS_TEMP_CFG.CRIT, 0⟩]⟩,
   ⟨0x10, 0, 1, 0, 1, [⟨9, 9, .ro, SYS_PL.VSETTLING, 0⟩, ⟨8, 8, .ro, SYS_PL.PENDING, 0⟩, ⟨5, 4, .ro, SYS_PL.IN_FORCE, 0⟩, ⟨1, 0, .rwc, SYS_PL.REQ, 0⟩]⟩,
   ⟨0x300, 0, 1, 0, 1, [⟨31, 0, .rw, SYS_CMD_DISCARD.COUNT, 0⟩]⟩,
   ⟨0x304, 0, 1, 0, 1, [⟨31, 0, .rw, SYS_CMD_REFUSED.COUNT, 0⟩]⟩,
   ⟨0x308, 0, 1, 0, 1, [⟨8, 0, .ro, SYS_CMD_INFLIGHT.NOW, 0⟩]⟩]

/-- Every register word of SYS. -/
def rowsSYS : List RegRow := rowsSYS0

/-- The register words of CAVE, part 0. -/
def rowsCAVE0 : List RegRow :=
  [⟨0x1300000, 0, 1, 0, 1, [⟨17, 1, .ro, CAVE_VALID.VALID, 0⟩]⟩,
   ⟨0x1300004, 0, 1, 0, 1, [⟨17, 1, .w1c, CAVE_LOST.LOST, 0⟩]⟩]

/-- Every register word of CAVE. -/
def rowsCAVE : List RegRow := rowsCAVE0

/-- The register words of ACC, part 0. -/
def rowsACC0 : List RegRow :=
  [⟨0x10000, 0, 1, 0, 1, [⟨0, 0, .w1s, ACC_CTL.LOCK, 0⟩]⟩,
   ⟨0x10004, 0, 1, 0, 1, [⟨31, 31, .w1c, ACC_VIOL_INFO.VALID, 0⟩, ⟨30, 28, .ro, ACC_VIOL_INFO.CLASS, 0⟩, ⟨27, 26, .ro, ACC_VIOL_INFO.KIND, 0⟩, ⟨25, 24, .ro, ACC_VIOL_INFO.SPACE, 0⟩, ⟨23, 16, .ro, ACC_VIOL_INFO.INDEX, 0⟩, ⟨15, 8, .ro, ACC_VIOL_INFO.OPCODE, 0⟩]⟩,
   ⟨0x10008, 0, 1, 0, 1, [⟨31, 0, .ro, ACC_VIOL_ADDR.ADDR, 0⟩]⟩,
   ⟨0x1000c, 0, 1, 0, 1, [⟨7, 0, .ro, ACC_VIOL_ADDR.ADDR, 32⟩]⟩,
   ⟨0x10010, 0, 1, 0, 1, [⟨31, 0, .ro, ACC_VIOL_COUNT.COUNT, 0⟩]⟩,
   ⟨0x10100, 4, 22, 0, 1, [⟨23, 0, .rwc, ACC_BLK.RIGHTS, 0⟩]⟩,
   ⟨0x10200, 4, 16, 0, 1, [⟨23, 0, .rwc, ACC_VAT.RIGHTS, 0⟩]⟩,
   ⟨0x10300, 0x10, 16, 0, 1, [⟨31, 31, .rwc, ACC_DRAM_BASE.EN, 0⟩, ⟨14, 0, .rwc, ACC_DRAM_BASE.BASE, 0⟩]⟩,
   ⟨0x10304, 0x10, 16, 0, 1, [⟨14, 0, .rwc, ACC_DRAM_LIMIT.LIMIT, 0⟩]⟩,
   ⟨0x10308, 0x10, 16, 0, 1, [⟨23, 0, .rwc, ACC_DRAM_RIGHTS.RIGHTS, 0⟩]⟩,
   ⟨0x10400, 0, 1, 0, 1, [⟨23, 0, .rwc, ACC_DRAM_DEFAULT.RIGHTS, 0⟩]⟩]

/-- Every register word of ACC. -/
def rowsACC : List RegRow := rowsACC0

/-- The register words of EVT, part 0. -/
def rowsEVT0 : List RegRow :=
  [⟨0x20000, 4, 4, 0, 1, [⟨31, 0, .rwc, EVT_ENABLE.ENABLE, 0⟩]⟩,
   ⟨0x20010, 4, 4, 0, 1, [⟨31, 0, .w1c, EVT_PENDING.PENDING, 0⟩]⟩,
   ⟨0x20020, 4, 4, 0, 1, [⟨31, 0, .rwc, EVT_PIN_MASK.PIN_MASK, 0⟩]⟩,
   ⟨0x20030, 0, 1, 0, 1, [⟨8, 0, .ro, EVT_SUMMARY.GROUP, 0⟩]⟩,
   ⟨0x20040, 4, 32, 0, 1, [⟨31, 0, .ro, EVT_COUNT.COUNT, 0⟩]⟩,
   ⟨0x20100, 0x20, 16, 0, 1, [⟨31, 31, .rwc, EVT_SUB_CFG.EN, 0⟩, ⟨30, 30, .rwc, EVT_SUB_CFG.BATCH, 0⟩, ⟨29, 28, .rwc, EVT_SUB_CFG.PORT, 0⟩, ⟨9, 0, .rwc, EVT_SUB_CFG.NODE, 0⟩]⟩,
   ⟨0x20104, 0x20, 16, 0, 1, [⟨15, 0, .ro, EVT_SUB_SEQ.SEQ, 0⟩]⟩,
   ⟨0x20110, 0x20, 16, 4, 4, [⟨31, 0, .rwc, EVT_SUB_MASK.MASK, 0⟩]⟩]

/-- Every register word of EVT. -/
def rowsEVT : List RegRow := rowsEVT0

/-- The register words of HOST, part 0. -/
def rowsHOST0 : List RegRow :=
  [⟨0x100000, 0x8000, 2, 0, 1, [⟨27, 16, .rwc, HOST_CTL.VID, 0⟩, ⟨12, 12, .rwc, HOST_CTL.VLAN_EN, 0⟩, ⟨11, 8, .rwc, HOST_CTL.TX_INV, 0⟩, ⟨7, 4, .rwc, HOST_CTL.RX_INV, 0⟩, ⟨3, 3, .rwc, HOST_CTL.FEC_EN, 0⟩, ⟨2, 1, .rwc, HOST_CTL.MODE, 0⟩, ⟨0, 0, .rwc, HOST_CTL.EN, 0⟩]⟩,
   ⟨0x100004, 0x8000, 2, 0, 1, [⟨11, 8, .ro, HOST_STATUS.BLOCK_LOCK, 0⟩, ⟨5, 4, .ro, HOST_STATUS.MODE_IN_FORCE, 0⟩, ⟨3, 3, .ro, HOST_STATUS.HI_SER, 0⟩, ⟨2, 2, .ro, HOST_STATUS.FEC_LOCK, 0⟩, ⟨1, 1, .ro, HOST_STATUS.ALIGN, 0⟩, ⟨0, 0, .ro, HOST_STATUS.LINK, 0⟩]⟩,
   ⟨0x100008, 0x8000, 2, 0, 1, [⟨31, 0, .rwc, HOST_MAC.MAC, 0⟩]⟩,
   ⟨0x10000c, 0x8000, 2, 0, 1, [⟨15, 0, .rwc, HOST_MAC.MAC, 32⟩]⟩,
   ⟨0x100010, 0x8000, 2, 0, 1, [⟨31, 0, .rwc, HOST_IP.IP, 0⟩]⟩,
   ⟨0x100014, 0x8000, 2, 0, 1, [⟨31, 0, .rwc, HOST_MCAST.GROUP, 0⟩]⟩,
   ⟨0x100018, 0x8000, 2, 0, 1, [⟨15, 0, .rwc, HOST_UDP.PORT, 0⟩]⟩,
   ⟨0x10001c, 0x8000, 2, 0, 1, [⟨31, 24, .rwc, HOST_NAK_CFG.ACK_INTERVAL, 0⟩, ⟨19, 16, .rwc, HOST_NAK_CFG.NAK_TRIES, 0⟩, ⟨15, 8, .rwc, HOST_NAK_CFG.NAK_RETRY, 0⟩, ⟨7, 0, .rwc, HOST_NAK_CFG.NAK_DELAY, 0⟩]⟩,
   ⟨0x100020, 0x8000, 2, 0, 1, [⟨31, 16, .rwc, HOST_PTP_CFG.ASYM, 0⟩, ⟨15, 8, .rwc, HOST_PTP_CFG.DOMAIN, 0⟩, ⟨3, 3, .rwc, HOST_PTP_CFG.SLAVE_ONLY, 0⟩, ⟨2, 2, .rwc, HOST_PTP_CFG.P2P, 0⟩, ⟨1, 1, .rwc, HOST_PTP_CFG.UDP, 0⟩, ⟨0, 0, .rwc, HOST_PTP_CFG.EN, 0⟩]⟩,
   ⟨0x100040, 0x8000, 2, 0, 1, [⟨31, 0, .rw, HOST_RX_DISCARD.COUNT, 0⟩]⟩,
   ⟨0x100044, 0x8000, 2, 0, 1, [⟨31, 0, .rw, HOST_RX_GAP.COUNT, 0⟩]⟩,
   ⟨0x100048, 0x8000, 2, 0, 1, [⟨31, 0, .rw, HOST_FEC_CORR.COUNT, 0⟩]⟩,
   ⟨0x10004c, 0x8000, 2, 0, 1, [⟨31, 0, .rw, HOST_FEC_UNCORR.COUNT, 0⟩]⟩,
   ⟨0x100050, 0x8000, 2, 0, 1, [⟨3, 0, .ro, HOST_RX_REASON.LAST, 0⟩]⟩]

/-- Every register word of HOST. -/
def rowsHOST : List RegRow := rowsHOST0

/-- The register words of TIME, part 0. -/
def rowsTIME0 : List RegRow :=
  [⟨0x200000, 0, 1, 0, 1, [⟨8, 8, .wo, .none, 0⟩, ⟨1, 0, .rw, TIME_CTL.SRC, 0⟩]⟩,
   ⟨0x200004, 0, 1, 0, 1, [⟨5, 4, .ro, TIME_STATUS.STEP_RESULT, 0⟩, ⟨1, 1, .ro, TIME_STATUS.RATE_CLAMPED, 0⟩, ⟨0, 0, .ro, TIME_STATUS.STEPPED, 0⟩]⟩,
   ⟨0x200008, 0, 1, 0, 1, [⟨31, 0, .ro, TIME_RAW.RAW, 0⟩]⟩,
   ⟨0x20000c, 0, 1, 0, 1, [⟨31, 0, .ro, TIME_RAW.RAW, 32⟩]⟩,
   ⟨0x200010, 0, 1, 0, 1, [⟨31, 0, .ro, TIME_NOW.NOW, 0⟩]⟩,
   ⟨0x200014, 0, 1, 0, 1, [⟨31, 0, .ro, TIME_NOW.NOW, 32⟩]⟩,
   ⟨0x200018, 0, 1, 0, 1, [⟨15, 0, .ro, TIME_NOW_FRAC.FRAC, 0⟩]⟩,
   ⟨0x200020, 0, 1, 0, 1, [⟨31, 0, .rw, TIME_RATE.RATE, 0⟩]⟩,
   ⟨0x200024, 0, 1, 0, 1, [⟨30, 0, .rw, TIME_RATE_MAX.MAX, 0⟩]⟩,
   ⟨0x200028, 0, 1, 0, 1, [⟨15, 0, .ro, TIME_OFFSET_FRAC.FRAC, 0⟩]⟩,
   ⟨0x20002c, 0, 1, 0, 1, [⟨31, 0, .ro, TIME_OFFSET.OFFSET, 0⟩]⟩,
   ⟨0x200030, 0, 1, 0, 1, [⟨31, 0, .ro, TIME_OFFSET.OFFSET, 32⟩]⟩,
   ⟨0x200040, 0, 1, 0, 1, [⟨31, 0, .rw, TIME_STEP_RAW.RAW_AT, 0⟩]⟩,
   ⟨0x200044, 0, 1, 0, 1, [⟨31, 0, .rw, TIME_STEP_RAW.RAW_AT, 32⟩]⟩,
   ⟨0x200048, 0, 1, 0, 1, [⟨31, 0, .rw, TIME_STEP_VAL.VALUE, 0⟩]⟩,
   ⟨0x20004c, 0, 1, 0, 1, [⟨31, 0, .rw, TIME_STEP_VAL.VALUE, 32⟩]⟩,
   ⟨0x200050, 0, 1, 0, 1, [⟨31, 31, .wo, .none, 0⟩, ⟨16, 16, .rw, TIME_STEP_CFG.RELATIVE, 0⟩, ⟨15, 0, .rw, TIME_STEP_CFG.FRAC, 0⟩]⟩,
   ⟨0x200100, 0x10, 4, 0, 1, [⟨31, 0, .rw, TIME_CMP.TGT, 0⟩]⟩,
   ⟨0x200104, 0x10, 4, 0, 1, [⟨31, 31, .rw, TIME_CMP.EN, 0⟩, ⟨30, 30, .w1c, TIME_CMP.REACHED, 0⟩, ⟨15, 0, .rw, TIME_CMP.TGT, 32⟩]⟩,
   ⟨0x200200, 0x20, 8, 0, 1, [⟨10, 8, .ro, TIME_LNCH_CFG.STATE, 0⟩, ⟨7, 4, .rw, TIME_LNCH_CFG.PORT, 0⟩, ⟨0, 0, .rw, TIME_LNCH_CFG.EN, 0⟩]⟩,
   ⟨0x200204, 0x20, 8, 0, 1, [⟨21, 0, .rw, TIME_LNCH_ADDR.OFFSET, 0⟩]⟩,
   ⟨0x200208, 0x20, 8, 0, 1, [⟨13, 0, .rw, TIME_LNCH_LEN.LEN, 0⟩]⟩,
   ⟨0x20020c, 0x20, 8, 0, 1, [⟨31, 0, .rw, TIME_LNCH_TGT.TGT, 0⟩]⟩,
   ⟨0x200210, 0x20, 8, 0, 1, [⟨15, 0, .rw, TIME_LNCH_TGT.TGT, 32⟩]⟩]

/-- The register words of TIME, part 1. -/
def rowsTIME1 : List RegRow :=
  [⟨0x200214, 0x20, 8, 0, 1, [⟨31, 0, .ro, TIME_LNCH_SENT.SENT, 0⟩]⟩,
   ⟨0x200218, 0x20, 8, 0, 1, [⟨15, 0, .ro, TIME_LNCH_SENT.SENT, 32⟩]⟩]

/-- Every register word of TIME. -/
def rowsTIME : List RegRow := rowsTIME0 ++ rowsTIME1

/-- The register words of FAB, part 0. -/
def rowsFAB0 : List RegRow :=
  [⟨0x300000, 0x4000, 8, 0, 1, [⟨31, 31, .wo, .none, 0⟩, ⟨11, 8, .rwc, FAB_CTL.TEST, 0⟩, ⟨5, 5, .rwc, FAB_CTL.TAP_STORE, 0⟩, ⟨4, 4, .rwc, FAB_CTL.TAP_MEM, 0⟩, ⟨3, 3, .rwc, FAB_CTL.SLEEP_EN, 0⟩, ⟨2, 2, .rwc, FAB_CTL.TX_INV, 0⟩, ⟨1, 1, .rwc, FAB_CTL.RX_INV, 0⟩, ⟨0, 0, .rwc, FAB_CTL.EN, 0⟩]⟩,
   ⟨0x300004, 0x4000, 8, 0, 1, [⟨31, 24, .ro, FAB_STATUS.VERSION, 0⟩, ⟨19, 16, .ro, FAB_STATUS.LAST_DOWN, 0⟩, ⟨11, 9, .ro, FAB_STATUS.PEER_PORT, 0⟩, ⟨8, 8, .ro, FAB_STATUS.UPSTREAM, 0⟩, ⟨7, 7, .ro, FAB_STATUS.TX_SLEEP, 0⟩, ⟨6, 6, .ro, FAB_STATUS.RX_SLEEP, 0⟩, ⟨2, 0, .ro, FAB_STATUS.STATE, 0⟩]⟩,
   ⟨0x300008, 0x4000, 8, 0, 1, [⟨31, 0, .ro, FAB_PEER_UID.UID, 0⟩]⟩,
   ⟨0x30000c, 0x4000, 8, 0, 1, [⟨31, 0, .ro, FAB_PEER_UID.UID, 32⟩]⟩,
   ⟨0x300010, 0x4000, 8, 0, 1, [⟨21, 16, .ro, FAB_TAPS.MAIN, 0⟩, ⟨12, 8, .ro, FAB_TAPS.POST, 0⟩, ⟨3, 0, .ro, FAB_TAPS.PRE, 0⟩]⟩,
   ⟨0x300014, 0x4000, 8, 0, 1, [⟨31, 0, .ro, FAB_DELAY.DELAY, 0⟩]⟩,
   ⟨0x300018, 0x4000, 8, 0, 1, [⟨15, 0, .rwc, FAB_ASYM.ASYM, 0⟩]⟩,
   ⟨0x300020, 0x4000, 8, 0, 1, [⟨31, 0, .rw, FAB_CRC_ERR.COUNT, 0⟩]⟩,
   ⟨0x300024, 0x4000, 8, 0, 1, [⟨31, 0, .rw, FAB_REPLAY.COUNT, 0⟩]⟩,
   ⟨0x300028, 0x4000, 8, 0, 1, [⟨31, 0, .rw, FAB_TRAIN_FAILS.COUNT, 0⟩]⟩,
   ⟨0x30002c, 0x4000, 8, 0, 1, [⟨31, 0, .rw, FAB_DROP.COUNT, 0⟩]⟩,
   ⟨0x320000, 0, 1, 0, 1, [⟨31, 31, .ro, FAB_NODE.VALID, 0⟩, ⟨30, 30, .ro, FAB_NODE.ROOT, 0⟩, ⟨23, 16, .ro, FAB_NODE.DEPTH, 0⟩, ⟨9, 0, .ro, FAB_NODE.ID, 0⟩]⟩,
   ⟨0x320004, 0, 1, 0, 1, [⟨29, 20, .rwc, FAB_ID_CFG.ID_HI, 0⟩, ⟨19, 10, .rwc, FAB_ID_CFG.ID_LO, 0⟩, ⟨9, 0, .rwc, FAB_ID_CFG.PREFERRED, 0⟩]⟩,
   ⟨0x320008, 0, 1, 0, 1, [⟨31, 0, .ro, FAB_UID.UID, 0⟩]⟩,
   ⟨0x32000c, 0, 1, 0, 1, [⟨31, 0, .ro, FAB_UID.UID, 32⟩]⟩,
   ⟨0x320010, 0, 1, 0, 1, [⟨31, 0, .ro, FAB_ROOT_UID.UID, 0⟩]⟩,
   ⟨0x320014, 0, 1, 0, 1, [⟨31, 0, .ro, FAB_ROOT_UID.UID, 32⟩]⟩,
   ⟨0x320018, 0, 1, 0, 1, [⟨31, 16, .ro, FAB_TOPO.GEN, 0⟩, ⟨10, 0, .ro, FAB_TOPO.NODES, 0⟩]⟩,
   ⟨0x320020, 0, 1, 0, 1, [⟨31, 24, .rwc, FAB_TIME_CFG.SYNC_INTERVAL, 0⟩, ⟨23, 16, .rwc, FAB_TIME_CFG.DELAY_INTERVAL, 0⟩, ⟨0, 0, .rwc, FAB_TIME_CFG.EN, 0⟩]⟩,
   ⟨0x320024, 0, 1, 0, 1, [⟨31, 16, .ro, FAB_TIME_STATUS.ERROR, 0⟩, ⟨0, 0, .ro, FAB_TIME_STATUS.LOCKED, 0⟩]⟩,
   ⟨0x320028, 0, 1, 0, 1, [⟨7, 0, .rwc, FAB_SLEEP_CFG.DELAY, 0⟩]⟩,
   ⟨0x320030, 0, 1, 0, 1, [⟨31, 0, .rw, FAB_ROUTE_DROP_COUNT.COUNT, 0⟩]⟩,
   ⟨0x320034, 0, 1, 0, 1, [⟨31, 0, .ro, FAB_DROP_INFO.INFO, 0⟩]⟩,
   ⟨0x321000, 4, 1024, 0, 1, [⟨3, 0, .ro, FAB_ROUTE.CODE, 0⟩]⟩]

/-- Every register word of FAB. -/
def rowsFAB : List RegRow := rowsFAB0

/-- The register words of CODEC, part 0. -/
def rowsCODEC0 : List RegRow :=
  [⟨0x400000, 0, 1, 0, 1, [⟨20, 16, .ro, CODEC_STATUS.CTX_BUSY, 0⟩, ⟨0, 0, .ro, CODEC_STATUS.ENC_BUSY, 0⟩]⟩,
   ⟨0x400004, 0, 1, 0, 1, [⟨31, 0, .rw, CODEC_BAD_STRIPS.COUNT, 0⟩]⟩,
   ⟨0x400100, 0, 1, 0, 1, [⟨31, 31, .wo, .none, 0⟩, ⟨30, 30, .wo, .none, 0⟩, ⟨0, 0, .rw, CODEC_ENC_CTL.MODE, 0⟩]⟩,
   ⟨0x400104, 0, 1, 0, 1, [⟨31, 0, .rw, CODEC_ENC_SRC.SRC, 0⟩]⟩,
   ⟨0x400108, 0, 1, 0, 1, [⟨7, 0, .rw, CODEC_ENC_SRC.SRC, 32⟩]⟩,
   ⟨0x40010c, 0, 1, 0, 1, [⟨17, 0, .rw, CODEC_ENC_COLUMNS.COLUMNS, 0⟩]⟩,
   ⟨0x400110, 0, 1, 0, 1, [⟨31, 0, .rw, CODEC_ENC_LEN.LEN, 0⟩]⟩,
   ⟨0x400114, 0, 1, 0, 1, [⟨12, 0, .rw, CODEC_ENC_STRIP_ROWS.STRIP_ROWS, 0⟩]⟩,
   ⟨0x400118, 0, 1, 0, 1, [⟨31, 0, .rw, CODEC_ENC_CHAIN.ADDR, 0⟩]⟩,
   ⟨0x40011c, 0, 1, 0, 1, [⟨7, 0, .rw, CODEC_ENC_CHAIN.ADDR, 32⟩]⟩,
   ⟨0x400120, 0, 1, 0, 1, [⟨4, 0, .rw, CODEC_ENC_CHAIN_CFG.ENTRIES, 0⟩]⟩,
   ⟨0x400124, 0, 1, 0, 1, [⟨31, 0, .ro, CODEC_ENC_OUT.OUT, 0⟩]⟩,
   ⟨0x400128, 0, 1, 0, 1, [⟨10, 8, .ro, CODEC_ENC_RESULT.STATE, 0⟩, ⟨3, 0, .ro, CODEC_ENC_RESULT.ENTRY, 0⟩]⟩]

/-- Every register word of CODEC. -/
def rowsCODEC : List RegRow := rowsCODEC0

/-- The register words of FIRE, part 0. -/
def rowsFIRE0 : List RegRow :=
  [⟨0x900800, 0, 1, 0, 1, [⟨31, 31, .ro, FIRE_ING_JOB.OPEN, 0⟩, ⟨25, 24, .ro, FIRE_ING_JOB.ROW_RES, 0⟩, ⟨23, 16, .ro, FIRE_ING_JOB.JOB, 0⟩]⟩,
   ⟨0x900804, 0, 1, 0, 1, [⟨17, 0, .ro, FIRE_ING_COLUMNS.COLUMNS, 0⟩]⟩,
   ⟨0x900808, 0, 1, 0, 1, [⟨31, 0, .ro, FIRE_ING_SLOTS.SLOTS, 0⟩]⟩,
   ⟨0x90080c, 0, 1, 0, 1, [⟨31, 0, .ro, FIRE_ING_FREE.FREE, 0⟩]⟩,
   ⟨0x900810, 0, 1, 0, 1, [⟨22, 16, .ro, FIRE_ING_QUEUE.DEPTH, 0⟩, ⟨15, 0, .ro, FIRE_ING_QUEUE.HEAD, 0⟩]⟩,
   ⟨0x900814, 0, 1, 0, 1, [⟨31, 16, .ro, FIRE_ING_DEFECT.TOTAL, 0⟩, ⟨5, 0, .ro, FIRE_ING_DEFECT.NEXT, 0⟩]⟩,
   ⟨0x900818, 0, 1, 0, 1, [⟨31, 0, .rw, FIRE_ING_DISCARD.COUNT, 0⟩]⟩,
   ⟨0x90081c, 0, 1, 0, 1, [⟨31, 0, .rw, FIRE_ING_UNDERRUN_ROWS.COUNT, 0⟩]⟩,
   ⟨0x900c00, 0x10, 64, 0, 1, [⟨31, 16, .ro, FIRE_ING_REC.PAGE, 0⟩, ⟨15, 0, .ro, FIRE_ING_REC.STRIP, 0⟩]⟩,
   ⟨0x900c04, 0x10, 64, 0, 1, [⟨3, 0, .ro, FIRE_ING_REC.KIND, 0⟩]⟩,
   ⟨0x900c08, 0x10, 64, 0, 1, [⟨31, 0, .ro, FIRE_ING_REC.FIRST_ROW, 0⟩]⟩,
   ⟨0x900c0c, 0x10, 64, 0, 1, [⟨31, 0, .ro, FIRE_ING_REC.ROWS, 0⟩]⟩,
   ⟨0x900000, 0, 1, 0, 1, [⟨31, 16, .ro, FIRE_STATUS.PAGE, 0⟩, ⟨15, 12, .ro, FIRE_STATUS.STOP_REASON, 0⟩, ⟨3, 3, .ro, FIRE_STATUS.AGAINST, 0⟩, ⟨2, 2, .ro, FIRE_STATUS.OVER_WARN, 0⟩, ⟨1, 1, .ro, FIRE_STATUS.STALLED, 0⟩, ⟨0, 0, .ro, FIRE_STATUS.ARMED, 0⟩]⟩,
   ⟨0x900004, 0, 1, 0, 1, [⟨31, 16, .rwc, FIRE_CFG.STALL, 0⟩, ⟨7, 0, .rwc, FIRE_CFG.WARN, 0⟩]⟩,
   ⟨0x900008, 0, 1, 0, 1, [⟨23, 0, .rwc, FIRE_FLIGHT.FLIGHT, 0⟩]⟩,
   ⟨0x90000c, 0, 1, 0, 1, [⟨31, 16, .rwc, FIRE_ALIGN.REV, 0⟩, ⟨15, 0, .rwc, FIRE_ALIGN.FWD, 0⟩]⟩,
   ⟨0x900010, 0, 1, 0, 1, [⟨23, 0, .rwc, FIRE_TRIG_OFFSET.OFFSET, 0⟩]⟩,
   ⟨0x900020, 0, 1, 0, 1, [⟨31, 0, .ro, FIRE_EPOCH.EPOCH, 0⟩]⟩,
   ⟨0x900024, 0, 1, 0, 1, [⟨31, 0, .ro, FIRE_EPOCH.EPOCH, 32⟩]⟩,
   ⟨0x900028, 0, 1, 0, 1, [⟨23, 0, .ro, FIRE_EPOCH_FRAC.FRAC, 0⟩]⟩,
   ⟨0x90002c, 0, 1, 0, 1, [⟨31, 0, .ro, FIRE_PERIOD_NS.NS, 0⟩]⟩,
   ⟨0x900030, 0, 1, 0, 1, [⟨23, 0, .ro, FIRE_PERIOD_FRAC.FRAC, 0⟩]⟩,
   ⟨0x900038, 0, 1, 0, 1, [⟨31, 0, .ro, FIRE_NUM.K, 0⟩]⟩,
   ⟨0x90003c, 0, 1, 0, 1, [⟨31, 0, .ro, FIRE_NUM.K, 32⟩]⟩]

/-- The register words of FIRE, part 1. -/
def rowsFIRE1 : List RegRow :=
  [⟨0x900040, 0, 1, 0, 1, [⟨31, 0, .ro, FIRE_TRAVEL.W, 0⟩]⟩,
   ⟨0x900044, 0, 1, 0, 1, [⟨31, 0, .ro, FIRE_POS.P, 0⟩]⟩,
   ⟨0x900048, 0, 1, 0, 1, [⟨31, 0, .ro, FIRE_POS.P, 32⟩]⟩,
   ⟨0x900050, 0, 1, 0, 1, [⟨31, 16, .ro, FIRE_LAST_START.PAGE, 0⟩, ⟨3, 3, .ro, FIRE_LAST_START.DIR, 0⟩, ⟨2, 2, .ro, FIRE_LAST_START.REBASE, 0⟩, ⟨1, 1, .ro, FIRE_LAST_START.EARLY, 0⟩, ⟨0, 0, .ro, FIRE_LAST_START.LATE, 0⟩]⟩,
   ⟨0x900060, 0, 1, 0, 1, [⟨31, 0, .rw, FIRE_OVERSPED_ROWS.COUNT, 0⟩]⟩,
   ⟨0x900064, 0, 1, 0, 1, [⟨31, 0, .rw, FIRE_TRIG_DISCARD.COUNT, 0⟩]⟩,
   ⟨0x900068, 0, 1, 0, 1, [⟨3, 0, .ro, FIRE_TRIG_PEND.COUNT, 0⟩]⟩,
   ⟨0x900100, 0, 1, 0, 1, [⟨31, 0, .rw, FIRE_WF_MASK.MASK, 0⟩]⟩,
   ⟨0x900104, 0, 1, 0, 1, [⟨31, 0, .rw, FIRE_WF_MASK.MASK, 32⟩]⟩,
   ⟨0x900108, 0, 1, 0, 1, [⟨31, 31, .wo, .none, 0⟩]⟩,
   ⟨0x90010c, 0, 1, 0, 1, [⟨13, 8, .ro, FIRE_WF_STATUS.HEAD, 0⟩, ⟨7, 4, .ro, FIRE_WF_STATUS.REASON, 0⟩, ⟨2, 1, .ro, FIRE_WF_STATUS.RESULT, 0⟩, ⟨0, 0, .ro, FIRE_WF_STATUS.PENDING, 0⟩]⟩,
   ⟨0x900110, 0, 1, 0, 1, [⟨31, 0, .ro, FIRE_WF_SWAP_FIRE.K, 0⟩]⟩,
   ⟨0x900114, 0, 1, 0, 1, [⟨31, 0, .ro, FIRE_WF_SWAP_FIRE.K, 32⟩]⟩,
   ⟨0x900118, 0, 1, 0, 1, [⟨31, 0, .rw, FIRE_WF_SWAPS.COUNT, 0⟩]⟩]

/-- Every register word of FIRE. -/
def rowsFIRE : List RegRow := rowsFIRE0 ++ rowsFIRE1

/-- The register words of DRAM, part 0. -/
def rowsDRAM0 : List RegRow :=
  [⟨0x600000, 0x8000, 2, 0, 1, [⟨1, 1, .wo, .none, 0⟩, ⟨0, 0, .rwc, DRAM_CTL.EN, 0⟩]⟩,
   ⟨0x600004, 0x8000, 2, 0, 1, [⟨23, 16, .ro, DRAM_STATUS.TRAIN_TEMP, 0⟩, ⟨15, 12, .ro, DRAM_STATUS.FAIL_PHASE, 0⟩, ⟨11, 8, .ro, DRAM_STATUS.FAIL_CH, 0⟩, ⟨7, 6, .ro, DRAM_STATUS.RANKS, 0⟩, ⟨5, 4, .ro, DRAM_STATUS.DENSITY, 0⟩, ⟨3, 3, .ro, DRAM_STATUS.DUE, 0⟩, ⟨2, 0, .ro, DRAM_STATUS.STATE, 0⟩]⟩,
   ⟨0x600008, 0x8000, 2, 0, 1, [⟨31, 0, .rw, DRAM_ECC_CORR.COUNT, 0⟩]⟩,
   ⟨0x60000c, 0x8000, 2, 0, 1, [⟨31, 0, .rw, DRAM_ECC_UNCORR.COUNT, 0⟩]⟩,
   ⟨0x600010, 0x8000, 2, 0, 1, [⟨31, 0, .ro, DRAM_ECC_ADDR.ADDR, 0⟩]⟩,
   ⟨0x600014, 0x8000, 2, 0, 1, [⟨7, 0, .ro, DRAM_ECC_ADDR.ADDR, 32⟩]⟩,
   ⟨0x600100, 0, 1, 0, 1, [⟨15, 8, .rwc, DRAM_MEM_CFG.PASR_KEEP, 0⟩, ⟨1, 1, .ro, DRAM_MEM_CFG.ECC_INIT, 0⟩, ⟨0, 0, .rwc, DRAM_MEM_CFG.ECC_EN, 0⟩]⟩,
   ⟨0x600104, 0, 1, 0, 1, [⟨31, 0, .ro, DRAM_USABLE.MIB, 0⟩]⟩,
   ⟨0x600110, 4, 7, 0, 1, [⟨28, 0, .rwc, DRAM_MAP.MASK, 0⟩]⟩]

/-- Every register word of DRAM. -/
def rowsDRAM : List RegRow := rowsDRAM0

/-- The register words of DMA, part 0. -/
def rowsDMA0 : List RegRow :=
  [⟨0x500000, 0x100, 32, 0, 1, [⟨1, 1, .w1s, DMA_CTL.SHADOW_VALID, 0⟩, ⟨0, 0, .rw, DMA_CTL.EN, 0⟩]⟩,
   ⟨0x500004, 0x100, 32, 0, 1, [⟨15, 12, .ro, DMA_STATUS.ERR, 0⟩, ⟨9, 8, .ro, DMA_STATUS.SHADOW, 0⟩, ⟨2, 0, .ro, DMA_STATUS.STATE, 0⟩]⟩,
   ⟨0x500008, 0x100, 32, 0, 1, [⟨31, 0, .ro, DMA_DONE_BYTES.BYTES, 0⟩]⟩,
   ⟨0x50000c, 0x100, 32, 0, 1, [⟨31, 0, .rw, DMA_DESC_COUNT.COUNT, 0⟩]⟩,
   ⟨0x500020, 0x100, 32, 4, 12, [⟨31, 0, .rw, DMA_SH.WORD, 0⟩]⟩,
   ⟨0x500060, 0x100, 32, 4, 12, [⟨31, 0, .ro, DMA_ACT.WORD, 0⟩]⟩,
   ⟨0x5000a0, 0x100, 32, 4, 4, [⟨16, 16, .ro, DMA_PF_OFFSET.ENABLED, 0⟩, ⟨15, 0, .ro, DMA_PF_OFFSET.OFFSET, 0⟩]⟩,
   ⟨0x502000, 0, 1, 0, 1, []⟩]

/-- Every register word of DMA. -/
def rowsDMA : List RegRow := rowsDMA0

/-- The register words of POS, part 0. -/
def rowsPOS0 : List RegRow :=
  [⟨0x700000, 0x1000, 4, 0, 1, [⟨31, 31, .wo, .none, 0⟩, ⟨30, 30, .w1s, POS_CTL.Z_ARM, 0⟩, ⟨15, 12, .rwc, POS_CTL.FILT, 0⟩, ⟨7, 7, .rwc, POS_CTL.TERM, 0⟩, ⟨6, 6, .rwc, POS_CTL.Z_EN, 0⟩, ⟨4, 4, .rwc, POS_CTL.INV, 0⟩, ⟨2, 1, .rwc, POS_CTL.MODE, 0⟩, ⟨0, 0, .rwc, POS_CTL.EN, 0⟩]⟩,
   ⟨0x700004, 0x1000, 4, 0, 1, [⟨11, 8, .ro, POS_STATUS.FAULT_REASON, 0⟩, ⟨6, 6, .ro, POS_STATUS.DOUBT, 0⟩, ⟨5, 5, .ro, POS_STATUS.HELD, 0⟩, ⟨4, 4, .ro, POS_STATUS.STILL, 0⟩, ⟨3, 3, .ro, POS_STATUS.DIR, 0⟩, ⟨2, 2, .ro, POS_STATUS.SPD_VALID, 0⟩, ⟨1, 0, .ro, POS_STATUS.STATE, 0⟩]⟩,
   ⟨0x700008, 0x1000, 4, 0, 1, [⟨31, 0, .ro, POS_RAW.R, 0⟩]⟩,
   ⟨0x70000c, 0x1000, 4, 0, 1, [⟨31, 0, .ro, POS_RAW.R, 32⟩]⟩,
   ⟨0x700010, 0x1000, 4, 0, 1, [⟨31, 0, .ro, POS_HELD.H, 0⟩]⟩,
   ⟨0x700014, 0x1000, 4, 0, 1, [⟨31, 0, .ro, POS_HELD.H, 32⟩]⟩,
   ⟨0x700018, 0x1000, 4, 0, 1, [⟨31, 0, .ro, POS_INDEX.R_AT_Z, 0⟩]⟩,
   ⟨0x70001c, 0x1000, 4, 0, 1, [⟨31, 0, .ro, POS_INDEX.R_AT_Z, 32⟩]⟩,
   ⟨0x700020, 0x1000, 4, 0, 1, [⟨31, 0, .ro, POS_OBS_X.X, 0⟩]⟩,
   ⟨0x700024, 0x1000, 4, 0, 1, [⟨31, 0, .ro, POS_OBS_X.X, 32⟩]⟩,
   ⟨0x700028, 0x1000, 4, 0, 1, [⟨15, 0, .ro, POS_OBS_FRAC.FRAC, 0⟩]⟩,
   ⟨0x70002c, 0x1000, 4, 0, 1, [⟨31, 0, .ro, POS_OBS_V.V, 0⟩]⟩,
   ⟨0x700030, 0x1000, 4, 0, 1, [⟨31, 0, .ro, POS_OBS_A.A, 0⟩]⟩,
   ⟨0x700034, 0x1000, 4, 0, 1, [⟨31, 0, .ro, POS_OBS_T.T, 0⟩]⟩,
   ⟨0x700038, 0x1000, 4, 0, 1, [⟨31, 0, .ro, POS_OBS_T.T, 32⟩]⟩,
   ⟨0x700040, 0x1000, 4, 0, 1, [⟨31, 0, .rwc, POS_SCALE.SCALE, 0⟩]⟩,
   ⟨0x700044, 0x1000, 4, 0, 1, [⟨15, 0, .rwc, POS_BACKLASH.WINDOW, 0⟩]⟩,
   ⟨0x700048, 0x1000, 4, 0, 1, [⟨23, 0, .rwc, POS_STILL.STILL, 0⟩]⟩,
   ⟨0x70004c, 0x1000, 4, 0, 1, [⟨15, 8, .rwc, POS_ILL_CFG.WINDOW, 0⟩, ⟨7, 0, .rwc, POS_ILL_CFG.MAX, 0⟩]⟩,
   ⟨0x700050, 0x1000, 4, 0, 1, [⟨31, 0, .rw, POS_ILL_COUNT.COUNT, 0⟩]⟩,
   ⟨0x700054, 0x1000, 4, 0, 1, [⟨15, 0, .rwc, POS_OBS_ALPHA.ALPHA, 0⟩]⟩,
   ⟨0x700058, 0x1000, 4, 0, 1, [⟨15, 0, .rwc, POS_OBS_BETA.BETA, 0⟩]⟩,
   ⟨0x70005c, 0x1000, 4, 0, 1, [⟨15, 0, .rwc, POS_OBS_GAMMA.GAMMA, 0⟩]⟩,
   ⟨0x700060, 0x1000, 4, 0, 1, [⟨31, 16, .rwc, POS_SC_OFS.OFS_S, 0⟩, ⟨15, 0, .rwc, POS_SC_OFS.OFS_C, 0⟩]⟩]

/-- The register words of POS, part 1. -/
def rowsPOS1 : List RegRow :=
  [⟨0x700064, 0x1000, 4, 0, 1, [⟨31, 16, .rwc, POS_SC_GAIN.GAIN_S, 0⟩, ⟨15, 0, .rwc, POS_SC_GAIN.GAIN_C, 0⟩]⟩,
   ⟨0x700068, 0x1000, 4, 0, 1, [⟨31, 31, .ro, POS_SC_PHASE.STALE, 0⟩, ⟨15, 0, .rwc, POS_SC_PHASE.PHASE, 0⟩]⟩,
   ⟨0x70006c, 0x1000, 4, 0, 1, [⟨31, 16, .rwc, POS_SC_AMP.MAX, 0⟩, ⟨15, 0, .rwc, POS_SC_AMP.MIN, 0⟩]⟩,
   ⟨0x700070, 0x1000, 4, 0, 1, [⟨31, 16, .ro, POS_SC_AMP_CFG.AMP_NOW, 0⟩, ⟨7, 0, .rwc, POS_SC_AMP_CFG.FILT, 0⟩]⟩,
   ⟨0x700080, 0x1000, 4, 0, 1, [⟨31, 24, .rwc, POS_SSI_CFG.MONO, 0⟩, ⟨23, 16, .rwc, POS_SSI_CFG.CLK_DIV, 0⟩, ⟨9, 8, .rwc, POS_SSI_CFG.PARITY, 0⟩, ⟨6, 6, .rwc, POS_SSI_CFG.GRAY, 0⟩, ⟨5, 0, .rwc, POS_SSI_CFG.LEN, 0⟩]⟩,
   ⟨0x700084, 0x1000, 4, 0, 1, [⟨31, 16, .rwc, POS_SSI_TIMING.LATCH_DELAY, 0⟩, ⟨15, 0, .rwc, POS_SSI_TIMING.PERIOD, 0⟩]⟩,
   ⟨0x700088, 0x1000, 4, 0, 1, [⟨31, 0, .rwc, POS_SSI_JUMP.JUMP, 0⟩]⟩,
   ⟨0x70008c, 0x1000, 4, 0, 1, [⟨7, 0, .rwc, POS_SSI_ERR_CFG.ERR_MAX, 0⟩]⟩,
   ⟨0x700090, 0x1000, 4, 0, 1, [⟨31, 0, .rw, POS_SSI_ERR_COUNT.COUNT, 0⟩]⟩,
   ⟨0x704000, 0, 1, 0, 1, [⟨1, 0, .rwc, POS_PRINT.CH, 0⟩]⟩,
   ⟨0x704100, 0x40, 4, 0, 1, [⟨5, 4, .rwc, CMP_CTL.CH, 0⟩, ⟨2, 2, .rwc, CMP_CTL.DIR, 0⟩, ⟨1, 1, .rwc, CMP_CTL.MODE, 0⟩, ⟨0, 0, .rw, CMP_CTL.EN, 0⟩]⟩,
   ⟨0x704104, 0x40, 4, 0, 1, [⟨31, 20, .ro, CMP_STATUS.LAPS, 0⟩, ⟨16, 16, .ro, CMP_STATUS.RUNNING, 0⟩, ⟨9, 0, .ro, CMP_STATUS.POINTER, 0⟩]⟩,
   ⟨0x704108, 0x40, 4, 0, 1, [⟨9, 0, .rwc, CMP_LAST.LAST, 0⟩]⟩,
   ⟨0x70410c, 0x40, 4, 0, 1, [⟨15, 0, .rwc, CMP_WIDTH.WIDTH, 0⟩]⟩,
   ⟨0x704110, 0x40, 4, 0, 1, [⟨31, 0, .rwc, CMP_PITCH.PITCH, 0⟩]⟩,
   ⟨0x704114, 0x40, 4, 0, 1, [⟨15, 0, .rwc, CMP_PITCH.PITCH, 32⟩]⟩,
   ⟨0x704118, 0x40, 4, 0, 1, [⟨15, 0, .rwc, CMP_TRIG.TRIGGER_ID, 0⟩]⟩,
   ⟨0x70411c, 0x40, 4, 0, 1, [⟨31, 0, .rw, CMP_MERGED.COUNT, 0⟩]⟩,
   ⟨0x704120, 0x40, 4, 0, 1, [⟨31, 0, .ro, CMP_BASE.BASE, 0⟩]⟩,
   ⟨0x704124, 0x40, 4, 0, 1, [⟨15, 0, .ro, CMP_BASE.BASE, 32⟩]⟩,
   ⟨0x708000, 0x2000, 4, 8, 1024, [⟨31, 0, .rw, CMP_ENTRY.P, 0⟩]⟩,
   ⟨0x708004, 0x2000, 4, 8, 1024, [⟨31, 24, .rw, CMP_ENTRY.LAMP, 0⟩, ⟨23, 20, .rw, CMP_ENTRY.CAM, 0⟩, ⟨18, 18, .rw, CMP_ENTRY.PAGE, 0⟩, ⟨17, 17, .rw, CMP_ENTRY.EVT, 0⟩, ⟨16, 16, .rw, CMP_ENTRY.PIN, 0⟩, ⟨15, 0, .rw, CMP_ENTRY.P, 32⟩]⟩]

/-- Every register word of POS. -/
def rowsPOS : List RegRow := rowsPOS0 ++ rowsPOS1

/-- The register words of NMAP, part 0. -/
def rowsNMAP0 : List RegRow :=
  [⟨0x800000, 0, 1, 0, 1, [⟨26, 16, .ro, NMAP_STATUS.QUEUE, 0⟩, ⟨15, 12, .ro, NMAP_STATUS.LAST_FAIL, 0⟩, ⟨5, 5, .w1c, NMAP_STATUS.HOLD_EXPIRED, 0⟩, ⟨4, 4, .ro, NMAP_STATUS.TABLE, 0⟩, ⟨3, 3, .ro, NMAP_STATUS.CHECKING, 0⟩, ⟨2, 1, .ro, NMAP_STATUS.SPARE, 0⟩, ⟨0, 0, .ro, NMAP_STATUS.LIVE, 0⟩]⟩,
   ⟨0x800004, 0, 1, 0, 1, [⟨16, 0, .ro, NMAP_FAIL_INDEX.INDEX, 0⟩]⟩,
   ⟨0x800008, 0, 1, 0, 1, [⟨15, 0, .rwc, NMAP_HOLD.HOLD, 0⟩]⟩,
   ⟨0x80000c, 0, 1, 0, 1, [⟨31, 0, .rw, NMAP_QUEUE_FULL.COUNT, 0⟩]⟩,
   ⟨0x800010, 0, 1, 0, 1, [⟨31, 0, .ro, NMAP_TRIM_PEND.PEND, 0⟩]⟩,
   ⟨0x800014, 0, 1, 0, 1, [⟨31, 0, .ro, NMAP_TRIM_PEND.PEND, 32⟩]⟩,
   ⟨0x800018, 0, 1, 0, 1, [⟨31, 0, .ro, NMAP_SWAP_ROW.ROW, 0⟩]⟩,
   ⟨0x80001c, 0, 1, 0, 1, [⟨31, 0, .ro, NMAP_SWAP_ROW.ROW, 32⟩]⟩,
   ⟨0x800020, 0, 1, 0, 1, [⟨31, 0, .rw, NMAP_SWAPS.COUNT, 0⟩]⟩,
   ⟨0x800024, 0, 1, 0, 1, [⟨17, 0, .ro, NMAP_MASKED.COUNT, 0⟩]⟩,
   ⟨0x800028, 0, 1, 0, 1, [⟨17, 0, .ro, NMAP_DEAD.COUNT, 0⟩]⟩,
   ⟨0x80002c, 0, 1, 0, 1, [⟨31, 0, .ro, NMAP_TABLE_ID.ID, 0⟩]⟩]

/-- Every register word of NMAP. -/
def rowsNMAP : List RegRow := rowsNMAP0

/-- The register words of HL, part 0. -/
def rowsHL0 : List RegRow :=
  [⟨0xa00200, 0x400, 64, 4, 64, [⟨31, 0, .rwc, HL_WF.WORD, 0⟩]⟩,
   ⟨0xa00300, 0x400, 64, 0, 1, [⟨27, 16, .rwc, HL_WF_LIMIT.WHEY_MAX, 0⟩, ⟨11, 0, .rwc, HL_WF_LIMIT.ON_MAX, 0⟩]⟩,
   ⟨0xa00304, 0x400, 64, 0, 1, [⟨29, 28, .rwc, HL_WF_CFG.WHEY_MODE, 0⟩, ⟨27, 16, .rwc, HL_WF_CFG.GUARD, 0⟩, ⟨7, 0, .rwc, HL_WF_CFG.DUTY_MAX, 0⟩]⟩,
   ⟨0xa00308, 0x400, 64, 0, 1, [⟨31, 31, .ro, HL_FIRE_DELAY.STALE, 0⟩, ⟨7, 0, .rwc, HL_FIRE_DELAY.TAP, 0⟩]⟩,
   ⟨0xa0030c, 0x400, 64, 0, 1, [⟨31, 16, .ro, HL_WF_STATE.FLOOR, 0⟩, ⟨3, 3, .ro, HL_WF_STATE.TSEL, 0⟩, ⟨2, 2, .ro, HL_WF_STATE.TRIM_OK, 0⟩, ⟨1, 1, .ro, HL_WF_STATE.VALID, 0⟩, ⟨0, 0, .ro, HL_WF_STATE.LIVE, 0⟩]⟩,
   ⟨0xa00000, 0x400, 64, 0, 1, [⟨31, 31, .wo, .none, 0⟩, ⟨2, 2, .rwc, HL_CTL.RX_INV, 0⟩, ⟨1, 1, .rwc, HL_CTL.TX_INV, 0⟩, ⟨0, 0, .rwc, HL_CTL.EN, 0⟩]⟩,
   ⟨0xa00004, 0x400, 64, 0, 1, [⟨31, 24, .ro, HL_STATUS.VERSION, 0⟩, ⟨23, 20, .ro, HL_STATUS.LAST_DOWN, 0⟩, ⟨19, 19, .ro, HL_STATUS.ID_OK, 0⟩, ⟨18, 17, .ro, HL_STATUS.CLAIM_SEEN, 0⟩, ⟨16, 16, .ro, HL_STATUS.PRESENT, 0⟩, ⟨2, 0, .ro, HL_STATUS.STATE, 0⟩]⟩,
   ⟨0xa00008, 0x400, 64, 0, 1, [⟨15, 0, .ro, HL_FEATURES.AGREED, 0⟩]⟩,
   ⟨0xa0000c, 0x400, 64, 0, 1, [⟨31, 31, .ro, HL_RX_PHASE.STALE, 0⟩, ⟨21, 16, .ro, HL_RX_PHASE.EYE, 0⟩, ⟨5, 0, .rwc, HL_RX_PHASE.TAP, 0⟩]⟩,
   ⟨0xa00010, 0x400, 64, 0, 1, [⟨15, 0, .ro, HL_DELAY.DELAY, 0⟩]⟩,
   ⟨0xa00014, 0x400, 64, 0, 1, [⟨31, 16, .ro, HL_TEMP01.T1, 0⟩, ⟨15, 0, .ro, HL_TEMP01.T0, 0⟩]⟩,
   ⟨0xa00018, 0x400, 64, 0, 1, [⟨31, 16, .ro, HL_TEMP23.T3, 0⟩, ⟨15, 0, .ro, HL_TEMP23.T2, 0⟩]⟩,
   ⟨0xa0001c, 0x400, 64, 0, 1, [⟨15, 8, .rwc, HL_TEMP_CFG.CRIT, 0⟩, ⟨7, 0, .rwc, HL_TEMP_CFG.WARN, 0⟩]⟩,
   ⟨0xa00020, 0x400, 64, 0, 1, [⟨31, 0, .rw, HL_SYNC_ERR.COUNT, 0⟩]⟩,
   ⟨0xa00024, 0x400, 64, 0, 1, [⟨31, 0, .rw, HL_HCRC_FAIL.COUNT, 0⟩]⟩,
   ⟨0xa00028, 0x400, 64, 0, 1, [⟨31, 0, .rw, HL_MISSED.COUNT, 0⟩]⟩,
   ⟨0xa0002c, 0x400, 64, 0, 1, [⟨31, 0, .rw, HL_TLM_ERR.COUNT, 0⟩]⟩,
   ⟨0xa00030, 0x400, 64, 0, 1, [⟨15, 8, .rwc, HL_ERR_CFG.WINDOW, 0⟩, ⟨7, 0, .rwc, HL_ERR_CFG.MAX, 0⟩]⟩,
   ⟨0xa00040, 0x400, 64, 0, 1, [⟨31, 0, .ro, HL_ID_SERIAL.SERIAL, 0⟩]⟩,
   ⟨0xa00044, 0x400, 64, 0, 1, [⟨31, 0, .ro, HL_ID_SERIAL.SERIAL, 32⟩]⟩,
   ⟨0xa00048, 0x400, 64, 0, 1, [⟨31, 0, .rwc, HL_ID_EXPECT.EXPECT, 0⟩]⟩,
   ⟨0xa0004c, 0x400, 64, 0, 1, [⟨31, 0, .rwc, HL_ID_EXPECT.EXPECT, 32⟩]⟩,
   ⟨0xa00050, 0x400, 64, 0, 1, [⟨31, 31, .wo, .none, 0⟩, ⟨3, 0, .ro, HL_ID_CHECK.MISMATCH, 0⟩]⟩,
   ⟨0xa00054, 0x400, 64, 0, 1, [⟨1, 0, .rw, HL_ID_PAGE.PAGE, 0⟩]⟩]

/-- The register words of HL, part 1. -/
def rowsHL1 : List RegRow :=
  [⟨0xa00100, 0x400, 64, 4, 64, [⟨31, 0, .ro, HL_ID_WIN.WORD, 0⟩]⟩,
   ⟨0xa10000, 0, 1, 0, 1, [⟨31, 31, .wo, .none, 0⟩, ⟨30, 30, .wo, .none, 0⟩]⟩,
   ⟨0xa10004, 0, 1, 0, 1, [⟨10, 8, .ro, HL_MEAS_STATUS.RESULT, 0⟩]⟩,
   ⟨0xa10008, 0, 1, 0, 1, [⟨31, 0, .rw, HL_MEAS_MASK.MASK, 0⟩]⟩,
   ⟨0xa1000c, 0, 1, 0, 1, [⟨31, 0, .rw, HL_MEAS_MASK.MASK, 32⟩]⟩,
   ⟨0xa10010, 0, 1, 0, 1, [⟨31, 0, .rw, HL_MEAS_ADDR.ADDR, 0⟩]⟩,
   ⟨0xa10014, 0, 1, 0, 1, [⟨7, 0, .rw, HL_MEAS_ADDR.ADDR, 32⟩]⟩,
   ⟨0xa10018, 0, 1, 0, 1, [⟨7, 0, .rw, HL_MEAS_CFG.WAIT, 0⟩]⟩]

/-- Every register word of HL. -/
def rowsHL : List RegRow := rowsHL0 ++ rowsHL1

/-- The register words of CAL, part 0. -/
def rowsCAL0 : List RegRow :=
  [⟨0xb00000, 0, 1, 0, 1, [⟨8, 8, .rwc, CAL_CTL.VIEW, 0⟩, ⟨7, 7, .rwc, CAL_CTL.USE_MEAS, 0⟩, ⟨6, 6, .rwc, CAL_CTL.STORE, 0⟩, ⟨5, 5, .rwc, CAL_CTL.RESTORE, 0⟩, ⟨3, 0, .rwc, CAL_CTL.AUTO_EN, 0⟩]⟩,
   ⟨0xb00004, 0, 1, 0, 1, [⟨23, 16, .ro, CAL_STATUS.LEFT, 0⟩, ⟨1, 1, .ro, CAL_STATUS.AUTO, 0⟩, ⟨0, 0, .ro, CAL_STATUS.RUNNING, 0⟩]⟩,
   ⟨0xb00008, 0, 1, 0, 1, [⟨31, 0, .ro, CAL_FIRST.FIRST, 0⟩]⟩,
   ⟨0xb0000c, 0, 1, 0, 1, [⟨31, 0, .ro, CAL_FIRST.FIRST, 32⟩]⟩,
   ⟨0xb00010, 0, 1, 0, 1, [⟨31, 0, .ro, CAL_DUE.DUE, 0⟩]⟩,
   ⟨0xb00014, 0, 1, 0, 1, [⟨31, 0, .ro, CAL_DUE.DUE, 32⟩]⟩,
   ⟨0xb00018, 0, 1, 0, 1, [⟨3, 0, .ro, CAL_DUE_POS.DUE, 0⟩]⟩,
   ⟨0xb00020, 0, 1, 0, 1, [⟨23, 16, .rwc, CAL_THRESH.ENC, 0⟩, ⟨15, 8, .rwc, CAL_THRESH.DIE, 0⟩, ⟨7, 0, .rwc, CAL_THRESH.HEAD, 0⟩]⟩,
   ⟨0xb00024, 0, 1, 0, 1, [⟨31, 24, .rwc, CAL_LIMIT_HEAD.MIN_EYE, 0⟩, ⟨23, 16, .rwc, CAL_LIMIT_HEAD.PHASE_STEP, 0⟩, ⟨15, 8, .rwc, CAL_LIMIT_HEAD.TRIM_STEP, 0⟩, ⟨7, 0, .rwc, CAL_LIMIT_HEAD.TAP_STEP, 0⟩]⟩,
   ⟨0xb00028, 0, 1, 0, 1, [⟨31, 16, .rwc, CAL_LIMIT_SC.RES_MAX, 0⟩, ⟨15, 8, .rwc, CAL_LIMIT_SC.MIN_PERIODS, 0⟩, ⟨7, 0, .rwc, CAL_LIMIT_SC.WINDOW, 0⟩]⟩,
   ⟨0xb00030, 0, 1, 0, 1, [⟨31, 0, .rw, CAL_RUNS.COUNT, 0⟩]⟩,
   ⟨0xb00034, 0, 1, 0, 1, [⟨31, 0, .rw, CAL_REJECTS.COUNT, 0⟩]⟩,
   ⟨0xb01000, 0x10, 64, 0, 1, [⟨31, 16, .rwc, CAL_HEAD_TAP.T_BASE, 0⟩, ⟨7, 0, .rwc, CAL_HEAD_TAP.BASE, 0⟩]⟩,
   ⟨0xb01004, 0x10, 64, 0, 1, [⟨31, 16, .rwc, CAL_HEAD_MODEL.RNOM, 0⟩, ⟨15, 0, .rwc, CAL_HEAD_MODEL.TC, 0⟩]⟩,
   ⟨0xb01008, 0x10, 64, 0, 1, [⟨31, 30, .ro, CAL_HEAD_RES.FIRE_R, 0⟩, ⟨29, 28, .ro, CAL_HEAD_RES.PHASE_R, 0⟩, ⟨27, 26, .ro, CAL_HEAD_RES.TRIM_R, 0⟩, ⟨25, 22, .ro, CAL_HEAD_RES.REASON, 0⟩, ⟨21, 16, .ro, CAL_HEAD_RES.PHASE, 0⟩, ⟨15, 8, .ro, CAL_HEAD_RES.TRIM, 0⟩, ⟨7, 0, .ro, CAL_HEAD_RES.FIRE, 0⟩]⟩,
   ⟨0xb0100c, 0x10, 64, 0, 1, [⟨31, 16, .ro, CAL_HEAD_TREF.DIE, 0⟩, ⟨15, 0, .ro, CAL_HEAD_TREF.HEAD, 0⟩]⟩,
   ⟨0xb02000, 0x10, 4, 0, 1, [⟨31, 16, .ro, CAL_POS_CFG.TREF, 0⟩, ⟨3, 0, .rwc, CAL_POS_CFG.SRC, 0⟩]⟩,
   ⟨0xb02004, 0x10, 4, 0, 1, [⟨31, 29, .ro, CAL_POS_RES.SC_R, 0⟩, ⟨28, 25, .ro, CAL_POS_RES.REASON, 0⟩, ⟨15, 0, .ro, CAL_POS_RES.VALUE, 0⟩]⟩,
   ⟨0xb02008, 0x10, 4, 0, 1, [⟨31, 16, .ro, CAL_POS_OFS.OFS_S, 0⟩, ⟨15, 0, .ro, CAL_POS_OFS.OFS_C, 0⟩]⟩,
   ⟨0xb0200c, 0x10, 4, 0, 1, [⟨31, 16, .ro, CAL_POS_GAIN.GAIN_S, 0⟩, ⟨15, 0, .ro, CAL_POS_GAIN.GAIN_C, 0⟩]⟩]

/-- Every register word of CAL. -/
def rowsCAL : List RegRow := rowsCAL0

/-- The register words of CAM, part 0. -/
def rowsCAM0 : List RegRow :=
  [⟨0xc00000, 0x4000, 4, 0, 1, [⟨21, 16, .rwc, CAM_CTL.DT, 0⟩, ⟨15, 12, .rwc, CAM_CTL.VC, 0⟩, ⟨11, 8, .rwc, CAM_CTL.LANE_INV, 0⟩, ⟨2, 1, .rwc, CAM_CTL.LANES, 0⟩, ⟨0, 0, .rwc, CAM_CTL.EN, 0⟩]⟩,
   ⟨0xc00004, 0x4000, 4, 0, 1, [⟨29, 16, .ro, CAM_STATUS.LEVEL, 0⟩, ⟨4, 4, .ro, CAM_STATUS.ULPS, 0⟩, ⟨3, 3, .ro, CAM_STATUS.SETS2, 0⟩, ⟨2, 0, .ro, CAM_STATUS.STATE, 0⟩]⟩,
   ⟨0xc00008, 0x4000, 4, 0, 1, [⟨31, 16, .rwc, CAM_CFG.TRIG_WIN, 0⟩, ⟨15, 8, .rwc, CAM_CFG.FRAME_TO, 0⟩]⟩,
   ⟨0xc00010, 0x4000, 4, 0, 1, [⟨31, 0, .rw, CAM_FRAMES.COUNT, 0⟩]⟩,
   ⟨0xc00014, 0x4000, 4, 0, 1, [⟨31, 0, .rw, CAM_DROPS.COUNT, 0⟩]⟩,
   ⟨0xc00018, 0x4000, 4, 0, 1, [⟨31, 0, .rw, CAM_ECC_ERR.COUNT, 0⟩]⟩,
   ⟨0xc0001c, 0x4000, 4, 0, 1, [⟨31, 0, .rw, CAM_CRC_ERR.COUNT, 0⟩]⟩,
   ⟨0xc00020, 0x4000, 4, 0, 1, [⟨31, 0, .rw, CAM_LINE_ERR.COUNT, 0⟩]⟩,
   ⟨0xc00024, 0x4000, 4, 0, 1, [⟨31, 0, .rw, CAM_DISCARD.COUNT, 0⟩]⟩,
   ⟨0xc00028, 0x4000, 4, 0, 1, [⟨31, 0, .rw, CAM_TRIG_DISCARD.COUNT, 0⟩]⟩,
   ⟨0xc0002c, 0x4000, 4, 0, 1, [⟨13, 0, .rw, CAM_FIFO_PEAK.PEAK, 0⟩]⟩,
   ⟨0xc00030, 0x4000, 4, 0, 1, [⟨31, 31, .w1s, ISP_COMMIT.COMMIT, 0⟩, ⟨11, 8, .ro, ISP_COMMIT.REASON, 0⟩]⟩,
   ⟨0xc00034, 0x4000, 4, 0, 1, [⟨31, 0, .ro, ISP_COMMITS.COUNT, 0⟩]⟩,
   ⟨0xc00100, 0x4000, 4, 0, 1, [⟨31, 16, .rw, ISP_GEOM.HEIGHT, 0⟩, ⟨15, 0, .rw, ISP_GEOM.WIDTH, 0⟩]⟩,
   ⟨0xc00104, 0x4000, 4, 0, 1, [⟨17, 16, .rw, ISP_FRAME.EXPOSURES, 0⟩, ⟨15, 0, .rw, ISP_FRAME.FILL, 0⟩]⟩,
   ⟨0xc00108, 0x4000, 4, 0, 1, [⟨23, 16, .rw, ISP_MERGE.STAGGER, 0⟩, ⟨15, 0, .rw, ISP_MERGE.SAT, 0⟩]⟩,
   ⟨0xc0010c, 0x4000, 4, 0, 1, [⟨31, 16, .rw, ISP_RATIO.RATIO2, 0⟩, ⟨15, 0, .rw, ISP_RATIO.RATIO1, 0⟩]⟩,
   ⟨0xc00110, 0x4000, 4, 0, 1, [⟨11, 10, .rw, ISP_PATTERN.PHASE_Y, 0⟩, ⟨9, 8, .rw, ISP_PATTERN.PHASE_X, 0⟩, ⟨7, 6, .rw, ISP_PATTERN.UH, 0⟩, ⟨5, 4, .rw, ISP_PATTERN.UW, 0⟩, ⟨1, 0, .rw, ISP_PATTERN.PATTERN, 0⟩]⟩,
   ⟨0xc00114, 0x4000, 4, 0, 1, [⟨31, 0, .rw, ISP_USER.CELLS, 0⟩]⟩,
   ⟨0xc00118, 0x4000, 4, 0, 1, [⟨31, 0, .rw, ISP_USER.CELLS, 32⟩]⟩,
   ⟨0xc0011c, 0x4000, 4, 0, 1, [⟨10, 0, .rw, ISP_DEFECTS.COUNT, 0⟩]⟩,
   ⟨0xc00120, 0x4000, 4, 0, 1, [⟨20, 16, .rw, ISP_OUT.MV_PLANES, 0⟩, ⟨13, 12, .rw, ISP_OUT.DS, 0⟩, ⟨9, 9, .rw, ISP_OUT.CODE_EN, 0⟩, ⟨8, 8, .rw, ISP_OUT.DISP_EN, 0⟩, ⟨3, 0, .rw, ISP_OUT.SLOTS, 0⟩]⟩,
   ⟨0xc00124, 0x4000, 4, 0, 1, [⟨15, 0, .rw, ISP_DISP_GAIN.GAIN, 0⟩]⟩,
   ⟨0xc00140, 0x4000, 4, 4, 25, [⟨15, 0, .rw, ISP_CM.COEF, 0⟩]⟩]

/-- The register words of CAM, part 1. -/
def rowsCAM1 : List RegRow :=
  [⟨0xc001b0, 0x4000, 4, 4, 5, [⟨15, 0, .rw, ISP_CM_OFS.OFS, 0⟩]⟩,
   ⟨0xc00200, 0x4000, 4, 0x10, 4, [⟨31, 0, .rw, ISP_RING.BASE, 0⟩]⟩,
   ⟨0xc00204, 0x4000, 4, 0x10, 4, [⟨7, 0, .rw, ISP_RING.BASE, 32⟩]⟩,
   ⟨0xc00208, 0x4000, 4, 0x10, 4, [⟨31, 0, .rw, ISP_RING_SLOT.SLOT_BYTES, 0⟩]⟩,
   ⟨0xc01000, 0x4000, 4, 4, 2048, [⟨31, 16, .rw, (ISP_LUT.ENTRY.pair 1), 0⟩, ⟨15, 0, .rw, (ISP_LUT.ENTRY.pair 0), 0⟩]⟩,
   ⟨0xc03000, 0x4000, 4, 4, 1024, [⟨31, 16, .rw, ISP_DEFECT.Y, 0⟩, ⟨15, 0, .rw, ISP_DEFECT.X, 0⟩]⟩]

/-- Every register word of CAM. -/
def rowsCAM : List RegRow := rowsCAM0 ++ rowsCAM1

/-- The register words of NHA, part 0. -/
def rowsNHA0 : List RegRow :=
  [⟨0xd00000, 0, 1, 0, 1, [⟨31, 24, .rwc, NHA_CTL.CONF_MIN, 0⟩, ⟨19, 16, .rwc, NHA_CTL.CONFIRM, 0⟩, ⟨15, 12, .rwc, NHA_CTL.BASE_PAGES, 0⟩, ⟨3, 3, .rwc, NHA_CTL.MASK_DEV, 0⟩, ⟨2, 2, .rwc, NHA_CTL.MASK_WEAK, 0⟩, ⟨1, 1, .rwc, NHA_CTL.NOMASK, 0⟩, ⟨0, 0, .rwc, NHA_CTL.EN, 0⟩]⟩,
   ⟨0xd00004, 0, 1, 0, 1, [⟨31, 28, .ro, NHA_STATUS.BASE_SEEN, 0⟩, ⟨1, 1, .ro, NHA_STATUS.LAG, 0⟩, ⟨0, 0, .ro, NHA_STATUS.BASELINE, 0⟩]⟩,
   ⟨0xd00008, 0, 1, 0, 1, [⟨31, 24, .rwc, NHA_TH.MISS_TH, 0⟩, ⟨23, 16, .rwc, NHA_TH.WEAK_TH, 0⟩, ⟨15, 8, .rwc, NHA_TH.DEV_TH, 0⟩]⟩,
   ⟨0xd0000c, 0, 1, 0, 1, [⟨31, 16, .rwc, NHA_MIN.MIN_DROPS, 0⟩, ⟨15, 0, .rwc, NHA_MIN.MIN_ISO, 0⟩]⟩,
   ⟨0xd00010, 0, 1, 0, 1, [⟨7, 0, .ro, NHA_VOL.VOL, 0⟩, ⟨15, 8, .rwc, (NHA_VOL.VOL.sub 1 0), 0⟩, ⟨23, 16, .rwc, (NHA_VOL.VOL.sub 2 0), 0⟩, ⟨31, 24, .rwc, (NHA_VOL.VOL.sub 3 0), 0⟩]⟩,
   ⟨0xd00014, 0, 1, 0, 1, [⟨7, 0, .rwc, (NHA_VOL.VOL.sub 4 0), 0⟩, ⟨15, 8, .rwc, (NHA_VOL.VOL.sub 5 0), 0⟩, ⟨23, 16, .rwc, (NHA_VOL.VOL.sub 6 0), 0⟩, ⟨31, 24, .rwc, (NHA_VOL.VOL.sub 7 0), 0⟩]⟩,
   ⟨0xd00018, 0, 1, 0, 1, [⟨31, 0, .rwc, NHA_HEAD_MASK.MASK, 0⟩]⟩,
   ⟨0xd0001c, 0, 1, 0, 1, [⟨31, 0, .rwc, NHA_HEAD_MASK.MASK, 32⟩]⟩,
   ⟨0xd00020, 0, 1, 0, 1, [⟨31, 0, .ro, NHA_D_CAM.ROWS, 0⟩]⟩,
   ⟨0xd00024, 0, 1, 0, 1, [⟨31, 0, .rw, NHA_WINDOWS.COUNT, 0⟩]⟩,
   ⟨0xd00028, 0, 1, 0, 1, [⟨31, 0, .rw, NHA_EXCL.COUNT, 0⟩]⟩,
   ⟨0xd0002c, 0, 1, 0, 1, [⟨3, 0, .ro, NHA_EXCL_REASON.LAST, 0⟩]⟩,
   ⟨0xd00030, 0, 1, 0, 1, [⟨31, 0, .rw, NHA_LATE.COUNT, 0⟩]⟩,
   ⟨0xd00034, 0, 1, 0, 1, [⟨31, 0, .rw, NHA_MASKS.COUNT, 0⟩]⟩,
   ⟨0xd00038, 0, 1, 0, 1, [⟨17, 0, .ro, NHA_SUSPECTS.COUNT, 0⟩]⟩,
   ⟨0xd0003c, 0, 1, 0, 1, [⟨31, 0, .rw, NHA_SKIPPED.COUNT, 0⟩]⟩,
   ⟨0xd00040, 0, 1, 0, 1, [⟨15, 0, .rwc, NHA_RWAIT.WAIT, 0⟩]⟩,
   ⟨0xd00100, 0x80, 4, 0, 1, [⟨31, 16, .rwc, NHA_CAM_CFG.LPITCH, 0⟩, ⟨2, 2, .rwc, NHA_CAM_CFG.DIR, 0⟩, ⟨0, 0, .rwc, NHA_CAM_CFG.EN, 0⟩]⟩,
   ⟨0xd00104, 0x80, 4, 0, 1, [⟨31, 0, .rwc, NHA_CAM_DIST.CAM_DIST, 0⟩]⟩,
   ⟨0xd00108, 0x80, 4, 0, 1, [⟨23, 0, .rwc, NHA_CAM_EXP.EXP_DELAY, 0⟩]⟩,
   ⟨0xd0010c, 0x80, 4, 0, 1, [⟨5, 4, .rwc, NHA_CAM_BARS.SELF, 0⟩, ⟨1, 0, .rwc, NHA_CAM_BARS.NBARS, 0⟩]⟩,
   ⟨0xd00110, 0x80, 4, 0, 1, [⟨31, 16, .rwc, (NHA_CAM_WHITE.W.sub 0 1), 0⟩, ⟨15, 0, .rwc, NHA_CAM_WHITE.W, 0⟩]⟩,
   ⟨0xd00114, 0x80, 4, 0, 1, [⟨31, 16, .rwc, (NHA_CAM_WHITE.W.sub 0 3), 0⟩, ⟨15, 0, .rwc, (NHA_CAM_WHITE.W.sub 0 2), 0⟩]⟩,
   ⟨0xd00118, 0x80, 4, 0, 1, [⟨15, 0, .rwc, (NHA_CAM_WHITE.W.sub 0 4), 0⟩]⟩]

/-- The register words of NHA, part 1. -/
def rowsNHA1 : List RegRow :=
  [⟨0xd0011c, 0x80, 4, 0, 1, [⟨25, 16, .rwc, (NHA_CAM_NODE.NODE.sub 0 1), 0⟩, ⟨9, 0, .rwc, NHA_CAM_NODE.NODE, 0⟩]⟩,
   ⟨0xd00120, 0x80, 4, 0, 1, [⟨25, 16, .rwc, (NHA_CAM_NODE.NODE.sub 0 3), 0⟩, ⟨9, 0, .rwc, (NHA_CAM_NODE.NODE.sub 0 2), 0⟩]⟩,
   ⟨0xd00130, 0x80, 4, 4, 20, [⟨15, 0, .rwc, NHA_CAM_UNMIX.COEF, 0⟩]⟩,
   ⟨0xd00500, 0x20, 4, 0, 1, [⟨31, 16, .rwc, NHA_RSRC_CFG.LPITCH, 0⟩, ⟨15, 15, .rwc, NHA_RSRC_CFG.EN, 0⟩, ⟨14, 14, .rwc, NHA_RSRC_CFG.DIR, 0⟩, ⟨13, 12, .rwc, NHA_RSRC_CFG.PORT, 0⟩, ⟨9, 0, .rwc, NHA_RSRC_CFG.NODE, 0⟩]⟩,
   ⟨0xd00504, 0x20, 4, 0, 1, [⟨31, 0, .rwc, NHA_RSRC_DIST.CAM_DIST, 0⟩]⟩,
   ⟨0xd00508, 0x20, 4, 0, 1, [⟨15, 0, .rwc, NHA_RSRC_SPAN.SPAN, 0⟩]⟩,
   ⟨0xd0050c, 0x20, 4, 0, 1, [⟨31, 0, .rw, NHA_RSRC_BLOCKS.COUNT, 0⟩]⟩,
   ⟨0xd10000, 0x8000, 4, 4, 8192, [⟨31, 31, .rw, NHA_GEOM.VALID, 0⟩, ⟨30, 18, .rw, NHA_GEOM.SKEW, 0⟩, ⟨16, 0, .rw, NHA_GEOM.COL, 0⟩]⟩,
   ⟨0xd30000, 0x8000, 4, 4, 8192, [⟨31, 31, .rw, NHA_RGEOM.VALID, 0⟩, ⟨30, 18, .rw, NHA_RGEOM.SKEW, 0⟩, ⟨16, 0, .rw, NHA_RGEOM.COL, 0⟩]⟩,
   ⟨0xd80000, 4, 131072, 0, 1, [⟨31, 24, .ro, NHA_NOZ.CONF, 0⟩, ⟨23, 20, .ro, NHA_NOZ.STREAK, 0⟩, ⟨19, 19, .ro, NHA_NOZ.BASE_OWN, 0⟩, ⟨18, 16, .ro, NHA_NOZ.CLASS, 0⟩, ⟨15, 0, .ro, NHA_NOZ.RATIO, 0⟩]⟩]

/-- Every register word of NHA. -/
def rowsNHA : List RegRow := rowsNHA0 ++ rowsNHA1

/-- The register words of PAIR, part 0. -/
def rowsPAIR0 : List RegRow :=
  [⟨0xe00000, 0, 1, 0, 1, [⟨31, 31, .wo, .none, 0⟩, ⟨30, 30, .wo, .none, 0⟩, ⟨7, 7, .rwc, PAIR_CTL.TABLE_SYNC, 0⟩, ⟨6, 6, .rwc, PAIR_CTL.FWD, 0⟩, ⟨5, 5, .rwc, PAIR_CTL.AUTO, 0⟩, ⟨1, 1, .rwc, PAIR_CTL.MEMBER, 0⟩, ⟨0, 0, .rwc, PAIR_CTL.EN, 0⟩]⟩,
   ⟨0xe00004, 0, 1, 0, 1, [⟨23, 16, .ro, PAIR_STATUS.OOS, 0⟩, ⟨8, 8, .ro, PAIR_STATUS.WATCH, 0⟩, ⟨7, 7, .ro, PAIR_STATUS.PEER_IN_STEP, 0⟩, ⟨6, 6, .ro, PAIR_STATUS.IN_STEP, 0⟩, ⟨5, 5, .ro, PAIR_STATUS.PEER_CLAIM, 0⟩, ⟨4, 4, .ro, PAIR_STATUS.OWN_CLAIM, 0⟩, ⟨3, 3, .ro, PAIR_STATUS.SWAP_WAIT, 0⟩, ⟨2, 0, .ro, PAIR_STATUS.ROLE, 0⟩]⟩,
   ⟨0xe00008, 0, 1, 0, 1, [⟨9, 0, .rwc, PAIR_PEER.NODE, 0⟩]⟩,
   ⟨0xe0000c, 0, 1, 0, 1, [⟨31, 24, .rwc, PAIR_TIMING.HB_INTERVAL, 0⟩, ⟨23, 16, .rwc, PAIR_TIMING.HB_LOSS, 0⟩, ⟨15, 0, .rwc, PAIR_TIMING.POS_TOL, 0⟩]⟩,
   ⟨0xe00010, 0, 1, 0, 1, [⟨31, 0, .rw, PAIR_LOST_ROWS.COUNT, 0⟩]⟩,
   ⟨0xe00014, 0, 1, 0, 1, [⟨31, 0, .rw, PAIR_TAKEOVERS.COUNT, 0⟩]⟩,
   ⟨0xe00018, 0, 1, 0, 1, [⟨31, 0, .rw, PAIR_SYNC_ERR.COUNT, 0⟩]⟩,
   ⟨0xe0001c, 0, 1, 0, 1, [⟨15, 0, .ro, PAIR_LAST_GAP.FIRES, 0⟩]⟩,
   ⟨0xe00020, 0, 1, 0, 1, [⟨31, 0, .ro, PAIR_LAST_TAKE.T, 0⟩]⟩,
   ⟨0xe00024, 0, 1, 0, 1, [⟨15, 0, .ro, PAIR_LAST_TAKE.T, 32⟩]⟩,
   ⟨0xe00100, 0, 1, 0, 1, [⟨31, 31, .wo, .none, 0⟩]⟩,
   ⟨0xe00104, 0, 1, 0, 1, [⟨31, 24, .rw, HOOP_CFG.HOLD, 0⟩, ⟨23, 16, .rw, HOOP_CFG.WDOG, 0⟩, ⟨2, 2, .rw, HOOP_CFG.DEBUG, 0⟩, ⟨1, 1, .rw, HOOP_CFG.HEAD_EN, 0⟩, ⟨0, 0, .rw, HOOP_CFG.STOP_KIND, 0⟩]⟩,
   ⟨0xe00108, 0, 1, 0, 1, [⟨1, 0, .wo, .none, 0⟩]⟩,
   ⟨0xe0010c, 0, 1, 0, 1, [⟨15, 8, .ro, HOOP_STATUS.LATCHED, 0⟩, ⟨3, 3, .ro, HOOP_STATUS.CAP, 0⟩, ⟨2, 2, .ro, HOOP_STATUS.FAULT, 0⟩, ⟨1, 1, .ro, HOOP_STATUS.OVERRIDE, 0⟩, ⟨0, 0, .ro, HOOP_STATUS.ACTED, 0⟩]⟩,
   ⟨0xe00110, 0, 1, 0, 1, [⟨31, 0, .ro, HOOP_TIME.T, 0⟩]⟩,
   ⟨0xe00114, 0, 1, 0, 1, [⟨15, 0, .ro, HOOP_TIME.T, 32⟩]⟩]

/-- Every register word of PAIR. -/
def rowsPAIR : List RegRow := rowsPAIR0

/-- The register words of AXIS, part 0. -/
def rowsAXIS0 : List RegRow :=
  [⟨0xf00000, 0x400, 6, 0, 1, [⟨31, 31, .wo, .none, 0⟩, ⟨9, 8, .rwc, AXIS_CTL.LIM_POL, 0⟩, ⟨1, 1, .rwc, AXIS_CTL.INV, 0⟩, ⟨0, 0, .rwc, AXIS_CTL.EN, 0⟩]⟩,
   ⟨0xf00004, 0x400, 6, 0, 1, [⟨23, 20, .ro, AXIS_STATUS.LAST_FAULT, 0⟩, ⟨19, 16, .ro, AXIS_STATUS.LAST_END, 0⟩, ⟨9, 9, .ro, AXIS_STATUS.LIM_HI, 0⟩, ⟨8, 8, .ro, AXIS_STATUS.LIM_LO, 0⟩, ⟨7, 7, .ro, AXIS_STATUS.HOMED, 0⟩, ⟨6, 6, .ro, AXIS_STATUS.POS_DOUBT, 0⟩, ⟨5, 5, .ro, AXIS_STATUS.FLT_IN, 0⟩, ⟨4, 4, .ro, AXIS_STATUS.DIR, 0⟩, ⟨2, 0, .ro, AXIS_STATUS.STATE, 0⟩]⟩,
   ⟨0xf00008, 0x400, 6, 0, 1, [⟨31, 0, .rwc, AXIS_POS.P, 0⟩]⟩,
   ⟨0xf0000c, 0x400, 6, 0, 1, [⟨31, 0, .rwc, AXIS_POS.P, 32⟩]⟩,
   ⟨0xf00010, 0x400, 6, 0, 1, [⟨31, 0, .ro, AXIS_TARGET.TARGET, 0⟩]⟩,
   ⟨0xf00014, 0x400, 6, 0, 1, [⟨31, 0, .ro, AXIS_TARGET.TARGET, 32⟩]⟩,
   ⟨0xf00018, 0x400, 6, 0, 1, [⟨31, 0, .ro, AXIS_VNOW.V, 0⟩]⟩,
   ⟨0xf00020, 0x400, 6, 0, 1, [⟨31, 0, .rwc, AXIS_VMAX.VMAX, 0⟩]⟩,
   ⟨0xf00024, 0x400, 6, 0, 1, [⟨31, 0, .rwc, AXIS_AMAX.AMAX, 0⟩]⟩,
   ⟨0xf00028, 0x400, 6, 0, 1, [⟨31, 0, .rwc, AXIS_JMAX.JMAX, 0⟩]⟩,
   ⟨0xf00030, 0x400, 6, 0, 1, [⟨27, 16, .rwc, AXIS_KVAL.KHOLD, 0⟩, ⟨11, 0, .rwc, AXIS_KVAL.KRUN, 0⟩]⟩,
   ⟨0xf00034, 0x400, 6, 0, 1, [⟨23, 16, .rwc, AXIS_BEMF.DEAD, 0⟩, ⟨15, 0, .rwc, AXIS_BEMF.BEMF, 0⟩]⟩,
   ⟨0xf00038, 0x400, 6, 0, 1, [⟨7, 0, .rwc, AXIS_LIM_CFG.DEB, 0⟩]⟩,
   ⟨0xf00040, 0x400, 6, 0, 1, [⟨31, 0, .ro, AXIS_LIM_LO_POS.P, 0⟩]⟩,
   ⟨0xf00044, 0x400, 6, 0, 1, [⟨31, 0, .ro, AXIS_LIM_LO_POS.P, 32⟩]⟩,
   ⟨0xf00048, 0x400, 6, 0, 1, [⟨31, 0, .ro, AXIS_LIM_HI_POS.P, 0⟩]⟩,
   ⟨0xf0004c, 0x400, 6, 0, 1, [⟨31, 0, .ro, AXIS_LIM_HI_POS.P, 32⟩]⟩,
   ⟨0xf00060, 0x400, 6, 0, 1, [⟨31, 0, .rw, AXIS_MOVES.COUNT, 0⟩]⟩,
   ⟨0xf00064, 0x400, 6, 0, 1, [⟨31, 0, .rw, AXIS_FAULTS.COUNT, 0⟩]⟩,
   ⟨0xf00200, 0x400, 6, 4, 128, [⟨25, 16, .rwc, (AXIS_TABLE.T.pair 1), 0⟩, ⟨9, 0, .rwc, (AXIS_TABLE.T.pair 0), 0⟩]⟩]

/-- Every register word of AXIS. -/
def rowsAXIS : List RegRow := rowsAXIS0

/-- The register words of LAMP, part 0. -/
def rowsLAMP0 : List RegRow :=
  [⟨0x1000000, 0x40, 8, 0, 1, [⟨11, 8, .rwc, LAMP_CTL.CAM_SRC, 0⟩, ⟨7, 4, .rwc, LAMP_CTL.NTC, 0⟩, ⟨2, 2, .rwc, LAMP_CTL.COMP_EN, 0⟩, ⟨1, 1, .rwc, LAMP_CTL.MODE, 0⟩, ⟨0, 0, .rwc, LAMP_CTL.EN, 0⟩]⟩,
   ⟨0x1000004, 0x40, 8, 0, 1, [⟨31, 16, .rwc, LAMP_SET.FADE_MS, 0⟩, ⟨15, 0, .rwc, LAMP_SET.TARGET, 0⟩]⟩,
   ⟨0x1000008, 0x40, 8, 0, 1, [⟨31, 16, .ro, LAMP_STATUS.DUTY, 0⟩, ⟨1, 1, .ro, LAMP_STATUS.STROBING, 0⟩, ⟨0, 0, .ro, LAMP_STATUS.FADING, 0⟩]⟩,
   ⟨0x100000c, 0x40, 8, 0, 1, [⟨15, 0, .ro, LAMP_NOW.NOW, 0⟩]⟩,
   ⟨0x1000010, 0x40, 8, 0, 1, [⟨31, 16, .rwc, LAMP_STROBE.WIDTH, 0⟩, ⟨15, 0, .rwc, LAMP_STROBE.DELAY, 0⟩]⟩,
   ⟨0x1000014, 0x40, 8, 0, 1, [⟨31, 0, .rw, LAMP_STROBE_LATE.COUNT, 0⟩]⟩,
   ⟨0x1000018, 0x40, 8, 0, 1, [⟨31, 0, .rw, LAMP_STROBE_MERGED.COUNT, 0⟩]⟩,
   ⟨0x1000400, 0x40, 8, 4, 16, [⟨31, 16, .rwc, LAMP_COMP.TEMP, 0⟩, ⟨15, 0, .rwc, LAMP_COMP.GAIN, 0⟩]⟩,
   ⟨0x1000800, 4, 16, 0, 1, [⟨31, 16, .rwc, LAMP_CURVE.TEMP, 0⟩, ⟨11, 0, .rwc, LAMP_CURVE.CODE, 0⟩]⟩,
   ⟨0x1000900, 4, 8, 0, 1, [⟨31, 16, .ro, LAMP_NTC.TEMP, 0⟩, ⟨12, 12, .ro, LAMP_NTC.FAULT, 0⟩, ⟨11, 0, .ro, LAMP_NTC.CODE, 0⟩]⟩,
   ⟨0x1000a00, 0, 1, 0, 1, [⟨0, 0, .wo, .none, 0⟩]⟩,
   ⟨0x1000c00, 0, 1, 0, 1, [⟨23, 16, .rwc, MX_CFG.BLINK_T, 0⟩, ⟨13, 8, .rwc, MX_CFG.BLANK, 0⟩, ⟨0, 0, .rwc, MX_CFG.EN, 0⟩]⟩,
   ⟨0x1000c40, 4, 16, 0, 1, [⟨2, 2, .rwc, (MX_CELL.BLINK.eighth 0), 0⟩, ⟨1, 0, .rwc, (MX_CELL.LEVEL.eighth 0), 0⟩, ⟨6, 6, .rwc, (MX_CELL.BLINK.eighth 1), 0⟩, ⟨5, 4, .rwc, (MX_CELL.LEVEL.eighth 1), 0⟩, ⟨10, 10, .rwc, (MX_CELL.BLINK.eighth 2), 0⟩, ⟨9, 8, .rwc, (MX_CELL.LEVEL.eighth 2), 0⟩, ⟨14, 14, .rwc, (MX_CELL.BLINK.eighth 3), 0⟩, ⟨13, 12, .rwc, (MX_CELL.LEVEL.eighth 3), 0⟩, ⟨18, 18, .rwc, (MX_CELL.BLINK.eighth 4), 0⟩, ⟨17, 16, .rwc, (MX_CELL.LEVEL.eighth 4), 0⟩, ⟨22, 22, .rwc, (MX_CELL.BLINK.eighth 5), 0⟩, ⟨21, 20, .rwc, (MX_CELL.LEVEL.eighth 5), 0⟩, ⟨26, 26, .rwc, (MX_CELL.BLINK.eighth 6), 0⟩, ⟨25, 24, .rwc, (MX_CELL.LEVEL.eighth 6), 0⟩, ⟨30, 30, .rwc, (MX_CELL.BLINK.eighth 7), 0⟩, ⟨29, 28, .rwc, (MX_CELL.LEVEL.eighth 7), 0⟩]⟩]

/-- Every register word of LAMP. -/
def rowsLAMP : List RegRow := rowsLAMP0

/-- The register words of CHK, part 0. -/
def rowsCHK0 : List RegRow :=
  [⟨0x1100000, 0x100, 4, 0, 1, [⟨31, 31, .wo, .none, 0⟩, ⟨30, 30, .wo, .none, 0⟩, ⟨29, 29, .wo, .none, 0⟩, ⟨16, 16, .rwc, CHK_CTL.ALIVE_EN, 0⟩, ⟨15, 8, .rwc, CHK_CTL.ALIVE, 0⟩, ⟨1, 0, .rwc, CHK_CTL.ALG, 0⟩]⟩,
   ⟨0x1100004, 0x100, 4, 0, 1, [⟨7, 4, .ro, CHK_STATUS.ERR, 0⟩, ⟨3, 3, .ro, CHK_STATUS.MATCH, 0⟩, ⟨2, 0, .ro, CHK_STATUS.STATE, 0⟩]⟩,
   ⟨0x1100008, 0x100, 4, 0, 1, [⟨31, 0, .rw, CHK_SRC.SRC, 0⟩]⟩,
   ⟨0x110000c, 0x100, 4, 0, 1, [⟨7, 0, .rw, CHK_SRC.SRC, 32⟩]⟩,
   ⟨0x1100010, 0x100, 4, 0, 1, [⟨31, 0, .rw, CHK_LEN.LEN, 0⟩]⟩,
   ⟨0x1100014, 0x100, 4, 0, 1, [⟨31, 0, .ro, CHK_DONE.DONE, 0⟩]⟩,
   ⟨0x1100018, 0x100, 4, 0, 1, [⟨31, 0, .rwc, CHK_VALUE.VALUE, 0⟩]⟩,
   ⟨0x110001c, 0x100, 4, 0, 1, [⟨31, 0, .ro, CHK_RESULT.RESULT, 0⟩]⟩,
   ⟨0x1100020, 0x100, 4, 0, 1, [⟨31, 0, .rwc, CHK_EXPECT.EXPECT, 0⟩]⟩,
   ⟨0x1100024, 0x100, 4, 0, 1, [⟨8, 8, .rwc, CHK_LAST_ALIVE.VALID, 0⟩, ⟨7, 0, .ro, CHK_LAST_ALIVE.LAST, 0⟩]⟩]

/-- Every register word of CHK. -/
def rowsCHK : List RegRow := rowsCHK0

/-- The register words of NVM, part 0. -/
def rowsNVM0 : List RegRow :=
  [⟨0x1200000, 0, 1, 0, 1, [⟨31, 31, .ro, NVM_STATUS.BOOT_BAD, 0⟩, ⟨30, 30, .w1c, NVM_STATUS.HIST_WRAP, 0⟩, ⟨29, 16, .ro, NVM_STATUS.BAD_PAGE, 0⟩, ⟨15, 8, .ro, NVM_STATUS.QUEUE, 0⟩, ⟨0, 0, .ro, NVM_STATUS.HOST_BUSY, 0⟩]⟩,
   ⟨0x1200004, 0, 1, 0, 1, [⟨31, 0, .rwc, NVM_WEAR_CFG.THRESH, 0⟩]⟩,
   ⟨0x1200008, 0, 1, 0, 1, [⟨31, 0, .ro, NVM_WEAR_MAX.COUNT, 0⟩]⟩,
   ⟨0x120000c, 0, 1, 0, 1, [⟨13, 0, .ro, NVM_WEAR_PAGE.PAGE, 0⟩]⟩,
   ⟨0x1200010, 0, 1, 0, 1, [⟨31, 0, .rw, NVM_WRITES.COUNT, 0⟩]⟩,
   ⟨0x1200014, 0, 1, 0, 1, [⟨31, 0, .rw, NVM_VERIFY_FAIL.COUNT, 0⟩]⟩,
   ⟨0x1200018, 0, 1, 0, 1, [⟨31, 0, .rw, NVM_BOOT_SKIP.COUNT, 0⟩]⟩,
   ⟨0x120001c, 0, 1, 0, 1, [⟨31, 0, .rw, NVM_DROPPED.COUNT, 0⟩]⟩,
   ⟨0x1200020, 4, 4, 0, 1, [⟨31, 0, .rwc, NVM_LOG_MASK.MASK, 0⟩]⟩,
   ⟨0x1200030, 0, 1, 0, 1, [⟨31, 0, .ro, NVM_LOG_NEXT.SEQ, 0⟩]⟩]

/-- Every register word of NVM. -/
def rowsNVM : List RegRow := rowsNVM0

end Sys2Proof.Machine
end

