-- ==== Sys2Proof/Machine/State.lean ====
section
/-! DEFINITION. What the block holds between commands, as plain data, and its value right after reset. Numbered registers are one sparse list (regs); what no register shows stands in one structure for each unit. -/

namespace Sys2Proof.Machine

/-- The reasons a command could stop the machine. The spec gives every command an effect, a refusing reply or no effect, so no meaning raises one. -/
inductive Fault where
  /-- No meaning raises it. It is safe: a run that stopped here would show no false behaviour. -/
  | none
  deriving DecidableEq, Repr

/-- The reasons for having no meaning. -/
inductive Refusal where
  /-- Raised by Dispatch.lean alone, for a command not modelled; safe. -/
  | notModelled (mnemonic : String)
  deriving DecidableEq, Repr

/-- A command or reply packet (Table 4.1); LENGTH is the number of parameters. -/
structure Packet where
  /-- OPCODE. -/
  opcode : Byte
  /-- REPLY. -/
  reply : Bool := false
  /-- The other header fields. -/
  hdr : Hdr
  /-- The parameter field. -/
  params : List Byte := []
  deriving DecidableEq, Repr

/-- The phases of power-up (R80 to R82, R88, R91). -/
inductive Phase where
  /-- PORST_N is low. -/
  | held
  /-- Table 3.8, steps 2 to 6, are running. -/
  | powerUp
  /-- The state of R81: every VREG_ENn low, waiting in PD_AON. -/
  | failed
  /-- PD_CORE is on. -/
  | up
  /-- DORMANT. -/
  | dormant
  deriving DecidableEq, Repr

/-- The wake of one domain in progress (R73, R75). -/
structure Wake where
  /-- The step that is being attempted: 1 power, 2 clock, 3 memory, 4 logic; 5 is step 3 of Table 3.8, the wait for rail group 3. -/
  step : Nat := 1
  /-- Attempts made on the step, the present one included. -/
  attempts : Nat := 1
  /-- A back-off before the next attempt is running. -/
  backoff : Bool := false
  /-- Step 1 enables the rail group rather than a switch. -/
  rail : Bool := false
  deriving DecidableEq, Repr

/-- Starter, the straps, the rails, performance level and temperature (chapter 3 of the spec's files). -/
structure Power where
  /-- Where power-up stands. -/
  phase : Phase := .held
  /-- SB_ADDR as sampled (R37). -/
  sbAddr : Nat := 0
  /-- BOOT_SEL as sampled (R37). -/
  bootSel : Nat := 0
  /-- TESTMODE as sampled (R61). -/
  testmode : Bool := false
  /-- Wakes in progress by domain. -/
  wakes : List (Nat × Wake) := []
  /-- Power-up restores Cave images: it follows DORMANT (R91). -/
  restore : Bool := false
  /-- VREG_EN0 to VREG_EN3, one bit each. -/
  vregEn : Nat := 0
  /-- VID1, VID0 (Table 2.4: 0b01 at reset). -/
  vid : Nat := 1
  /-- Starter's copy of SYS_PL.REQ (R93). -/
  reqCopy : Nat := 1
  /-- A DORMANT request has been accepted and its reply is being sent (Table 3.11, step 1). -/
  asked : Bool := false
  /-- The die has passed 125 degrees and has not yet fallen below 110 (R85). -/
  tripped : Bool := false
  /-- SYS_TEMP_WARN is armed (R84). -/
  warnArmed : Bool := true
  /-- SYS_TEMP_CRIT is armed (R84). -/
  critArmed : Bool := true
  /-- The last readings of the eight sensors, 1/16 degree. -/
  temps : List Int := [0, 0, 0, 0, 0, 0, 0, 0]
  /-- The blocks in IDLE, as 32 x domain + block (R64). -/
  idle : List Nat := []
  /-- The firmware runs on the cores (BOOT 0x5, or its start under step 8). -/
  firmware : Bool := false
  /-- The boot ROM serves a host port (R99). -/
  romHost : Bool := false
  /-- The boot ROM runs and has not yet found an image. -/
  rom : Bool := false
  /-- The boot ROM waits for the domains of a host boot (R99). -/
  hostBoot : Bool := false
  /-- Domains that the starting firmware has still to wake (Table 3.8, step 8). -/
  bootQueue : List Nat := []
  /-- Step 9 of Table 3.8 has still to come. -/
  booting : Bool := false
  /-- SYS_BOOT_DONE has been raised since power-on reset (R487). -/
  bootDone : Bool := false
  deriving DecidableEq, Repr

/-- What the command path keeps for one source endpoint (R114, R119, R121). -/
structure Endpoint where
  /-- Agreed version, VMAJ in the high four bits. -/
  version : Nat := 0x20
  /-- Agreed feature mask. -/
  features : Nat := 0
  /-- The ALIVE values of the last eight commands past step 6, newest first. -/
  window : List Nat := []
  deriving DecidableEq, Repr

/-- A command that is outstanding (R113): it has passed step 8, and waits for its turn (R117, R118) or for domains that are waking (R86). -/
structure Waiting where
  /-- Where it came in. -/
  via : Ingress
  /-- Its header. -/
  hdr : Hdr
  /-- Its opcode. -/
  opcode : Nat
  /-- Its parameters. -/
  params : List Byte
  /-- The domains it waits for; empty for a command that has not started. -/
  needs : List Nat
  /-- The network address of its sender, where its carrier gave one (R140). -/
  peer : Option NetAddr := none
  deriving DecidableEq, Repr

/-- The command path (chapter 4). -/
structure Cmd where
  /-- By endpoint: 1024 x ingress code + SRC. -/
  endpoints : List (Nat × Endpoint) := []
  /-- Outstanding commands that wait, oldest first. -/
  waiting : List Waiting := []
  /-- R14 captures: reader, address of the register, captured value. -/
  captures : List (Nat × Nat × Nat) := []
  /-- The sideband reply that is ready (R123). -/
  sbReply : List Byte := []
  /-- The node ID of step 3 of Table 4.5, FAB_NODE.ID while PD_FAB is on. -/
  node : Nat := 0
  /-- R140: by 1024 x port + node ID, the addresses of the last accepted command, where its carrier gave them. -/
  peers : List (Nat × Option NetAddr) := []
  /-- Correctable (false) and uncorrectable (true) errors now in memory, by byte address of the 64-bit word (R70, R71, R245). -/
  ecc : List (Nat × Bool) := []
  deriving DecidableEq, Repr

/-- One event record (Table 4.14). -/
structure EvtRecord where
  /-- SOURCE. -/
  source : Nat
  /-- OCCUR. -/
  occur : Nat
  /-- TIME. -/
  time : Nat
  /-- INFO. -/
  info : Nat
  deriving DecidableEq, Repr

/-- EVT (R129 to R133, R551). -/
structure Evt where
  /-- PENDING of the 128 sources. -/
  pend : BitVec 128 := 0
  /-- Counts by source. -/
  counts : List (Nat × Nat) := []
  /-- SEQ of the next packet, by subscriber slot. -/
  seqs : List (Nat × Nat) := []
  /-- ALIVE of the next packet, by subscriber slot (R132). -/
  alives : List (Nat × Nat) := []
  /-- Records held back for a slot's open 2 us window, oldest first (R133). -/
  batches : List (Nat × List EvtRecord) := []
  /-- The sources held in PD_AON while EVT is off: one record each, with the held count (R551). -/
  held : List EvtRecord := []
  deriving DecidableEq, Repr

/-- What a launch slot has copied (R167). -/
structure Launch where
  /-- The frame or cell. -/
  frame : List Byte
  /-- The port code. -/
  port : Nat
  /-- The 48-bit target. -/
  target : Nat
  deriving DecidableEq, Repr

/-- TIME (chapter 5). -/
structure Time where
  /-- The raw counter, ns (R152). -/
  raw : Nat := 0
  /-- Its fraction in 2^-16 ns, kept while the AON clock advances it (R90). -/
  frac : Nat := 0
  /-- The TIME PLL is locked: the counter advances by 1 ns per clock (Table 3.8, step 4). -/
  locked : Bool := false
  /-- The counter runs (Table 3.8, step 1). -/
  running : Bool := false
  /-- By compare: the 48-bit target in force (R165). -/
  targets : List (Nat × Nat) := []
  /-- By slot: what a waiting launch has copied. -/
  launches : List (Nat × Launch) := []
  /-- By port code: the raw count until which the last launch is on the line (R169). -/
  sending : List (Nat × Nat) := []
  deriving DecidableEq, Repr

/-- One raster stream of a host port (R145 to R149). -/
structure Stream where
  /-- The bound source, as 65536 x IPv4 address + UDP port. -/
  bound : Option Nat := none
  /-- The next expected SEQ, E. -/
  expect : Nat := 0
  /-- Held payloads in SEQ order: SEQ and payload, none for a SEQ that has been given up before its turn (R149). -/
  held : List (Nat × Option (List Byte)) := []
  /-- Requests sent so far for each missing SEQ (R147). -/
  requests : List (Nat × Nat) := []
  /-- Raw time of the last datagram received. -/
  lastRx : Nat := 0
  deriving DecidableEq, Repr

/-- The IEEE 1588 servo's working state (R161 to R163). -/
structure Ptp where
  /-- The last Announce heard came from a better data set than this port's own: with SLAVE_ONLY 0, the port is master while none has. -/
  better : Bool := false
  /-- sequenceId of the Sync whose Follow_Up is awaited, and the arrival of that Sync in 2^-16 ns. -/
  syncSeq : Option (Nat × Int) := none
  /-- Origin and arrival of the last complete Sync, 2^-16 ns. -/
  sync : Option (Int × Int) := none
  /-- sequenceId and departure of the Delay_Req or Pdelay_Req that awaits its answer, 2^-16 ns. -/
  req : Option (Nat × Int) := none
  /-- Receipt of the Pdelay_Req at the peer and arrival of the Pdelay_Resp here, 2^-16 ns. -/
  pdelay : Option (Int × Int) := none
  /-- The measured mean path delay, 2^-16 ns, once one measurement is complete. -/
  delay : Option Int := none
  /-- sequenceId of the next message sent. -/
  seq : Nat := 0
  deriving DecidableEq, Repr

/-- HOST (chapter 5). -/
structure Hosts where
  /-- By 8 x port + stream. -/
  streams : List (Nat × Stream) := []
  /-- By port. -/
  ptp : List (Nat × Ptp) := []
  /-- Outbound SEQ by destination address and class: 16 x (2^48 x port + 65536 x ip + udp) + class (R143). -/
  seqs : List (Nat × Nat) := []
  deriving DecidableEq, Repr

/-- A cell that a fabric port has sent and holds for replay, or is still to send. -/
structure TxCell where
  /-- LSEQ. -/
  lseq : Nat
  /-- Header and payload. -/
  bytes : List Byte
  deriving DecidableEq, Repr

/-- What a fabric port keeps beside its registers (R173 to R199). -/
structure FabPort where
  /-- LSEQ of the next cell sent. -/
  txNext : Nat := 0
  /-- Cells sent and not yet acknowledged, oldest first (R180). -/
  unacked : List TxCell := []
  /-- Cells that wait for credit or for room among the 64, by priority class then order. -/
  queue : List (Nat × List Byte) := []
  /-- Credit for slots at the far end (R182). -/
  credit : Nat := 512
  /-- Slots emptied here and not yet returned. -/
  owed : Nat := 0
  /-- LSEQ expected next. -/
  rxNext : Nat := 0
  /-- Cells received in sequence since the last ACK. -/
  sinceAck : Nat := 0
  /-- A NAK has been sent and cells are discarded until the expected one (R180). -/
  nakking : Bool := false
  /-- Replays in a row without progress (R181). -/
  replays : Nat := 0
  /-- Agreed maximum cell (R179). -/
  maxCell : Nat := 256
  /-- Agreed features (Table 6.5). -/
  features : Nat := 0
  /-- The peer's CAP has been seen. -/
  capSeen : Bool := false
  /-- The peer has said it saw this side's CAP. -/
  peerSeen : Bool := false
  /-- A version retry is under way (R179). -/
  refused : Bool := false
  /-- FAB_VERSION_MISMATCH has been raised for a low agreed version. -/
  lowRaised : Bool := false
  /-- The port's own receiver needs no further tap change. -/
  ready : Bool := false
  /-- Consecutive frames in which both sides were READY. -/
  readyFrames : Nat := 0
  /-- RSEQ of the port's own outstanding request. -/
  rseq : Nat := 0
  /-- RSEQ of the far request answered last, for the repeat rule. -/
  answered : Option Nat := none
  /-- The answer given to it. -/
  answer : Nat := 0
  /-- REQ_ID and departure of the DELAY_REQ that awaits its answer, 2^-16 ns (R197). -/
  delayReq : Option (Nat × Int) := none
  /-- The last values of rx_delay, newest first, in 2^-5 ns. -/
  delays : List Int := []
  /-- The next REQ_ID. -/
  reqId : Nat := 0
  /-- ROOT_UID, HOPS and SENDER_UID of the last ELECT heard (R189). -/
  elect : Option (Nat × Nat × Nat) := none
  deriving DecidableEq, Repr

/-- One node's TOPO frame as stored (R190). -/
structure Topo where
  /-- The node's unique ID. -/
  uid : Nat
  /-- Its node ID, 0x3FF if none. -/
  node : Nat
  /-- GEN. -/
  gen : Nat
  /-- Its links: port and peer UID. -/
  links : List (Nat × Nat)
  deriving DecidableEq, Repr

/-- FAB (chapter 6). -/
structure Fab where
  /-- By port. -/
  ports : List (Nat × FabPort) := []
  /-- Stored TOPO frames of other nodes (R190). -/
  topo : List Topo := []
  /-- GEN of this node's next TOPO frame. -/
  gen : Nat := 0
  /-- The upstream port (R189). -/
  upstream : Option Nat := none
  /-- Consecutive SYNCs with an error of at most 1 ns (R198). -/
  syncGood : Nat := 0
  /-- Cell SEQ by 16 x destination + class (Table 6.6). -/
  seqs : List (Nat × Nat) := []
  /-- The routing table agrees with the map (R192). -/
  routed : Bool := true
  /-- IDs have been assigned since the map or the root last changed (R191). -/
  assigned : Bool := true
  /-- UID of the root that this node's ID came from; none until an assignment. -/
  idRoot : Option Nat := none
  /-- Cells of raster whose slots of Vat region 3 are not yet known to be empty, oldest first: port and raster source (R182, R208). -/
  lent : List (Nat × Nat) := []
  /-- By UID: the root and GEN of the last ASSIGN frame for it, so that none is flooded twice. -/
  assigns : List (Nat × Nat × Nat) := []
  deriving DecidableEq, Repr

/-- One page write that NVM has still to make (R541, R543). -/
structure NvmJob where
  /-- The page. -/
  page : Nat
  /-- First byte within the page. -/
  off : Nat
  /-- The bytes to write there. -/
  bytes : List Byte
  deriving DecidableEq, Repr

/-- An NVM_WRITE in progress (R543). -/
structure NvmHost where
  /-- PAGE of the command. -/
  first : Nat
  /-- Pages written so far. -/
  done : Nat
  /-- Pages still to write. -/
  left : List (List Byte)
  /-- ERASE of a device area was asked. -/
  erase : Bool
  /-- Its endpoint, for R544. -/
  endpoint : Nat
  deriving DecidableEq, Repr

/-- NVM (chapter 20). -/
structure Nvm where
  /-- Device writes queued, oldest first, at most 64. -/
  queue : List NvmJob := []
  /-- The command in progress. -/
  host : Option NvmHost := none
  /-- The next write is the device's: device writes are placed between host pages. -/
  deviceTurn : Bool := false
  /-- Write counts by page (R545); they persist like the MRAM itself. -/
  counts : List (Nat × Nat) := []
  /-- Number of boot entries written: the boot count of Table 20.4. -/
  boots : Nat := 0
  /-- SEQ of the next record of the mask history, head and channel calibration, pair state, fabric tap and fault log areas, by area number 0 to 5. -/
  seqs : List (Nat × Nat) := []
  deriving DecidableEq, Repr

/-- The states of the IEEE 1149.1 TAP controller (R59). -/
inductive Tap where
  | testLogicReset | runTestIdle
  | selectDr | captureDr | shiftDr | exit1Dr | pauseDr | exit2Dr | updateDr
  | selectIr | captureIr | shiftIr | exit1Ir | pauseIr | exit2Ir | updateIr
  deriving DecidableEq, Repr

/-- The test access port (R59 to R61). -/
structure Jtag where
  /-- The controller's state. -/
  state : Tap := .testLogicReset
  /-- The instruction in force. -/
  ir : BitVec 8 := 1
  /-- The instruction shift register. -/
  irShift : BitVec 8 := 0
  /-- The data shift register: IDCODE, BYPASS or the boundary cells, next bit out first. -/
  dr : List Bool := []
  /-- The update latches of the boundary register. -/
  boundary : List Bool := []
  /-- TDO, none while it is high-impedance. -/
  tdo : Option Bool := none
  deriving DecidableEq, Repr



/-- What a position channel keeps beside its registers (chapter 9). -/
structure PosChan where
  /-- Filtered level of A. -/
  lineA : Bool := false
  /-- Filtered level of B. -/
  lineB : Bool := false
  /-- Angle of the last sine/cosine sample, 12 bits. -/
  angle : Option Nat := none
  /-- The last good SSI reading. -/
  reading : Option Nat := none
  /-- x of R275, in 2^-32 counts. -/
  x : Int := 0
  /-- v, in 2^-32 counts/us. -/
  v : Int := 0
  /-- a, in 2^-32 counts/us^2. -/
  a : Int := 0
  /-- The first edge of an interval: H and its time (Table 9.3). -/
  first : Option (Int × Int) := none
  /-- H has changed since the last update, at this time. -/
  changed : Option Int := none
  /-- Raw times of the illegal transitions of the last WINDOW, newest first. -/
  illegal : List Nat := []
  /-- Consecutive samples outside the amplitude window. -/
  ampRun : Nat := 0
  /-- Consecutive SSI errors. -/
  ssiRun : Nat := 0
  /-- Raw sample pairs that a SINCOS item collects, newest first (R402). -/
  samples : Option (List (Int × Int)) := none
  /-- Coefficients that take over at the next sample (R406): OFS_S, OFS_C, GAIN_S, GAIN_C, PHASE. -/
  coef : Option (Nat × Nat × Nat × Nat × Nat) := none
  deriving DecidableEq, Repr

/-- An observer state as it is delivered (R279). -/
structure Obs where
  /-- t_k. -/
  t : Nat := 0
  /-- x, 2^-32 counts. -/
  x : Int := 0
  /-- v, 2^-32 counts/us. -/
  v : Int := 0
  /-- a, 2^-32 counts/us^2. -/
  a : Int := 0
  /-- DIR. -/
  dir : Nat := 0
  /-- VALID. -/
  valid : Bool := false
  deriving DecidableEq, Repr

/-- A committed compare entry (R281, R285). -/
structure CmpEntry where
  /-- P, 48 bits. -/
  p : Nat := 0
  /-- LAMP. -/
  lamp : Nat := 0
  /-- CAM. -/
  cam : Nat := 0
  /-- PAGE. -/
  page : Bool := false
  /-- EVT. -/
  evt : Bool := false
  /-- PIN. -/
  pin : Bool := false
  deriving DecidableEq, Repr

/-- POS and its compare units (chapter 9). -/
structure Pos where
  /-- By channel. -/
  chans : List (Nat × PosChan) := []
  /-- The committed entries, by 1024 x unit + entry. -/
  entries : List (Nat × CmpEntry) := []
  /-- POS_CMPu high until this corrected time, by unit. -/
  pins : List (Nat × Nat) := []
  /-- The last update of the print channel delivered to the nozzle engine. -/
  last : Obs := {}
  /-- The print channel's position every 64 us with its time, newest first, at most 4,096 (R458). -/
  history : List (Nat × Int) := []
  deriving DecidableEq, Repr

/-- An entry of a camera port's trigger list (R419, R444). -/
structure CamTrig where
  /-- The reach time. -/
  time : Nat
  /-- The compare unit. -/
  unit : Nat
  /-- The print channel's observer state. -/
  obs : Obs
  deriving DecidableEq, Repr

/-- What the DRAM controllers keep beside their registers (chapter 8). -/
structure Dram where
  /-- Controllers that have completed training since EN was last written 1, as a mask (R234). -/
  ready : Nat := 0
  /-- DENSITY of each controller by number, as read at its last training run, and its RANKS (R233). -/
  fit : List (Nat × Nat × Nat) := []
  /-- The MR4 refresh-rate field of each controller's devices (R242). -/
  rates : List (Nat × Nat) := []
  deriving DecidableEq, Repr



/-- A page of the queue: queued, started, or ended with rows still held (R207, R210, R212). -/
structure Page where
  /-- PAGE_ID. -/
  id : Nat
  /-- PASS. -/
  pass : Nat := 0
  /-- PASSES. -/
  passes : Nat := 1
  /-- DIR is 1. -/
  reverse : Bool := false
  /-- POLICY: 0 MERGE, 1 SKIP, 2 HALT. -/
  policy : Nat := 0
  /-- INSPECT. -/
  inspect : Bool := false
  /-- CHECK_EN. -/
  checkEn : Bool := false
  /-- TRIGGER_ID. -/
  trigger : Nat := 0xFFFF
  /-- ROWS. -/
  rows : Nat
  /-- STRIP_ROWS. -/
  stripRows : Nat
  /-- The fire period in 2^-24 ns. -/
  period : Nat
  /-- PAGE_CHECK. -/
  check : Nat := 0
  /-- Ring row of row 0, counted from the job's first slot without reduction (R207, R254). -/
  base : Nat
  /-- 0 queued, 1 started, 2 ended. -/
  stage : Nat := 0
  /-- START_AT of the trigger it has consumed (R324), corrected ns. -/
  startAt : Option Nat := none
  /-- The origin once it is fixed, 2^-16 row (R325). -/
  origin : Option Int := none
  /-- The page-start record: LATE, EARLY and REBASE (R325, R326). -/
  late : Bool := false
  /-- EARLY. -/
  early : Bool := false
  /-- REBASE. -/
  rebase : Bool := false
  /-- FIRE_PAGE_START has been raised. -/
  begun : Bool := false
  /-- The page is marked defective. -/
  defective : Bool := false
  /-- Strips that hold a good copy, with the rows it decoded while CHECK_EN is set (R222). -/
  good : List (Nat × List Byte) := []
  /-- Strips that ended bad and are written as code 0 (R222). -/
  bad : List Nat := []
  /-- PAGE_CHECK has been compared. -/
  checked : Bool := false
  /-- Rows that have underrun (R223). -/
  underrun : List Nat := []
  /-- The defect record of the underrun run in progress, and its last row. -/
  underRec : Option (Nat × Nat) := none
  /-- For a page that a stop ended: by slot group, the first ring row that was not fired (R340). -/
  stopAt : Option (List (Nat × Nat)) := none
  /-- Rows below this have been read back by the analyser (R17, R441). -/
  readTo : Nat := 0
  /-- The analyser is disabled for the page (R441). -/
  unread : Bool := true
  deriving DecidableEq, Repr

/-- A decode context: one strip in progress (R215). -/
structure Strip where
  /-- The raster source: 64 x port + stream + 2048 for a host stream, the node ID for a fabric source, 4096 for the pair owner. -/
  source : Nat
  /-- PAGE. -/
  page : Nat
  /-- STRIP. -/
  strip : Nat
  /-- The bytes received so far, header included. -/
  bytes : List Byte := []
  /-- Segments received so far. -/
  segments : Nat := 0
  deriving DecidableEq, Repr

/-- A decoded strip, or a bad one, that waits for its ring slots (R208). -/
structure Landing where
  /-- The raster source. -/
  source : Nat
  /-- PAGE. -/
  page : Nat
  /-- STRIP. -/
  strip : Nat
  /-- 0 for a good strip, else the KIND of Table 7.6. -/
  kind : Nat
  /-- The decoded rows. -/
  rows : List Byte
  /-- Its segments (R217). -/
  segments : Nat
  /-- The bytes it holds in the ingress buffer. -/
  size : Nat
  deriving DecidableEq, Repr

/-- A compressor job (R225 to R229). -/
structure EncJob where
  /-- Bytes still to write. -/
  left : List Byte
  /-- Address of the chain list. -/
  chain : Nat
  /-- ADDR and SIZE of each entry, as GO found them. -/
  buffers : List (Nat × Nat)
  deriving DecidableEq, Repr

/-- Raster ingest and the compressor (chapter 7). -/
structure Ingest where
  /-- RING_BASE of the open job. -/
  ringBase : Nat := 0
  /-- COLUMNS and ROW_RES of the previous job, once there was one (R205). -/
  lastGeometry : Option (Nat × Nat) := none
  /-- The pages, in queue order. -/
  pages : List Page := []
  /-- Base of the next page (R207). -/
  nextBase : Nat := 0
  /-- Strips in progress, at most one for each source. -/
  strips : List Strip := []
  /-- Decoded strips that wait for slots. -/
  landing : List Landing := []
  /-- Segments and gap markers (none) held back in the ingress buffer behind a waiting strip (R208, R217): source and payload. -/
  held : List (Nat × Option (List Byte)) := []
  /-- Expected SEQ of RASTER cells by source node (R216). -/
  seqs : List (Nat × Nat) := []
  /-- The compressor job. -/
  enc : Option EncJob := none
  deriving DecidableEq, Repr

/-- NMAP (chapter 10). -/
structure Nmap where
  /-- Mask changes queued, oldest first: nozzle and MSRC (R305). -/
  queue : List (Nat × Nat) := []
  /-- Changes refused by a full queue, which their producer offers again after the next swap (R305). -/
  kept : List (Nat × Nat) := []
  /-- The pending trim block of each head: 2,048 trim bytes (R305). -/
  trims : List (Nat × List Byte) := []
  /-- The flags of the host swap whose steps run: KEEP_MASKS and KEEP_TRIMS. -/
  flags : Nat := 0
  /-- The swap that is PENDING is the device's own (R311). -/
  internal : Bool := false
  /-- The steps of the swap are complete but for the trim transfer (R350). -/
  merged : Bool := false
  /-- A host swap has succeeded since power-on reset or DORMANT (R311, R313). -/
  hostSwapped : Bool := false
  deriving DecidableEq, Repr

/-- The choice of one fire packet (Table 12.4), with its codes in ascending order of 512 s + i. -/
structure FirePacket where
  /-- The head. -/
  head : Nat
  /-- DUE. -/
  due : Nat
  /-- WHEY. -/
  whey : Nat
  /-- WSEL. -/
  wsel : Nat
  /-- TSEL. -/
  tsel : Nat
  /-- TAP. -/
  tap : Nat
  /-- The codes. -/
  codes : List Nat
  deriving DecidableEq, Repr

/-- A fire that has been decided (R329). -/
structure Decided where
  /-- Its number on the grid. -/
  k : Nat
  /-- t_k in 2^-24 ns of corrected time. -/
  t : Nat
  /-- Slot groups with the ring rows that fall due there, those that SKIP discards included. -/
  due : List (Nat × List Nat)
  /-- Slot groups with the ring rows that the fire carries. -/
  carried : List (Nat × List Nat)
  /-- The first oversped slot group: its page, its number and its rows due (R334). -/
  oversped : Option (Nat × Nat × Nat) := none
  /-- Its packets. -/
  packets : List FirePacket
  deriving DecidableEq, Repr

/-- A decision as the pair needs it later (R475, R482): the fire's number, t_k in 2^-24 ns, p0, and the rows due by slot group. -/
structure Past where
  /-- Its number on the grid. -/
  k : Nat
  /-- t_k in 2^-24 ns of corrected time. -/
  t : Nat
  /-- p0. -/
  p0 : Int
  /-- Slot groups with the ring rows that fell due. -/
  due : List (Nat × List Nat)
  deriving DecidableEq, Repr

/-- FIRE (chapter 11). -/
structure Fire where
  /-- The fire to decide next. -/
  next : Nat := 0
  /-- FIRE_ARM has been accepted and the bar is armed as standby (R319). -/
  standby : Bool := false
  /-- By slot group: every ring row of it below this has been decided. -/
  decidedTo : List (Nat × Nat) := []
  /-- By slot group: every ring row of it below this has been fired. -/
  firedTo : List (Nat × Nat) := []
  /-- Rows fetched and not yet fired by every slot group: ring row, and by head the codes of its nozzles (R254, R301). -/
  lines : List (Nat × List (Nat × List Nat)) := []
  /-- One more than the highest ring row of the open job fetched so far (R310). -/
  fetchTop : Nat := 0
  /-- The trigger list, oldest first: TRIGGER_ID and START_AT (R323). -/
  triggers : List (Nat × Nat) := []
  /-- Fires decided and not yet due. -/
  decided : List Decided := []
  /-- The last decisions, newest first (R475, R482). -/
  history : List Past := []
  /-- The bar is stopping, with the reason. -/
  stop : Option Nat := none
  /-- AT_END has been asked (R339). -/
  atEnd : Bool := false
  /-- Ring rows marked oversped (R334). -/
  oversped : List Nat := []
  /-- Ring rows not fired, with the heads concerned as a mask (R377, R482). -/
  notFired : List (Nat × Nat) := []
  /-- Fires sent and not yet acknowledged: head, number, and the ring rows carried (R377). -/
  unacked : List (Nat × Nat × List Nat) := []
  /-- The heads of the pending waveform swap, as FIRE_WF_MASK named them at GO (R358). -/
  wfMask : Nat := 0
  /-- A takeover is under way: the filtered release time and HOLD of the peer (R480 to R482). -/
  takeover : Option (Nat × Nat × Bool) := none
  /-- Corrected time at which a link last left HOLD (R383). -/
  idleEnd : Nat := 0
  deriving DecidableEq, Repr

/-- What a head port keeps beside its registers (chapters 12 and 13). -/
structure Head where
  /-- The copy of the head-ID memory (R372). -/
  copy : List (Nat × Byte) := []
  /-- Bytes of the copy received in this CAPS. -/
  copied : Nat := 0
  /-- The copy has been read and checked in this CAPS. -/
  idDone : Bool := false
  /-- The last delay samples, newest first, 1/16 ns doubled (R371). -/
  delays : List Int := []
  /-- ECHO_ID of the ECHO that awaits its answer. -/
  echo : Option Nat := none
  /-- The next ECHO_ID. -/
  echoId : Nat := 0
  /-- The version has been agreed in this CAPS. -/
  agreed : Bool := false
  /-- The trim images that the head holds, by head bank. -/
  banks : List (Nat × List Byte) := []
  /-- TRIM frames that wait for their answer: head bank, segment and its 512 bytes. -/
  sending : List (Nat × Nat × List Byte) := []
  /-- The images being sent, by head bank. -/
  images : List (Nat × List Byte) := []
  /-- Fire packets in a row without acknowledgement (R368). -/
  missed : Nat := 0
  /-- HL_HEAD_TEMP is armed for WARN. -/
  warnArmed : Bool := true
  /-- HL_HEAD_TEMP is armed for CRIT. -/
  critArmed : Bool := true
  /-- Start of the error window, errors in it, any HCRC failure among them, and whether the event has been raised (R381). -/
  window : Nat := 0
  /-- Errors in the window. -/
  errors : Nat := 0
  /-- An HCRC failure is among them. -/
  anyHcrc : Bool := false
  /-- HL_BLOCK_ERROR has been raised in the window. -/
  told : Bool := false
  /-- HL_ID_MISMATCH with reason 0x1 has been raised for the version retry under way (R370). -/
  capTold : Bool := false
  /-- The raw time of the last TEMP of this link (Table 14.2). -/
  tempAt : Option Nat := none
  deriving DecidableEq, Repr

/-- The element resistance measurement (R387 to R389). -/
structure Meas where
  /-- The heads still to send their last frame. -/
  waiting : List Nat := []
  /-- The heads named. -/
  heads : List Nat := []
  /-- Settling has ended. -/
  settled : Bool := false
  /-- Results out of band by head. -/
  bad : List (Nat × Nat) := []
  deriving DecidableEq, Repr

/-- HL (chapters 12 and 13). -/
structure Heads where
  /-- By head port. -/
  ports : List (Nat × Head) := []
  /-- The measurement. -/
  meas : Meas := {}
  /-- Heads whose masks have been restored at first use, with the SERIAL (R457). -/
  restored : List (Nat × Nat) := []
  deriving DecidableEq, Repr

/-- PAIR and the Hoop (chapter 17). -/
structure PairState where
  /-- OWN_PEER_N reads low through its filter. -/
  peerLow : Bool := false
  /-- The role that GUARD came from. -/
  guardFrom : Nat := 0
  /-- GUARD was entered by automatic takeover. -/
  guardAuto : Bool := false
  /-- Raw time of the last STATE received. -/
  heard : Option Nat := none
  /-- The payload of the last STATE received. -/
  peer : List Byte := []
  /-- PAIR_PEER_LOST for the heartbeat has been raised since the last STATE. -/
  lost : Bool := false
  /-- Expected SEQ of the peer's next PAIR_SYNC cell (R473). -/
  seq : Option Nat := none
  /-- OOS as the last STATE found it (R480). -/
  oosAt : Nat := 0
  /-- The last STATE found the device in step (R480). -/
  stepAt : Bool := false
  /-- Bytes 4 to 37 of the STATE payload as they stood at the last decision, WF_CRC apart (R474). -/
  body : List Byte := []
  /-- The bank transfer being received: bytes landed so far (R479). -/
  bankIn : Option Nat := none
  /-- REQ_BANK of the next STATE. -/
  reqBank : Bool := false
  /-- Corrected time at which OWN_PEER_N was last released, through its filter (R480). -/
  releasedAt : Nat := 0
  /-- The rail groups lost under cause 4, as a mask. -/
  lostGroups : Nat := 0
  /-- The Hoop's action stopped the bar. -/
  hoopStopped : Bool := false
  /-- Core n has kicked this often since its watchdog expired; 2 and more no longer hold the cause (Table 17.6). -/
  kicks : List (Nat × Nat) := []
  /-- The Hoop's hold runs: the action's step 3 is still to come. -/
  holding : Bool := false
  /-- The highest reading of an enabled head that holds HEAD_CRIT: the heads at or above CRIT - 3 since it was latched. -/
  hotHeads : List Nat := []
  /-- Grid of the override packets: number of the next fire. -/
  overrideNext : Nat := 0
  /-- Packets last in force for the override packets: head, WSEL, TSEL and TAP. -/
  lastSel : List (Nat × Nat × Nat × Nat) := []
  deriving DecidableEq, Repr

/-- The sums of one nozzle in one window (R451). -/
structure NhaSum where
  /-- SE. -/
  se : Nat := 0
  /-- SM. -/
  sm : Nat := 0
  /-- ND. -/
  nd : Nat := 0
  /-- NI. -/
  ni : Nat := 0
  /-- DL. -/
  dl : Nat := 0
  /-- DC. -/
  dc : Nat := 0
  /-- DR. -/
  dr : Nat := 0
  deriving DecidableEq, Repr

/-- What a nozzle's baseline period has given so far (R456). -/
structure NhaBase where
  /-- The sum of SM. -/
  sm : Nat := 0
  /-- The sum of SE x g. -/
  seg : Nat := 0
  /-- The sum of ND. -/
  nd : Nat := 0
  /-- Some verdict was not HEALTHY. -/
  bad : Bool := false
  deriving DecidableEq, Repr

/-- A block of measurements from a remote source, as its cells arrive (R458, R459). -/
structure NhaBlock where
  /-- The remote source. -/
  source : Nat
  /-- BSEQ. -/
  bseq : Nat
  /-- EXPO. -/
  expo : Nat
  /-- FRAME. -/
  frame : Nat
  /-- LINE0. -/
  line0 : Nat
  /-- LINES. -/
  lines : Nat
  /-- Its cells: index, X0 and means. -/
  cells : List (Nat × Nat × List Nat) := []
  /-- The index of its last cell, once that has come. -/
  last : Option Nat := none
  /-- It has been discarded, or used: what still comes of it is ignored. -/
  ended : Bool := false
  deriving DecidableEq, Repr

/-- What a remote source has given of one group (R459). -/
structure NhaGroup where
  /-- FRAME. -/
  frame : Nat
  /-- Blocks kept. -/
  kept : Nat := 0
  /-- A block was discarded. -/
  bad : Bool := false
  /-- NHA_REPORT_RECEIVED has been raised for it. -/
  told : Bool := false
  deriving DecidableEq, Repr

/-- The nozzle-health analyser (chapter 16). -/
structure Nha where
  /-- The next window to close (R450). -/
  next : Nat := 0
  /-- Sums, by 131072 x window + nozzle. -/
  sums : List (Nat × NhaSum) := []
  /-- The baseline period's sums, by nozzle. -/
  base : List (Nat × NhaBase) := []
  /-- The nozzles' own baselines (R456). -/
  own : List (Nat × Nat) := []
  /-- One more than the last ring row of each page with INSPECT set that has ended in the baseline period. -/
  inspected : List Nat := []
  /-- Nozzles whose mask the analyser has queued (R454). -/
  queued : List Nat := []
  /-- Blocks of remote sources. -/
  blocks : List NhaBlock := []
  /-- By remote source, its present group. -/
  groups : List (Nat × NhaGroup) := []
  /-- By remote source: ring rows below this have had NHA_RWAIT since they passed its far line (R441). -/
  passed : List (Nat × Nat) := []
  /-- BSEQ of the next block, by 1024 x port + node (R458). -/
  bseqs : List (Nat × Nat) := []
  deriving DecidableEq, Repr


/-- One item of a Ripening run (R393). -/
structure CalItem where
  /-- The item code (Table 14.1). -/
  code : Nat
  /-- The head, or the channel of a SINCOS item. -/
  idx : Nat
  /-- The host has written a governed field (R405). -/
  ended : Bool := false
  /-- The head's link has left the states of R396 (Table 14.2). -/
  left : Bool := false
  /-- The step checks do not apply (R403). -/
  free : Bool := false
  deriving DecidableEq, Repr

/-- A Ripening run in progress (R398). -/
structure CalRun where
  /-- The items not yet ended. -/
  items : List CalItem := []
  /-- CAL_RUN started it. -/
  byCmd : Bool := false
  /-- The head of a forced run (R397). -/
  forced : Option Nat := none
  /-- The heads that it covers. -/
  heads : List Nat := []
  /-- The channels that it covers. -/
  chans : List Nat := []
  /-- The snapshot of the four readings of each head that it covers. -/
  temps : List (Nat × List Int) := []
  /-- Items rejected. -/
  rejected : Nat := 0
  /-- Items skipped. -/
  skipped : Nat := 0
  /-- Items overridden. -/
  overridden : Nat := 0
  /-- Heads with an accepted result. -/
  headsDone : List Nat := []
  /-- Channels with an accepted result. -/
  chansDone : List Nat := []
  /-- Channels skipped, which stay due. -/
  chansSkipped : List Nat := []
  deriving DecidableEq, Repr

/-- The last results computed for a head (R410), in both views. -/
structure CalView where
  /-- The computed fire tap. -/
  tap : Nat := 0
  /-- Its residual in 2 ps units. -/
  resid : Nat := 0
  /-- The computed phase tap. -/
  phase : Nat := 0
  /-- EYE. -/
  eye : Nat := 0
  /-- The largest trim computed. -/
  trim : Nat := 0
  /-- The nozzles that used RNOM. -/
  nominal : Nat := 0
  deriving DecidableEq, Repr

/-- What Ripening keeps beside its registers (chapter 14). -/
structure Cal where
  /-- The run in progress. -/
  run : Option CalRun := none
  /-- Heads whose forced run waits, in order. -/
  forced : List Nat := []
  /-- The results of heads. -/
  views : List (Nat × CalView) := []
  /-- The results of channels: PHASE and Q. -/
  chanViews : List (Nat × Nat × Nat) := []
  /-- The raw time before which no automatic run starts for a channel (R403). -/
  notBefore : List (Nat × Nat) := []
  /-- Heads whose results come from a measurement that ended with RESULT 2 (R401). -/
  measured : List Nat := []
  /-- Nozzles whose results a later measurement has written since, unless it ended with RESULT 2. -/
  spoiled : List (Nat × Bool) := []
  /-- Heads with no run since a measurement ended with RESULT 2 (R403). -/
  after : List Nat := []
  deriving DecidableEq, Repr


/-- One exposure of a frame group (R415 to R417). -/
structure CamExp where
  /-- Its Frame Start has come. -/
  started : Bool := false
  /-- Its frame has ended. -/
  ended : Bool := false
  /-- Lines received. -/
  lines : Nat := 0
  deriving DecidableEq, Repr

/-- A frame group in progress (R415, R422): from its first Frame Start until its last line has left the pipeline. -/
structure CamGroup where
  /-- FRAME. -/
  frame : Nat
  /-- The parameter set it uses (R435). -/
  set : List (Nat × Nat)
  /-- ISP_COMMITS of that set. -/
  setNo : Nat
  /-- CSI_FN. -/
  fn : Nat
  /-- FLAGS. -/
  flags : Nat := 0
  /-- FS_TIME. -/
  fs : Nat
  /-- FE_TIME, once a Frame End has passed. -/
  fe : Option Nat := none
  /-- Raw time of its first Frame Start. -/
  born : Nat
  /-- The trigger it answers. -/
  trig : Option CamTrig := none
  /-- Its exposures. -/
  exps : List CamExp
  /-- Lines in the FIFO: exposure, line and pixels, left-aligned to 16 bits. -/
  fifo : List (Nat × Nat × List Nat) := []
  /-- Exposure and line of what the pipeline went on without (R424). -/
  missing : List (Nat × Nat) := []
  /-- The merged lines so far, defects replaced (R423, R425). -/
  merged : List (List Nat) := []
  deriving DecidableEq, Repr

/-- A posted group that the analyser has still to take (R443). -/
structure CamPost where
  /-- FRAME. -/
  frame : Nat
  /-- FLAGS. -/
  flags : Nat
  /-- The parameter set it used. -/
  set : List (Nat × Nat)
  /-- Its slot. -/
  slot : Nat
  /-- The trigger it answers. -/
  trig : Option CamTrig
  /-- Raw time of its posting. -/
  at_ : Nat := 0
  /-- The slot has been rewritten (R432). -/
  late : Bool := false
  deriving DecidableEq, Repr

/-- What a camera port keeps beside its registers (chapter 15). -/
structure CamPort where
  /-- The active parameter set: the fields of the shadow set as they were taken, where they differ from reset (R434, R435). -/
  active : List (Nat × Nat) := []
  /-- ISP_COMMITS of the active set. -/
  setNo : Nat := 0
  /-- A set has been taken since PD_ISP last left OFF or NAP (R436). -/
  taken : Bool := false
  /-- The trigger list, oldest first (R419). -/
  trigs : List CamTrig := []
  /-- The groups in progress, oldest first. -/
  groups : List CamGroup := []
  /-- Dropped groups whose packets still arrive (R422). -/
  dropped : List CamGroup := []
  /-- FRAME of the next group. -/
  nextFrame : Nat := 0
  /-- POSTED (R432). -/
  posted : Nat := 0
  /-- Posted groups that the analyser has still to take, oldest first. -/
  waiting : List CamPost := []
  deriving DecidableEq, Repr

/-- CAM and ISP (chapter 15). -/
structure Cams where
  /-- By port. -/
  ports : List (Nat × CamPort) := []
  /-- The port that the pipeline served last (R421). -/
  turn : Nat := 3
  deriving DecidableEq, Repr

/-- What an axis keeps beside its registers (chapter 18). -/
structure Axis where
  /-- The phase accumulator (R495). -/
  phase : Nat := 0
  /-- The 10 ns advances already made in the present profile tick. -/
  done : Nat := 0
  /-- Profile ticks since the move began. -/
  ticks : Nat := 0
  /-- The peak velocity word of the move, and its AMAX and JMAX (R500, R501). -/
  peak : Nat := 0
  /-- AMAX of the move. -/
  amax : Nat := 1
  /-- JMAX of the move. -/
  jmax : Nat := 1
  /-- P at acceptance. -/
  origin : Int := 0
  /-- The move has a target: it is neither a run nor a homing. -/
  aimed : Bool := false
  /-- HOME_MAX and HOME_POS of a homing, and whether it seeks LIM_HI. -/
  home : Option (Nat × Int × Bool) := none
  /-- A stop waits for the profile tick, with its end reason (R508, R509). -/
  stop : Option Nat := none
  /-- The axis goes to OFF after the stop (R494). -/
  off : Bool := false
  /-- The limit ahead has tripped in this tick (R513). -/
  limit : Bool := false
  /-- The home switch has tripped in this tick. -/
  found : Bool := false
  /-- The opposite limit has tripped in this tick. -/
  wrong : Bool := false
  /-- The search has reached HOME_MAX in this tick. -/
  missed : Bool := false
  /-- AXIS_POS_LO as it was staged (R511). -/
  stage : Nat := 0
  /-- The duties of phases A and B in force, and whether each drives in the negative sense (R498). -/
  dutyA : Nat := 0
  /-- Duty of phase B. -/
  dutyB : Nat := 0
  /-- Phase A drives in the negative sense. -/
  negA : Bool := false
  /-- Phase B drives in the negative sense. -/
  negB : Bool := false
  deriving DecidableEq, Repr


/-- A fade in progress (R524): NOW at its start, TARGET, its ticks in all and those made. -/
structure Fade where
  /-- NOW at the start. -/
  start : Nat
  /-- TARGET. -/
  target : Nat
  /-- FADE_MS. -/
  n : Nat
  /-- Ticks made. -/
  i : Nat := 0
  deriving DecidableEq, Repr

/-- What a lamp channel keeps beside its registers (chapter 19). -/
structure Lamp where
  /-- The dither accumulator (R520). -/
  acc : Nat := 0
  /-- The on-time of the present period in 5 ns steps. -/
  on : Nat := 0
  /-- The compensation gain, in 2^-14 (R527). -/
  gain : Nat := 0x4000
  /-- The fade in progress. -/
  fade : Option Fade := none
  /-- A TARGET with FADE_MS 0, taken at the next period start. -/
  jump : Option Nat := none
  /-- Scheduled strobe windows by opening time: opening and closing time in corrected ns (R522). -/
  windows : List (Nat × Nat) := []
  /-- The closing time of the open window. -/
  openTo : Option Nat := none
  deriving DecidableEq, Repr

/-- LAMP (chapter 19). -/
structure Lamps where
  /-- By channel. -/
  chans : List (Nat × Lamp) := []
  /-- The curve in force, by point, where it differs from reset: CODE and TEMP (R529). -/
  curve : List (Nat × Int × Int) := []
  /-- The channel tables in force, by 16 x channel + point, where they differ from reset: TEMP and GAIN. -/
  comp : List (Nat × Int × Int) := []
  /-- LOAD has been accepted: the staged tables apply at the next evaluation. -/
  load : Bool := false
  /-- The row that the next matrix slot drives (R530). -/
  nextRow : Nat := 0
  /-- The row driven in the present slot, none with EN 0, and the levels of its 16 columns. -/
  row : Option (Nat × List Nat) := none
  deriving DecidableEq, Repr


/-- What leaves the device. -/
inductive Out where
  /-- A reply packet, by the host port or fabric port its command came in by (R103); on a host port, with the addresses it goes to and from and its transport SEQ, where they are known (R140, R143). -/
  | reply (via : Ingress) (p : Packet) (dest : Option (NetAddr × Nat))
  /-- The bytes that an I²C read at index 0x80 of the sideband returns: a reply, or none where only zeros come (R123). -/
  | sideband (bytes : List Byte)
  /-- An EVENT packet: port code 0 HOST0, 1 HOST1, 2 fabric (R132); addresses and SEQ as for a reply. -/
  | event (port : Nat) (p : Packet) (dest : Option (NetAddr × Nat))
  /-- A status datagram: port, stream, the stream's source it goes to, E, CREDIT and the missing ranges (R148). -/
  | status (port stream dest expect credit : Nat) (ranges : List (Nat × Nat))
  /-- An Ethernet frame without FCS: a launch, or an answer to ARP or ICMP. -/
  | frame (port : Nat) (bytes : List Byte)
  /-- An IEEE 1588 message with its departure or precise origin time in 2^-16 ns. -/
  | ptp (port : Nat) (kind : PtpKind) (seq : Nat) (stamp : Int)
  /-- A cell on a fabric lane, with its LSEQ unless NOREPLAY. -/
  | cell (port : Nat) (lseq : Option Nat) (bytes : List Byte)
  /-- An ACK block (Table 6.1). -/
  | ack (port lseq : Nat) (nak : Bool) (credit : Nat)
  /-- A TRAIN block. -/
  | train (port : Nat) (b : TrainBlock)
  /-- A link control frame without its CRC (Table 6.4). -/
  | lcf (port : Nat) (bytes : List Byte)
  /-- A SLEEP block (true), or IDLE blocks that end quiet (false). -/
  | sleep (port : Nat) (quiet : Bool)
  /-- Blocks on a head's forward lane, as 64-bit payloads (Tables 13.3 and 13.4). -/
  | head (port : Nat) (blocks : List Nat)
  deriving DecidableEq, Repr


/-- The whole block. -/
structure State where
  /-- The register fields that differ from reset, by bit address (Fld.key). -/
  regs : List (Nat × Nat) := []
  /-- The Vat, the nozzle table banks, DRAM and the Cave's scratch area, by byte address (Table 21.1). -/
  mem : List Host.Cell := []
  /-- The MRAM (R539), by byte. -/
  mram : List Host.Cell := []
  /-- The commands that wait to be taken, first in first out. -/
  pending : List Instr := []
  /-- What has left the device, newest first. -/
  tx : List Out := []
  /-- The number of free values drawn so far (Config.freeBits). The model's own. -/
  draws : Nat := 0
  /-- Power, wake and boot. -/
  pow : Power := {}
  /-- The images saved in the Cave, by domain: the RWC fields with their values (R69, R70). -/
  cave : List (Nat × List (Nat × Nat)) := []
  /-- The command path. -/
  cmd : Cmd := {}
  /-- Events. -/
  evt : Evt := {}
  /-- Shared time. -/
  time : Time := {}
  /-- The host ports. -/
  host : Hosts := {}
  /-- The fabric. -/
  fab : Fab := {}
  /-- The non-volatile store. -/
  nvm : Nvm := {}
  /-- The test access port. -/
  jtag : Jtag := {}
  /-- Raster ingest and the compressor. -/
  ing : Ingest := {}
  /-- The nozzle map. -/
  nmap : Nmap := {}
  /-- The fire grid. -/
  fire : Fire := {}
  /-- The head links. -/
  hl : Heads := {}
  /-- The redundant pair and the Hoop. -/
  pair : PairState := {}
  /-- The camera ports and the image pipeline. -/
  cam : Cams := {}
  /-- The axes. -/
  axes : List (Nat × Axis) := []
  /-- The lamps and the indicator matrix. -/
  lamp : Lamps := {}
  /-- Position feedback and the compare units. -/
  pos : Pos := {}
  /-- The DRAM controllers. -/
  dram : Dram := {}
  /-- DMA channels whose shadow set came with a reserved field set in descriptor bytes 0x30 to 0x3F (R247). -/
  dmaTails : List Nat := []
  /-- The nozzle-health analyser. -/
  nha : Nha := {}
  /-- Ripening. -/
  cal : Cal := {}
  deriving DecidableEq, Repr

/-- The block as power-on reset leaves it, before the rising edge of PORST_N: every field at its reset value, memory with nothing listed. -/
def State.reset : State := {}

end Sys2Proof.Machine
end

