-- ==== Sys2Proof/Machine/Ops.lean ====
section
/-! DEFINITION. The named operations over sparse maps, registers, memories, bits and bytes that every meaning is written with. -/

namespace Sys2Proof.Machine

/-! ### Sparse maps -/

/-- The value at a key: the first entry of that key, or the default. -/
def mapGet {α : Type} (d : α) : List (Nat × α) → Nat → α
  | [], _ => d
  | (k', v) :: m, k => if k' = k then v else mapGet d m k

/-- Put an entry at its place in rising order. -/
def mapPut {α : Type} (k : Nat) (v : α) : List (Nat × α) → List (Nat × α)
  | [] => [(k, v)]
  | (k', v') :: m =>
    if k' = k then (k, v) :: m
    else if k < k' then (k, v) :: (k', v') :: m
    else (k', v') :: mapPut k v m

/-- Remove every entry of a key. -/
def mapDel {α : Type} (k : Nat) (m : List (Nat × α)) : List (Nat × α) := m.filter fun e => e.1 != k

/-- Write a value: an entry equal to the default is removed, so that equal maps are equal data. -/
def mapSet {α : Type} [DecidableEq α] (d : α) (k : Nat) (v : α) (m : List (Nat × α)) : List (Nat × α) :=
  if v = d then mapDel k m else mapPut k v m

/-- The canonical form: keys strictly rising, and no entry equal to what an unlisted key reads as. -/
def mapWf {α : Type} [DecidableEq α] (d : α) : List (Nat × α) → Bool
  | [] => true
  | [(_, v)] => v ≠ d
  | (k, v) :: (k', v') :: m => v ≠ d && k < k' && mapWf d ((k', v') :: m)

/-! ### Bits -/

/-- Bits hi to lo of a number. -/
def bits (v hi lo : Nat) : Nat := v / 2 ^ lo % 2 ^ (hi + 1 - lo)

/-- One bit of a number. -/
def bit (v n : Nat) : Bool := v / 2 ^ n % 2 = 1

/-- A truth value as a bit. -/
def b2n (b : Bool) : Nat := if b then 1 else 0

/-- The n low bits of a number as a signed value (R15). -/
def sext (n : Nat) (v : Nat) : Int :=
  if v % 2 ^ n < 2 ^ (n - 1) then (v % 2 ^ n : Int) else (v % 2 ^ n : Int) - 2 ^ n

/-- The low n bits of an integer in two's complement (R15: a value assigned to a narrower variable keeps its low bits). -/
def wrap (n : Nat) (v : Int) : Nat := (v % 2 ^ n).toNat

/-- Arithmetic right shift (R15). -/
def asr (v : Int) (n : Nat) : Int := v / 2 ^ n

/-- Integer division that truncates toward zero (R15). -/
def tdiv (a b : Int) : Int := Int.tdiv a b

/-- The value nearest to v in lo to hi. -/
def clampI (v lo hi : Int) : Int := if v < lo then lo else if hi < v then hi else v

/-- Replace bits of v from bit off on by the w bits of x. -/
def insertBits (v off w x : Nat) : Nat :=
  v / 2 ^ (off + w) * 2 ^ (off + w) + x % 2 ^ w * 2 ^ off + v % 2 ^ off

/-- Bitwise not within 32 bits. -/
def not32 (v : Nat) : Nat := 0xFFFFFFFF - v % 2 ^ 32

/-! ### Bytes -/

/-- The value of bytes sent most significant first (R6). -/
def beVal : List Byte → Nat
  | [] => 0
  | b :: bs => b.toNat * 256 ^ bs.length + beVal bs

/-- n bytes of a value, most significant first (R6). -/
def beBytes : Nat → Nat → List Byte
  | 0, _ => []
  | n + 1, v => BitVec.ofNat 8 (v / 256 ^ n) :: beBytes n v

/-- The value of bytes stored little-endian (R6). -/
def leVal : List Byte → Nat
  | [] => 0
  | b :: bs => b.toNat + 256 * leVal bs

/-- n bytes of a value, least significant first (R6). -/
def leBytes : Nat → Nat → List Byte
  | 0, _ => []
  | n + 1, v => BitVec.ofNat 8 v :: leBytes n (v / 256)

/-- n bytes of a list from an offset, filled with zeros past its end. -/
def slice (bs : List Byte) (off n : Nat) : List Byte :=
  (List.range n).map fun i => bs.getD (off + i) 0

/-- The big-endian value of n bytes from an offset. -/
def beAt (bs : List Byte) (off n : Nat) : Nat := beVal (slice bs off n)

/-- The little-endian value of n bytes from an offset. -/
def leAt (bs : List Byte) (off n : Nat) : Nat := leVal (slice bs off n)

/-- Zero bytes. -/
def zeros (n : Nat) : List Byte := List.replicate n 0

/-- One step of a reflected CRC for one bit. -/
def crcBit (poly crc : Nat) : Nat := if crc % 2 = 1 then (crc / 2) ^^^ poly else crc / 2

/-- A reflected 32-bit CRC register after one byte. -/
def crcByte (poly crc : Nat) (b : Byte) : Nat :=
  (List.range 8).foldl (fun c _ => crcBit poly c) ((crc % 2 ^ 32) ^^^ b.toNat)

/-- A reflected 32-bit CRC register after bytes. -/
def crcRun (poly crc : Nat) (bs : List Byte) : Nat := bs.foldl (crcByte poly) crc

/-- CRC-32C (R101): polynomial 0x1EDC6F41 reflected, initial value and final exclusive-OR 0xFFFFFFFF. -/
def crc32c (bs : List Byte) : Nat := crcRun 0x82F63B78 0xFFFFFFFF bs ^^^ 0xFFFFFFFF

/-- CRC-32 of IEEE 802.3 (Table 20.1), which is also the Ethernet FCS. -/
def crc32 (bs : List Byte) : Nat := crcRun 0xEDB88320 0xFFFFFFFF bs ^^^ 0xFFFFFFFF

/-- One byte into the CRC-16/CCITT register (Table 20.1, R355): polynomial 0x1021, most significant bit first. -/
def crc16Byte (crc : Nat) (b : Byte) : Nat :=
  (List.range 8).foldl (fun c _ => if bit c 15 then (c * 2 % 65536) ^^^ 0x1021 else c * 2 % 65536) ((crc % 65536) ^^^ (b.toNat * 256))

/-- CRC-16/CCITT with initial value 0xFFFF. -/
def crc16 (bs : List Byte) : Nat := bs.foldl crc16Byte 0xFFFF

/-! ### Registers -/

/-- The value of a field. -/
def State.get (s : State) (F : Fld) (i : Nat := 0) (j : Nat := 0) : Nat :=
  mapGet (F.rst i j) s.regs (F.key i j)

/-- Write a field; it keeps its low bits. -/
def State.put (s : State) (F : Fld) (v : Nat) (i : Nat := 0) (j : Nat := 0) : State :=
  { s with regs := mapSet (F.rst i j) (F.key i j) (v % 2 ^ F.len) s.regs }

/-- A one-bit field as a truth value. -/
def State.is (s : State) (F : Fld) (i : Nat := 0) (j : Nat := 0) : Bool := s.get F i j ≠ 0

/-- A field as a signed value. -/
def State.getS (s : State) (F : Fld) (i : Nat := 0) (j : Nat := 0) : Int := sext F.len (s.get F i j)

/-- Write a field from an integer, in two's complement. -/
def State.putS (s : State) (F : Fld) (v : Int) (i : Nat := 0) (j : Nat := 0) : State := s.put F (wrap F.len v) i j

/-- Write a one-bit field. -/
def State.putB (s : State) (F : Fld) (b : Bool) (i : Nat := 0) (j : Nat := 0) : State := s.put F (b2n b) i j

/-- A field with a number added, held at its largest value. -/
def State.add (s : State) (F : Fld) (n : Nat) (i : Nat := 0) (j : Nat := 0) : State :=
  s.put F (min (s.get F i j + n) (2 ^ F.len - 1)) i j

/-- Advance a saturating counter by one. -/
def State.count (s : State) (F : Fld) (i : Nat := 0) (j : Nat := 0) : State := s.add F 1 i j

/-- The bit of a mask field that belongs to index n. -/
def State.bitOf (s : State) (F : Fld) (n : Nat) : Bool := bit (s.get F) n

/-- Set or clear one bit of a mask field. -/
def State.putBit (s : State) (F : Fld) (n : Nat) (b : Bool) : State :=
  s.put F (insertBits (s.get F) n 1 (b2n b))

/-- Draw a free value of n bits (notes/assumptions/1.md). -/
def State.draw (s : State) (n : Nat) : Nat × State :=
  ((Config.freeBits s.draws).toNat % 2 ^ n, { s with draws := s.draws + 1 })

/-- Let something leave the device. -/
def State.emit (s : State) (o : Out) : State := { s with tx := o :: s.tx }

/-! ### Memories -/

/-- A memory in canonical form: addresses strictly rising, no entry equal to zero, which is what an unlisted byte reads as (notes/assumptions/3.md). -/
abbrev Memory.wf (m : List Host.Cell) : Bool := mapWf (0 : Byte) m

/-- Region 9 of the Vat and region 10 are two views of one storage (R25): the place where a byte is kept. -/
def memKey (a : Nat) : Nat :=
  if 0x0101200000 ≤ a ∧ a < 0x0101400000 then a + 0x200000 else a

/-- Read one byte of the address space. -/
def State.byte (s : State) (a : Nat) : Byte := mapGet 0 s.mem (memKey a)

/-- Write one byte of the address space. -/
def State.setByte (s : State) (a : Nat) (b : Byte) : State := { s with mem := mapSet 0 (memKey a) b s.mem }

/-- Read n bytes from an address. -/
def State.bytes (s : State) (a n : Nat) : List Byte := (List.range n).map fun i => s.byte (a + i)

/-- Write bytes in ascending address order. -/
def State.setBytes (s : State) (a : Nat) : List Byte → State
  | [] => s
  | b :: bs => (s.setByte a b).setBytes (a + 1) bs

/-- Read n bytes little-endian. -/
def State.le (s : State) (a n : Nat) : Nat := leVal (s.bytes a n)

/-- Read one byte of the MRAM. -/
def State.mramByte (s : State) (a : Nat) : Byte := mapGet 0 s.mram a

/-- Read n bytes of the MRAM. -/
def State.mramBytes (s : State) (a n : Nat) : List Byte := (List.range n).map fun i => s.mramByte (a + i)

/-- Read n bytes of the MRAM little-endian. -/
def State.mramLe (s : State) (a n : Nat) : Nat := leVal (s.mramBytes a n)

/-- Write bytes of the MRAM. -/
def mramPut (m : List Host.Cell) (a : Nat) : List Byte → List Host.Cell
  | [] => m
  | b :: bs => mramPut (mapSet 0 a b m) (a + 1) bs

/-- Forget the bytes of an address range: they read as bytes that nothing has written. -/
def State.forget (s : State) (lo hi : Nat) : State :=
  { s with mem := s.mem.filter fun e => e.1 < lo || hi ≤ e.1 }

/-! ### Lists -/

/-- The first element with a property, with its place. -/
def findAt {α : Type} (p : α → Bool) : List α → Nat → Option (Nat × α)
  | [], _ => none
  | a :: l, n => if p a then some (n, a) else findAt p l (n + 1)

/-- Run a step for each element of a list. -/
def each {α : Type} (f : α → State → State) : List α → State → State
  | [], s => s
  | a :: l, s => each f l (f a s)

/-- Run a step only where a condition holds. -/
def onlyIf (c : Bool) (f : State → State) (s : State) : State := if c then f s else s

/-- Integer square root by halving, with the number of bits as fuel. -/
def isqrtAux : Nat → Nat → Nat → Nat
  | 0, _, r => r
  | n + 1, v, r => let c := r + 2 ^ n; isqrtAux n v (if c * c ≤ v then c else r)

/-- The integer square root of a number below 2^128. -/
def isqrt (v : Nat) : Nat := isqrtAux 64 v 0

end Sys2Proof.Machine
end

