-- ==== Sys2Proof/Machine/Domain.lean ====
section
/-! DEFINITION. Power domains as the other files need them: their states, the domain that holds a register or a memory byte, and the block that owns an address (Tables 1.2, 3.1, 4.9 and 21.1). -/

namespace Sys2Proof.Machine

/-- The state of a domain (Table 3.6): 0 OFF, 1 NAP, 2 ON, 3 WAKING. -/
def State.pd (s : State) (d : Nat) : Nat := s.get AON_PD_STATE.STATE d

/-- The domain is ON. -/
def State.on (s : State) (d : Nat) : Bool := s.pd d = 2

/-- Set the state of a domain. -/
def State.setPd (s : State) (d v : Nat) : State := s.put AON_PD_STATE.STATE v d

/-- The rail group of a domain (Table 3.1); 4 stands for always on. -/
def railGroup (d : Nat) : Nat :=
  if d = 0 then 4
  else if d = 4 ∨ d = 5 then 2
  else if 6 ≤ d ∧ d ≤ 15 then 1
  else 0

/-- The domains of a rail group that its loss takes down (R42, R83). Groups 0 and 3 carry every domain that runs from a PLL. -/
def groupDomains (g : Nat) : List Nat :=
  if g = 1 then [6, 7, 8, 9, 10, 11, 12, 13, 14, 15]
  else if g = 2 then [4, 5]
  else [1, 2, 3, 4, 5, 6, 7, 8, 9, 10, 11, 12, 13, 14, 15, 16, 17]

/-- The domain that holds a register (Table 1.2), by byte address. -/
def regDomain (a : Nat) : Nat :=
  if a < 0x100000 then
    -- the AON window (R78), the sensors' readings (R84), and ACC_CTL.LOCK, which only power-on reset clears (Table 4.10)
    if (0x100 ≤ a ∧ a < 0x118) ∨ a = 0x40 ∨ a = 0x10000 then 0 else 1
  else if a < 0x200000 then 6
  else if a < 0x300000 then 0
  else if a < 0x400000 then 7
  else if a < 0x600000 then 2
  else if a < 0x700000 then
    if 0x600100 ≤ a ∧ a < 0x600200 then 1 else if a < 0x608000 then 4 else 5
  else if a < 0x800000 then 17
  else if a < 0xA00000 then 2
  else if a < 0xB00000 then if a < 0xA10000 then 8 + (a - 0xA00000) / 0x2000 else 1
  else if a < 0xC00000 then 1
  else if a < 0xD00000 then 16
  else if a < 0xE00000 then if 0xD10000 ≤ a then 3 else 2
  else if a < 0xF00000 then if a < 0xE00100 then 1 else 0
  else if a < 0x1300000 then 17
  else 0

/-- The block of an address (Table 4.9 and Table 21.1), for register windows. -/
def regBlock (a : Nat) : Option Nat :=
  if a < 0x10000 then some 0
  else if a < 0x20000 then some 1
  else if a < 0x100000 then some 2
  else if a < 0x200000 then some 3
  else if a < 0x300000 then some 4
  else if a < 0x400000 then some 5
  else if a < 0x500000 then some 6
  else if a < 0x600000 then some 7
  else if a < 0x700000 then some 8
  else if a < 0x800000 then some 19
  else if a < 0x900000 then some 9
  else if a < 0xA00000 then some 11
  else if a < 0xB00000 then some 12
  else if a < 0xC00000 then some 13
  else if a < 0xD00000 then some 14
  else if a < 0xE00000 then some 15
  else if a < 0xF00000 then some 16
  else if a < 0x1000000 then some 17
  else if a < 0x1100000 then some 18
  else if a < 0x1200000 then some 10
  else if a < 0x1300000 then some 20
  else if a < 0x1350000 then some 21
  else none

/-- The register words of a block. -/
def blockRows (b : Nat) : List RegRow :=
  match b with
  | 0 => rowsSYS | 1 => rowsACC | 2 => rowsEVT | 3 => rowsHOST | 4 => rowsTIME | 5 => rowsFAB
  | 6 => rowsCODEC | 7 => rowsDMA | 8 => rowsDRAM | 9 => rowsNMAP | 10 => rowsCHK | 11 => rowsFIRE
  | 12 => rowsHL | 13 => rowsCAL | 14 => rowsCAM | 15 => rowsNHA | 16 => rowsPAIR | 17 => rowsAXIS
  | 18 => rowsLAMP | 19 => rowsPOS | 20 => rowsNVM | 21 => rowsCAVE
  | _ => []

/-- The indices at which a row's words hold an address, if they do. -/
def RegRow.at? (r : RegRow) (a : Nat) : Option (Nat × Nat) :=
  if a < r.base then none
  else
    let d := a - r.base
    let i := if r.s1 = 0 then 0 else d / r.s1
    let e := d - r.s1 * i
    let j := if r.s2 = 0 then 0 else e / r.s2
    if i < r.n1 ∧ j < r.n2 ∧ r.s1 * i + r.s2 * j = d then some (i, j) else none

/-- The first row of a list that holds an address. -/
def rowIn (a : Nat) : List RegRow → Option (RegRow × Nat × Nat)
  | [] => none
  | r :: rs => match r.at? a with
    | some (i, j) => some (r, i, j)
    | none => rowIn a rs

/-- The register word at an address: R9's assigned offsets. -/
def rowAt (a : Nat) : Option (RegRow × Nat × Nat) :=
  match regBlock a with
  | some b => rowIn a (blockRows b)
  | none => none

/-- The access code of the field whose bit address is k. -/
def accOf (k : Nat) : Acc :=
  match rowAt (k / 32 * 4) with
  | some (r, i, j) =>
    match r.slots.find? fun t => t.fld.key i j = k with
    | some t => t.acc
    | none => .ro
  | none => .ro

/-- The bits that a slot shows, in their place in the word. -/
def Slot.value (t : Slot) (s : State) (i j : Nat) : Nat :=
  s.get t.fld i j / 2 ^ t.off % 2 ^ (t.hi + 1 - t.lo) * 2 ^ t.lo

/-- The word that a row's stored fields make; reserved fields read 0 (R8) and WO fields 0 (Table 0.6). -/
def RegRow.word (r : RegRow) (s : State) (i j : Nat) : Nat :=
  r.slots.foldl (fun v t => if t.acc = .wo then v else v + t.value s i j) 0

/-- The stored fields of the register word at an address. -/
def State.word (s : State) (a : Nat) : Nat :=
  match rowAt a with
  | some (r, i, j) => r.word s i j
  | none => 0

/-- The field of an array lies at bit address k. -/
def Fld.hasKey (F : Fld) (n k : Nat) : Bool :=
  F.at0 ≤ k && (k - F.at0) % max 1 F.s1 = 0 && (k - F.at0) / max 1 F.s1 < n

/-- Read-only fields that their rules keep in the Cave beside the RWC fields: what training gave (R240 to R242), LIVE, VALID and the floor of the waveform banks (R361). -/
def keptFields : List (Fld × Nat) :=
  [(DRAM_STATUS.TRAIN_TEMP, 2), (DRAM_STATUS.RANKS, 2), (DRAM_STATUS.DENSITY, 2), (DRAM_STATUS.DUE, 2), (DRAM_STATUS.STATE, 2),
   (HL_WF_STATE.FLOOR, 64), (HL_WF_STATE.VALID, 64), (HL_WF_STATE.LIVE, 64)]

/-- The field at a bit address is saved to the Cave (Table 0.6). -/
def keptKey (k : Nat) : Bool := accOf k = .rwc || keptFields.any fun e => e.1.hasKey e.2 k

/-- The nozzle map and the analyser, whose state NAP keeps (R313, R456), beside the Cave's fields. -/
def napKey (k : Nat) : Bool :=
  let a := k / 8
  (0x800000 ≤ a && a < 0x900000) || (0xD00000 ≤ a && a < 0xD10000)

/-- Take the registers of a domain to their reset values (R13). -/
def State.dropRegs (s : State) (d : Nat) : State :=
  { s with regs := s.regs.filter fun e => regDomain (e.1 / 8) ≠ d }

/-- The RWC fields of a domain as they stand (R67, R69). -/
def State.rwcOf (s : State) (d : Nat) : List (Nat × Nat) :=
  s.regs.filter fun e => regDomain (e.1 / 8) = d && keptKey e.1

/-- What a domain keeps through NAP. -/
def State.napOf (s : State) (d : Nat) : List (Nat × Nat) :=
  s.regs.filter fun e => regDomain (e.1 / 8) = d && (keptKey e.1 || napKey e.1)

end Sys2Proof.Machine
end

