-- ==== Sys2Proof/Machine/Clock.lean ====
section
/-! DEFINITION. Corrected time (R152) and the 48-bit targets that are judged against it (R165, R166). -/

namespace Sys2Proof.Machine

/-- The offset in 2^-16 ns (R152). -/
def State.offsetQ (s : State) : Int := s.getS TIME_OFFSET.OFFSET * 65536 + s.get TIME_OFFSET_FRAC.FRAC

/-- Set the offset in 2^-16 ns, an s80. -/
def State.setOffsetQ (s : State) (v : Int) : State :=
  (s.putS TIME_OFFSET.OFFSET (asr v 16)).putS TIME_OFFSET_FRAC.FRAC v

/-- Corrected time in 2^-16 ns at a raw count (R152). -/
def State.correctedQ (s : State) (raw : Nat) : Int :=
  sext 80 (wrap 80 ((raw : Int) * 65536 + asr ((raw : Int) * s.getS TIME_RATE.RATE) 24 + s.offsetQ))

/-- Corrected time now, in 2^-16 ns. -/
def State.nowQ (s : State) : Int := s.correctedQ s.time.raw

/-- Corrected time now, in whole ns (u64). -/
def State.now (s : State) : Nat := wrap 64 (asr s.nowQ 16)

/-- The signed 48-bit difference of a target minus corrected time (R165). -/
def State.until48 (s : State) (target : Nat) : Int := sext 48 (wrap 48 ((target : Int) - s.now))

/-- R165: a 48-bit target is reached when the difference is 0 or less. -/
def State.reached48 (s : State) (target : Nat) : Bool := s.until48 target ≤ 0

end Sys2Proof.Machine
end

