-- ==== Sys2Proof/Machine/NvmQueue.lean ====
section
/-! DEFINITION. The device's own MRAM records and the queue their page writes wait in (R540, R541). -/

namespace Sys2Proof.Machine

/-- Queue a device page write, or drop it and count it when 64 are queued (R541). -/
def nvmPush (j : NvmJob) (s : State) : State :=
  if s.nvm.queue.length ≥ 64 then s.count NVM_DROPPED.COUNT
  else
    let s := { s with nvm := { s.nvm with queue := s.nvm.queue ++ [j] } }
    s.put NVM_STATUS.QUEUE s.nvm.queue.length

/-- There is room in the queue. -/
def nvmRoom (s : State) : Bool := s.nvm.queue.length < 64

/-- A write of bytes at a byte address of the MRAM, as a page write. -/
def nvmJobAt (a : Nat) (bs : List Byte) : NvmJob := { page := a / 64, off := a % 64, bytes := bs }

/-- The device areas with rings and records (Table 20.3): first byte, bytes for each record, number of records.
Area 0 is the mask history, 1 the head calibration, 2 the channel calibration, 3 the pair state, 4 the fabric taps, 5 the fault log. -/
def nvmArea (n : Nat) : Nat × Nat × Nat :=
  match n with
  | 0 => (2304 * 64, 16, 16384)
  | 1 => (6400 * 64, 32, 256)
  | 2 => (6528 * 64, 32, 4)
  | 3 => (6656 * 64, 16, 64)
  | 4 => (6672 * 64, 16, 64)
  | _ => (256 * 64, 32, 4096)

/-- The highest SEQ that an area's records hold (R540): records with nothing listed are empty. -/
def nvmHighest (s : State) (n : Nat) : Nat :=
  let (b, w, c) := nvmArea n
  s.mram.foldl (fun m e =>
    if b ≤ e.1 ∧ e.1 < b + w * c then max m (s.mramLe (b + (e.1 - b) / w * w) 4) else m) 0

/-- SEQ of the next record of an area; NVM_LOG_NEXT shows that of the fault log. -/
def nvmNext (s : State) (n : Nat) : Nat := max 1 (mapGet 1 s.nvm.seqs n)

/-- Note that an area's next record has a SEQ. -/
def nvmSetNext (n v : Nat) (s : State) : State :=
  { s with nvm := { s.nvm with seqs := mapSet 1 n v s.nvm.seqs } }

/-- The MRAM as it will stand when every queued device write has been made. -/
def nvmAhead (s : State) : List Host.Cell :=
  s.nvm.queue.foldl (fun m j => mramPut m (j.page * 64 + j.off) j.bytes) s.mram

/-- Find the SEQ of every ring afresh (R540, R543), past what is still queued. -/
def nvmScan (s : State) : State :=
  let t : State := { s with mram := nvmAhead s }
  each (fun n s => nvmSetNext n (nvmHighest t n + 1) s) [0, 1, 2, 3, 4, 5] s

/-- Write a fault log entry (Table 20.4): SOURCE is 0xFF for a boot entry. -/
def faultLog (source time info : Nat) (s : State) : State :=
  if nvmRoom s then
    let q := nvmNext s 5
    let bs := leBytes 4 q ++ leBytes 6 time ++ leBytes 1 source ++ leBytes 1 s.nvm.boots ++ leBytes 4 info
      ++ leBytes 4 (s.word 0x100) ++ leBytes 4 (s.get FIRE_NUM.K) ++ leBytes 2 (s.get NMAP_STATUS.QUEUE)
      ++ leBytes 2 (s.get FIRE_STATUS.PAGE) ++ zeros 4
    nvmSetNext 5 (q + 1) (nvmPush (nvmJobAt (256 * 64 + (q - 1) % 4096 * 32) bs) s)
  else s.count NVM_DROPPED.COUNT

/-- Write a mask history entry (R541): KIND 1 SET or 2 CLEAR. An entry that overwrites an older one sets HIST_WRAP (R540). -/
def maskHistory (serial nozzle kind msrc : Nat) (s : State) : State :=
  if nvmRoom s then
    let q := nvmNext s 0
    let bs := leBytes 4 q ++ leBytes 8 serial ++ leBytes 2 nozzle ++ leBytes 1 kind ++ leBytes 1 (msrc % 4)
    let s := nvmSetNext 0 (q + 1) (nvmPush (nvmJobAt (2304 * 64 + (q - 1) % 16384 * 16) bs) s)
    if q > 16384 then s.put NVM_STATUS.HIST_WRAP 1 else s
  else s.count NVM_DROPPED.COUNT

/-- Write a pair state entry (Table 20.4). -/
def pairEntry (role cause : Nat) (s : State) : State :=
  if nvmRoom s then
    let q := nvmNext s 3
    let bs := leBytes 4 q ++ leBytes 6 s.now ++ leBytes 1 role ++ leBytes 1 cause ++ leBytes 4 (s.get PAIR_LOST_ROWS.COUNT)
    nvmSetNext 3 (q + 1) (nvmPush (nvmJobAt (6656 * 64 + (q - 1) % 64 * 16) bs) s)
  else s.count NVM_DROPPED.COUNT

/-- The record of an area to replace: the first whose key bytes match, else an empty one, else the one with the lowest SEQ (R541). -/
def nvmVictim (s : State) (n : Nat) (keyOf : Nat → Bool) : Nat :=
  let (b, w, c) := nvmArea n
  let m := nvmAhead s
  let seq (r : Nat) := leVal ((List.range 4).map fun i => mapGet (0 : Byte) m (b + w * r + i))
  match (List.range c).find? fun r => seq r ≠ 0 && keyOf r with
  | some r => r
  | none => match (List.range c).find? fun r => seq r = 0 with
    | some r => r
    | none => (List.range c).foldl (fun best r => if seq r < seq best then r else best) 0

/-- Read n bytes of an area's record from the MRAM as it will stand. -/
def nvmRecord (s : State) (n r off len : Nat) : Nat :=
  let (b, w, _) := nvmArea n
  let m := nvmAhead s
  leVal ((List.range len).map fun i => mapGet (0 : Byte) m (b + w * r + off + i))

/-- Write a record of a replacing area: its SEQ followed by bytes. -/
def nvmReplace (n : Nat) (keyOf : Nat → Bool) (body : List Byte) (s : State) : State :=
  if nvmRoom s then
    let q := nvmNext s n
    let (b, w, _) := nvmArea n
    let r := nvmVictim s n keyOf
    nvmSetNext n (q + 1) (nvmPush (nvmJobAt (b + w * r) (leBytes 4 q ++ body)) s)
  else s.count NVM_DROPPED.COUNT

end Sys2Proof.Machine
end

