-- ==== Sys2Proof/Machine/FabTx.lean ====
section
/-! DEFINITION. How a fabric port sends cells: credit, link sequence and the replay store (R180 to R183, R185, R186, R192). -/

namespace Sys2Proof.Machine

/-- What a fabric port keeps. -/
def State.fabPort (s : State) (k : Nat) : FabPort := mapGet {} s.fab.ports k

/-- Replace what a fabric port keeps. -/
def State.setFabPort (s : State) (k : Nat) (p : FabPort) : State :=
  { s with fab := { s.fab with ports := mapSet {} k p s.fab.ports } }

/-- A fabric port is ACTIVE (Table 6.2). -/
def fabActive (s : State) (k : Nat) : Bool := s.get FAB_STATUS.STATE k = 5

/-- The node ID used at step 3 of Table 4.5. It outlives PD_FAB in NAP. -/
def State.node (s : State) : Nat := s.cmd.node

/-- The queue of a class under PRIORITY (R186); without it all classes share one queue. -/
def fabQueueOf (features cls : Nat) : Nat :=
  if bit features 2 then
    (if cls = 5 ∨ cls = 6 then 1 else if cls = 1 ∨ cls = 2 ∨ cls = 3 then 2 else 3)
  else 1

/-- Put a cell behind every queued cell of its own or a higher priority (R186). -/
def fabInsert (q : Nat) (c : List Byte) : List (Nat × List Byte) → List (Nat × List Byte)
  | [] => [(q, c)]
  | e :: l => if q < e.1 then (q, c) :: e :: l else e :: fabInsert q c l

/-- The class of a cell (Table 6.6). -/
def cellClass (c : List Byte) : Nat := beAt c 0 1 / 16

/-- A cell needs no credit: TIME and TRIGGER (R182). -/
def cellFree (c : List Byte) : Bool := cellClass c = 5 || cellClass c = 6

/-- Send one cell under the next LSEQ and hold it for replay (R180). -/
def fabSendNow (k : Nat) (c : List Byte) (s : State) : State :=
  let p := s.fabPort k
  let p' := { p with
    txNext := (p.txNext + 1) % 4096
    unacked := p.unacked ++ [{ lseq := p.txNext, bytes := c }]
    credit := if cellFree c then p.credit else p.credit - 1 }
  (s.setFabPort k p').emit (.cell k (some p.txNext) c)

/-- The port may send a cell now: ACTIVE, fewer than 64 unacknowledged, and a credit unless the class needs none (R180, R182). -/
def fabMaySend (s : State) (k : Nat) (c : List Byte) : Bool :=
  let p := s.fabPort k
  fabActive s k && p.unacked.length < 64 && (cellFree c || p.credit > 0)

/-- Send queued cells in order for as long as the port may; the number of queued cells is the fuel. -/
def fabDrain : Nat → Nat → State → State
  | 0, _, s => s
  | n + 1, k, s =>
    match (s.fabPort k).queue with
    | [] => s
    | (_, c) :: rest =>
      if fabMaySend s k c then
        fabDrain n k (fabSendNow k c (s.setFabPort k { s.fabPort k with queue := rest }))
      else s

/-- Something to send ends quiet at once (R183). -/
def fabEndQuiet (k : Nat) (s : State) : State :=
  if s.is FAB_STATUS.TX_SLEEP k then (s.put FAB_STATUS.TX_SLEEP 0 k).emit (.sleep k false) else s

/-- Give a cell to a port for sending. TIME cells go NOREPLAY (R180). -/
def fabPush (k : Nat) (c : List Byte) (s : State) : State :=
  let s := fabEndQuiet k s
  if cellClass c = 5 then s.emit (.cell k none c)
  else
    let p := s.fabPort k
    let s := s.setFabPort k { p with queue := fabInsert (fabQueueOf p.features (cellClass c)) c p.queue }
    fabDrain (s.fabPort k).queue.length k s

/-- The routing table entry of a node ID (R192, R204). -/
def fabRoute (s : State) (dst : Nat) : Nat := s.get FAB_ROUTE.CODE dst

/-- The next SEQ of a destination and class (Table 6.6). -/
def fabSeq (s : State) (dst cls : Nat) : Nat := mapGet 0 s.fab.seqs (16 * dst + cls)

/-- Advance it. -/
def fabSeqStep (dst cls : Nat) (s : State) : State :=
  { s with fab := { s.fab with seqs := mapSet 0 (16 * dst + cls) ((fabSeq s dst cls + 1) % 65536) s.fab.seqs } }

/-- A cell of this node (Table 6.6). -/
def mkCell (cls dst src hops seq : Nat) (payload : List Byte) : List Byte :=
  beBytes 1 (cls * 16 + dst / 256 % 4) ++ beBytes 1 dst ++ beBytes 1 (src / 256 % 4) ++ beBytes 1 src
    ++ beBytes 1 hops ++ beBytes 1 payload.length ++ beBytes 2 seq ++ payload

/-- The port by which this node would send a cell of a size to a node: none without a route, with the port not ACTIVE, or with the cell too large (R194). -/
def fabOutPort (s : State) (dst size : Nat) : Option Nat :=
  let k := fabRoute s dst
  if k < 8 ∧ fabActive s k ∧ size ≤ (s.fabPort k).maxCell then some k else none

/-- Send a cell of this node's own to another node. Where no port can take it, nothing is sent. -/
def fabOriginate (cls dst : Nat) (payload : List Byte) (s : State) : State :=
  let c := mkCell cls dst s.node 63 (fabSeq s dst cls) payload
  let s' := fabSeqStep dst cls s
  match fabOutPort s dst c.length with
  | some k => fabPush k c s'
  | none => s'

end Sys2Proof.Machine
end

