-- ==== Sys2Proof/Machine/PacketBytes.lean ====
section
/-! DEFINITION. The bytes of a packet (R100 to R102): encoding, and taking apart. -/

namespace Sys2Proof.Machine

/-- Byte 3 of the header: REPLY, WAKE, NOREPLY, ORDERED and the reserved bits (Table 4.1). -/
def Packet.flags (p : Packet) : Nat :=
  b2n p.reply * 128 + b2n p.hdr.wake * 64 + b2n p.hdr.noreply * 32 + b2n p.hdr.ordered * 16 + p.hdr.rsvFlags.toNat

/-- The 16 header bytes (Table 4.1). -/
def Packet.header (p : Packet) : List Byte :=
  [BitVec.ofNat 8 (p.hdr.vmaj.toNat * 16 + p.hdr.vmin.toNat), p.opcode, p.hdr.tag, BitVec.ofNat 8 p.flags]
    ++ beBytes 2 (p.hdr.rsvSrc.toNat * 1024 + p.hdr.src.toNat) ++ beBytes 2 (p.hdr.rsvDst.toNat * 1024 + p.hdr.dst.toNat)
    ++ beBytes 2 p.params.length ++ [p.hdr.alive, p.hdr.status] ++ beBytes 4 p.hdr.cookie.toNat

/-- The packet as it is carried: header, parameters, CRC-32C (R100, R101). -/
def Packet.bytes (p : Packet) : List Byte :=
  p.header ++ p.params ++ beBytes 4 (crc32c (p.header ++ p.params))

/-- Step 1 of Table 4.5: the carrier holds exactly 20 + LENGTH bytes (R102) and the CRC is right (R101). -/
def carrierOk (bs : List Byte) : Bool :=
  20 ≤ bs.length && bs.length = 20 + beAt bs 8 2
    && beVal (bs.drop (bs.length - 4)) = crc32c (bs.take (bs.length - 4))

/-- The packet that a carrier's bytes hold, read by Table 4.1. -/
def Packet.ofBytes (bs : List Byte) : Packet :=
  let f := (bs.getD 3 0).toNat
  { opcode := bs.getD 1 0
    reply := bit f 7
    hdr :=
      { vmaj := BitVec.ofNat 4 ((bs.getD 0 0).toNat / 16), vmin := BitVec.ofNat 4 (bs.getD 0 0).toNat
        tag := bs.getD 2 0, wake := bit f 6, noreply := bit f 5, ordered := bit f 4, rsvFlags := BitVec.ofNat 4 f
        rsvSrc := BitVec.ofNat 6 (beAt bs 4 2 / 1024), src := BitVec.ofNat 10 (beAt bs 4 2)
        rsvDst := BitVec.ofNat 6 (beAt bs 6 2 / 1024), dst := BitVec.ofNat 10 (beAt bs 6 2)
        alive := bs.getD 10 0, status := bs.getD 11 0, cookie := BitVec.ofNat 32 (beAt bs 12 4) }
    params := (bs.drop 16).take (bs.length - 20) }

/-- Take a packet from its carrier; none where step 1 of Table 4.5 fails. -/
def Packet.parse (bs : List Byte) : Option Packet :=
  if carrierOk bs then some (Packet.ofBytes bs) else none

end Sys2Proof.Machine
end

