-- ==== Sys2Proof/Machine/Events.lean ====
section
/-! DEFINITION. Raising events: PENDING, counts, records, subscribers and the sources held while EVT is off (R129 to R133, R551). -/

namespace Sys2Proof.Machine

/-- EVT runs: PD_CORE is on, its logic step complete (R551). -/
def evtOn (s : State) : Bool := s.on 1

/-- An ingress as part of an endpoint's key (R114). -/
def Ingress.code : Ingress → Nat
  | .host p => p.val
  | .fab k => 2 + k.val
  | .sideband => 10

/-- The key of a source endpoint: the pair of the ingress and SRC (R114). -/
def endpointKey (ingress src : Nat) : Nat := 1024 * ingress + src

/-- What is kept for an endpoint. -/
def State.endpoint (s : State) (e : Nat) : Endpoint := mapGet {} s.cmd.endpoints e

/-- The ingress code of the endpoint formed by a subscriber slot's PORT and NODE (R132); on the fabric, the port that leads to the node. -/
def slotIngress (s : State) (n : Nat) : Nat :=
  let p := s.get EVT_SUB_CFG.PORT n
  if p = 2 then 2 + fabRoute s (s.get EVT_SUB_CFG.NODE n) else p

/-- The endpoint of a subscriber slot. -/
def slotEndpoint (s : State) (n : Nat) : Endpoint :=
  s.endpoint (endpointKey (slotIngress s n) (s.get EVT_SUB_CFG.NODE n))

/-- The bytes of an event record (Table 4.14). -/
def EvtRecord.bytes (r : EvtRecord) : List Byte :=
  beBytes 1 r.source ++ beBytes 1 r.occur ++ zeros 2 ++ beBytes 8 r.time ++ beBytes 4 r.info

/-- The EVENT packet of a slot that carries records (R132). -/
def eventPacket (s : State) (n : Nat) (rs : List EvtRecord) : Packet :=
  let v := (slotEndpoint s n).version
  { opcode := 0x7F
    hdr := { vmaj := BitVec.ofNat 4 (v / 16), vmin := BitVec.ofNat 4 v, tag := 0, noreply := true
             src := BitVec.ofNat 10 s.node, dst := BitVec.ofNat 10 (s.get EVT_SUB_CFG.NODE n)
             alive := BitVec.ofNat 8 (mapGet 0 s.evt.alives n), cookie := 0 }
    params := beBytes 2 (mapGet 0 s.evt.seqs n) ++ beBytes 1 rs.length ++ zeros 1 ++ (rs.map EvtRecord.bytes).flatten }

/-- The slot's port can send (R133, R140): LINK and a recorded address on a host port, a usable route on the fabric. -/
def slotCanSend (s : State) (n size : Nat) : Bool :=
  let p := s.get EVT_SUB_CFG.PORT n
  let node := s.get EVT_SUB_CFG.NODE n
  if p < 2 then s.on 6 && s.is HOST_STATUS.LINK p && s.cmd.peers.any (fun e => e.1 = endpointKey p node)
  else p = 2 && s.on 7 && (fabOutPort s node (size + 8)).isSome

/-- The addresses of a datagram that answers or follows a command: it goes back to the command's sender, and comes from HOST_IP, or, while that is 0 and under the boot ROM, from the address the command was sent to, 0.0.0.0 for a broadcast (R140, R141). -/
def hostAddress (s : State) (p : Nat) (a : NetAddr) : NetAddr :=
  if s.get HOST_IP.IP p ≠ 0 ∧ ¬s.pow.romHost then { a with sentTo := BitVec.ofNat 32 (s.get HOST_IP.IP p) }
  else if a.sentTo = 0xFFFFFFFF then { a with sentTo := 0 }
  else a

/-- The addresses and the transport SEQ of a datagram of a class, which advances for its destination and class (R143). -/
def hostDatagram (p cls : Nat) (peer : Option NetAddr) (s : State) : Option (NetAddr × Nat) × State :=
  match peer with
  | none => (none, s)
  | some a =>
    let k := 16 * (2 ^ 48 * p + 65536 * a.ip.toNat + a.port.toNat) + cls
    let q := mapGet 0 s.host.seqs k
    (some (hostAddress s p a, q), { s with host := { s.host with seqs := mapSet 0 k ((q + 1) % 2 ^ 32) s.host.seqs } })

/-- Send one EVENT packet of a slot: it leaves or is discarded, and SEQ and ALIVE advance (R132, R133). -/
def sendEvent (n : Nat) (rs : List EvtRecord) (s : State) : State :=
  let p := eventPacket s n rs
  let s' := { s with evt := { s.evt with
    seqs := mapSet 0 n ((mapGet 0 s.evt.seqs n + 1) % 65536) s.evt.seqs
    alives := mapSet 0 n ((mapGet 0 s.evt.alives n + 1) % 256) s.evt.alives } }
  if slotCanSend s n p.bytes.length then
    let port := s.get EVT_SUB_CFG.PORT n
    let node := s.get EVT_SUB_CFG.NODE n
    if port = 2 then fabOriginate 3 node p.bytes (s'.emit (.event port p none))
    else
      let (dest, s') := hostDatagram port 3 (mapGet none s.cmd.peers (endpointKey port node)) s'
      s'.emit (.event port p dest)
  else s'

/-- The slot combines records (R133): BATCH set and EVENT_BATCH agreed. -/
def slotBatches (s : State) (n : Nat) : Bool :=
  s.is EVT_SUB_CFG.BATCH n && bit (slotEndpoint s n).features 2

/-- The most records in a packet (R133). -/
def slotLimit (s : State) (n : Nat) : Nat := if s.get EVT_SUB_CFG.PORT n = 2 then 14 else 16

/-- A record as it is sent: OCCUR is the source's count then, at least 1 (Table 4.14). -/
def recordNow (s : State) (r : EvtRecord) : EvtRecord := { r with occur := max 1 (mapGet 0 s.evt.counts r.source) }

/-- Close a slot's batch and send it. -/
def closeBatch (n : Nat) (s : State) : State :=
  match mapGet [] s.evt.batches n with
  | [] => s
  | rs => sendEvent n (rs.map (recordNow s)) { s with evt := { s.evt with batches := mapDel n s.evt.batches } }

/-- Give a record to one subscriber slot. -/
def sendRecord (r : EvtRecord) (n : Nat) (s : State) : State :=
  if s.is EVT_SUB_CFG.EN n ∧ bit (s.get EVT_SUB_MASK.MASK n (r.source / 32)) (r.source % 32) then
    if slotBatches s n then
      let rs := mapGet [] s.evt.batches n ++ [r]
      let s := { s with evt := { s.evt with batches := mapPut n rs s.evt.batches } }
      if rs.length ≥ slotLimit s n then closeBatch n s else s
    else sendEvent n [r] s
  else s

/-- The slots of Table 4.11. -/
def evtSlots : List Nat := [0, 1, 2, 3, 4, 5, 6, 7, 8, 9, 10, 11, 12, 13, 14, 15]

/-- The count of a source. -/
def evtCount (s : State) (n : Nat) : Nat := mapGet 0 s.evt.counts n

/-- The source's ENABLE bit. -/
def evtEnabled (s : State) (n : Nat) : Bool := bit (s.get EVT_ENABLE.ENABLE (n / 32)) (n % 32)

/-- The source's PENDING bit. -/
def evtPending (s : State) (n : Nat) : Bool := s.evt.pend.getLsbD n

/-- Set PENDING and the count of a source. -/
def evtSet (n count : Nat) (s : State) : State :=
  { s with evt := { s.evt with
    pend := s.evt.pend ||| (1#128 <<< n)
    counts := mapSet 0 n count s.evt.counts } }

/-- One occurrence of a source while EVT runs (R129), with the time and count of its record. The fault log is written at each occurrence that finds PENDING 0, enabled or not (R541). -/
def occurrence (r : EvtRecord) (s : State) : State :=
  if evtPending s r.source then
    if evtEnabled s r.source then
      { s with evt := { s.evt with counts := mapSet 0 r.source (min 255 (evtCount s r.source + 1)) s.evt.counts } }
    else s
  else
    let s := if bit (s.get NVM_LOG_MASK.MASK (r.source / 32)) (r.source % 32) then faultLog r.source r.time r.info s else s
    if evtEnabled s r.source then each (sendRecord r) evtSlots (evtSet r.source r.occur s) else s

/-- Hold an occurrence in PD_AON while EVT is off (R551): the first one's time and INFO, and a count that saturates at 255. -/
def holdEvent (r : EvtRecord) : List EvtRecord → List EvtRecord
  | [] => [r]
  | e :: l => if e.source = r.source then { e with occur := min 255 (e.occur + 1) } :: l else e :: holdEvent r l

/-- Raise a source with its INFO, at a corrected time. -/
def raiseAt (source info time : Nat) (s : State) : State :=
  let r : EvtRecord := { source := source, occur := 1, time := time, info := info % 2 ^ 32 }
  if evtOn s then occurrence r s
  else { s with evt := { s.evt with held := holdEvent r s.evt.held } }

/-- Raise a source with its INFO, now. -/
def raise (source info : Nat) (s : State) : State := raiseAt source info s.now s

/-- R551: at the end of the logic step each held source is raised once, with its held count. -/
def raiseHeld (s : State) : State :=
  each occurrence s.evt.held { s with evt := { s.evt with held := [] } }

/-- EVT_SUMMARY (R131, Table 4.13): bit g is the OR of PENDING over group g. -/
def evtSummary (s : State) : Nat :=
  let p (lo n : Nat) : Nat := if s.evt.pend.toNat / 2 ^ lo % 2 ^ n = 0 then 0 else 1
  p 0 16 + 2 * p 16 16 + 4 * p 32 16 + 8 * p 48 24 + 16 * p 72 16 + 32 * p 88 8 + 64 * p 96 16 + 128 * p 112 8 + 256 * p 120 8

/-- EVT_N is low (R131): some source has PENDING 1 and PIN_MASK 0, and PD_CORE is not clamped off (Table 2.7). -/
def evtPinLow (s : State) : Bool :=
  s.on 1 && [0, 1, 2, 3].any fun w =>
    (s.evt.pend.toNat / 2 ^ (32 * w) % 2 ^ 32) &&& not32 (s.get EVT_PIN_MASK.PIN_MASK w) ≠ 0

/-! Event sources by name (Table 21.2). -/

def SYS_BOOT_DONE : Nat := 0
def SYS_WAKE_FAIL : Nat := 1
def SYS_TEMP_WARN : Nat := 2
def SYS_TEMP_CRIT : Nat := 3
def SYS_PL_CHANGED : Nat := 4
def SYS_WDOG_CORE0 : Nat := 5
def SYS_ACCESS_VIOLATION : Nat := 7
def SYS_DORMANT_ACCESS : Nat := 8
def SYS_FW_REJECT : Nat := 9
def SYS_SRAM_ECC_CORR : Nat := 10
def SYS_SRAM_ECC_UNCORR : Nat := 11
def HOST0_LINK : Nat := 16
def HOST_RX_OVERRUN : Nat := 18
def TIME_STEP_DONE : Nat := 19
def TIME_RATE_LIMIT : Nat := 20
def TIME_CMP0 : Nat := 21
def TIME_LAUNCH_LATE : Nat := 25
def FAB_LINK_UP : Nat := 26
def FAB_LINK_DOWN : Nat := 27
def FAB_TRAIN_FAIL : Nat := 28
def FAB_TOPOLOGY : Nat := 29
def FAB_VERSION_MISMATCH : Nat := 30
def FAB_ROUTE_DROP : Nat := 31
def CODEC_CHECK_FAIL : Nat := 32
def CODEC_LIMIT : Nat := 33
def EV_CODEC_CHAINED : Nat := 34
def CODEC_CHAIN_EXHAUSTED : Nat := 35
def DMA_DONE : Nat := 36
def DMA_ERROR : Nat := 37
def DMA_SHADOW_TAKEN : Nat := 38
def DRAM_TRAIN_FAIL : Nat := 39
def EV_DRAM_ECC_CORR : Nat := 40
def EV_DRAM_ECC_UNCORR : Nat := 41
def DRAM_TEMP : Nat := 42
def PAGE_QUEUED : Nat := 43
def PAGE_UNDERRUN : Nat := 44
def FIRE_ARMED : Nat := 48
def FIRE_PAGE_START : Nat := 49
def FIRE_PAGE_END : Nat := 50
def FIRE_OVERSPEED_WARN : Nat := 51
def FIRE_OVERSPED_ROW : Nat := 52
def FIRE_STOPPED : Nat := 53
def FIRE_DIR_CHANGE : Nat := 54
def EV_FIRE_STALL : Nat := 55
def NMAP_SWAP_DONE : Nat := 56
def NMAP_MASK_CHANGED : Nat := 57
def HL_LINK_DOWN : Nat := 58
def HL_BLOCK_ERROR : Nat := 59
def HL_HEAD_TEMP : Nat := 60
def HL_ELEMENT_FAULT : Nat := 61
def HL_ID_MISMATCH : Nat := 62
def HL_IDLE_MEASURE_DONE : Nat := 63
def HL_PRESENCE : Nat := 64
def POS0_FAULT : Nat := 72
def POS_ILLEGAL_TRANSITION : Nat := 76
def POS_REVERSAL : Nat := 77
def EV_POS_CMP0 : Nat := 78
def POS_CMP_LIST_END : Nat := 82
def POS_SSI_ERROR : Nat := 83
def CAL_DONE : Nat := 88
def CAL_REJECT : Nat := 89
def EV_CAL_DUE : Nat := 90
def CAM0_FRAME : Nat := 96
def CAM_FRAME_SHORT : Nat := 100
def CAM_FRAME_LONG : Nat := 101
def CAM_FRAME_DROPPED : Nat := 102
def EV_ISP_SHADOW_TAKEN : Nat := 103
def NHA_SUSPECT : Nat := 104
def EV_NHA_MASKED : Nat := 105
def NHA_REPORT_SENT : Nat := 106
def NHA_REPORT_RECEIVED : Nat := 107
def NHA_BASELINE_READY : Nat := 108
def PAIR_TAKEOVER : Nat := 112
def PAIR_RELINQUISH : Nat := 113
def PAIR_PEER_LOST : Nat := 114
def PAIR_RESYNC_DONE : Nat := 115
def PAIR_CONFLICT : Nat := 116
def HOOP_ACTION : Nat := 117
def AXIS_DONE : Nat := 120
def AXIS_FAULT : Nat := 121
def AXIS_LIMIT : Nat := 122
def AXIS_HOME_DONE : Nat := 123
def LAMP_FADE_DONE : Nat := 124
def LAMP_FAULT : Nat := 125
def NVM_WRITE_DONE : Nat := 126
def NVM_WEAR : Nat := 127

end Sys2Proof.Machine
end

