-- ==== Sys2Proof/Machine/NmapTable.lean ====
section
/-! DEFINITION. The nozzle table in a bank of the Vat: its fields, what a nozzle fires, its reverse values and its checks (Tables 10.1 to 10.5, R288 to R300, R308). -/

namespace Sys2Proof.Machine

/-- The number of nozzles of the bar (R288). -/
def nozzleCount : Nat := 131072

/-- The byte address of a bank (Table 1.8, region 10). -/
def bankBase (b : Nat) : Nat := 0x0101400000 + 0x100000 * (b % 2)

/-- The live bank. -/
def liveBase (s : State) : Nat := bankBase (s.get NMAP_STATUS.LIVE)

/-- The spare bank. -/
def spareBase (s : State) : Nat := bankBase (s.get NMAP_STATUS.LIVE + 1)

/-- HEAD_EN (Table 10.2). -/
def tblHeads (s : State) (b : Nat) : Nat := s.le (b + 8) 8

/-- Head h is enabled in the table. -/
def tblHead (s : State) (b h : Nat) : Bool := bit (tblHeads s b) h

/-- The enabled heads in ascending order. -/
def tblHeadList (s : State) (b : Nat) : List Nat := (List.range 64).filter fun h => tblHead s b h

/-- The heads enabled in the live table; none while no table is in force (R313). -/
def liveHeads (s : State) : List Nat :=
  if s.is NMAP_STATUS.TABLE then tblHeadList s (liveBase s) else []

/-- N of R29 (R294): 2,048 for each enabled head. -/
def tblN (s : State) (b : Nat) : Nat := 2048 * (tblHeadList s b).length

/-- ROW_RES. -/
def tblRowRes (s : State) (b : Nat) : Nat := s.le (b + 6) 1

/-- ILV_PASSES. -/
def tblPasses (s : State) (b : Nat) : Nat := s.le (b + 7) 1

/-- DSPAN. -/
def tblDspan (s : State) (b : Nat) : Nat := s.le (b + 0x10) 4

/-- WEIGHTS: W_M1, W_P1, W_M2 and W_P2 by number. -/
def tblWeight (s : State) (b i : Nat) : Nat := s.le (b + 0x14) 2 / 16 ^ i % 16

/-- COMP_EN. -/
def tblComp (s : State) (b : Nat) : Bool := bit (s.le (b + 0x16) 2) 0

/-- The head record of head h. -/
def recAt (b h : Nat) : Nat := b + 0x8000 + 64 * h

/-- FETCH_OFFSET, or FETCH_OFFSET_REV for a page with DIR 1. -/
def tblFetch (s : State) (b h : Nat) (rev : Bool) : Nat := s.le (recAt b h + (if rev then 0x14 else 0)) 2

/-- SLOT_DELAY of slot i, or SLOT_DELAY_REV. -/
def tblDelay (s : State) (b h i : Nat) (rev : Bool) : Nat := s.le (recAt b h + (if rev then 0x18 else 4) + i) 1

/-- SLOT_FRAC of slot i, or SLOT_FRAC_REV. -/
def tblFrac (s : State) (b h i : Nat) (rev : Bool) : Nat := s.le (recAt b h + (if rev then 0x1C else 8) + i) 1

/-- 256 x D_g of slot group (h, i) (R298, R328). -/
def tblD256 (s : State) (b h i : Nat) (rev : Bool) : Nat :=
  256 * (tblFetch s b h rev + tblDelay s b h i rev) + tblFrac s b h i rev

/-- d_ab (R299): the largest fetch offset, forward or reverse, of an enabled head. -/
def tblDab (s : State) (b : Nat) : Nat :=
  (tblHeadList s b).foldl (fun m h => max m (max (tblFetch s b h false) (tblFetch s b h true))) 0

/-- Nozzle entry n (Table 10.4). -/
def nz (s : State) (b n : Nat) : Nat := s.le (b + 0x80000 + 4 * n) 4

/-- COL. -/
def nzCol (e : Nat) : Nat := bits e 16 0
/-- ZERO. -/
def nzZero (e : Nat) : Bool := bit e 17
/-- MASKED. -/
def nzMasked (e : Nat) : Bool := bit e 18
/-- PAIRED. -/
def nzPaired (e : Nat) : Bool := bit e 19
/-- SIDE. -/
def nzSide (e : Nat) : Nat := bits e 20 20
/-- PAIR. -/
def nzPair (e : Nat) : Nat := bits e 26 21
/-- MSRC. -/
def nzMsrc (e : Nat) : Nat := bits e 28 27
/-- NOCOMP. -/
def nzNocomp (e : Nat) : Bool := bit e 29

/-- Nozzle n counts as ZERO: marked so, or of a head that is not enabled (R294). -/
def isZero (s : State) (b n : Nat) : Bool := !tblHead s b (n / 2048) || nzZero (nz s b n)

/-- Joint entry e of joint j (Table 10.5). -/
def joint (s : State) (b j e : Nat) : Nat := s.le (b + 0x400 + 0x100 * j + 4 * e) 4

/-- VALID. -/
def jointValid (w : Nat) : Bool := bit w 31
/-- The LEFT nozzle of joint j, in the numbering of the bar. -/
def jointLeft (j w : Nat) : Nat := 2048 * j + bits w 10 0
/-- The RIGHT nozzle of joint j. -/
def jointRight (j w : Nat) : Nat := 2048 * (j + 1) + bits w 21 11
/-- PATTERN. -/
def jointPattern (w : Nat) : Nat := bits w 25 22

/-- The joint that a paired nozzle names: j = h for LEFT and h - 1 for RIGHT. -/
def nzJoint (n e : Nat) : Nat := n / 2048 - nzSide e

/-- The partner of a paired nozzle, from its joint entry (R295). -/
def partner (s : State) (b n : Nat) : Nat :=
  let e := nz s b n
  let j := nzJoint n e
  let w := joint s b j (nzPair e)
  if nzSide e = 0 then jointRight j w else jointLeft j w

/-- live_nozzle of R295. -/
def liveNozzle (s : State) (b columns n : Nat) : Bool :=
  let e := nz s b n
  tblHead s b (n / 2048) && !nzZero e && !nzMasked e && nzCol e < columns

/-- prints of R295: n is the printing nozzle of its column in row r. -/
def prints (s : State) (b columns n r : Nat) : Bool :=
  let e := nz s b n
  if !liveNozzle s b columns n then false
  else if !nzPaired e then true
  else if !liveNozzle s b columns (partner s b n) then true
  else
    let p := jointPattern (joint s b (nzJoint n e) (nzPair e))
    let on := bit (s.le (b + 0x100 + 8 * p) 8) (r % 64)
    if nzSide e = 0 then on else !on

/-- ilv of R295: the interlace mask of a pass. -/
def ilv (s : State) (b pass passes r c : Nat) : Bool :=
  passes = 1 || bit (s.le (b + 0x180 + 32 * pass + 2 * (r % 16)) 2) (c % 16)

/-- band of R295: the receiver offset from a dead column. -/
def band (s : State) (b r dc : Nat) : Int :=
  let i := (r + dc) % 16
  let a := tblWeight s b 0
  let c := a + tblWeight s b 1
  let d := c + tblWeight s b 2
  let e := d + tblWeight s b 3
  if i < a then -1 else if i < c then 1 else if i < d then -2 else if i < e then 2 else 0

/-- Every nozzle of the bar. -/
def allNozzles : List Nat := List.range nozzleCount

/-- Donor columns (R296): below COLUMNS, held by at least one nozzle that is not ZERO, all of them masked and none with NOCOMP. -/
def donor (s : State) (b columns dc : Nat) : Bool :=
  let mine := allNozzles.filter fun n => !isZero s b n && nzCol (nz s b n) = dc
  dc < columns && !mine.isEmpty && mine.all fun n => nzMasked (nz s b n) && !nzNocomp (nz s b n)

/-- code_of of R295, for a row whose drop codes are given by column. -/
def codeOf (s : State) (b columns pass passes : Nat) (img : Nat → Nat) (n r : Nat) : Nat :=
  if !prints s b columns n r then 0
  else
    let c := nzCol (nz s b n)
    let code (c : Nat) : Nat := if ilv s b pass passes r c then img c else 0
    if !tblComp s b then code c
    else
      [(-2 : Int), -1, 1, 2].foldl (fun v k =>
        let dc : Int := (c : Int) - k
        if dc < 0 ∨ band s b r dc.toNat ≠ k then v
        else if donor s b columns dc.toNat then max v (code dc.toNat) else v) (code c)

/-- The nozzles that NMAP_MASKED counts (Table 10.13): of enabled heads, MASKED 1 and ZERO 0. -/
def maskedCount (s : State) (b : Nat) : Nat :=
  (allNozzles.filter fun n => !isZero s b n && nzMasked (nz s b n)).length

/-- Donor columns of a bank (NMAP_DEAD). -/
def deadCount (s : State) (b columns : Nat) : Nat :=
  ((List.range 131072).filter fun c => donor s b columns c).length

/-- The CRC that a bank should carry (Table 10.2): over the whole bank with the field taken as 0. -/
def bankCrc (s : State) (b : Nat) : Nat := crc32c (s.bytes b 0x1C ++ zeros 4 ++ s.bytes (b + 0x20) 0xFFFE0)

/-- Write the CRC of a bank. -/
def putBankCrc (b : Nat) (s : State) : State := s.setBytes (b + 0x1C) (leBytes 4 (bankCrc s b))

/-- The columns of the non-ZERO nozzles of a head. -/
def headCols (s : State) (b h : Nat) : List Nat :=
  (((List.range 2048).map fun i => 2048 * h + i).filter fun n => !isZero s b n).map fun n => nzCol (nz s b n)

/-- COL_LO and COL_HI of a head (Table 10.3). -/
def colSpan (s : State) (b h : Nat) : Nat × Nat :=
  match headCols s b h with
  | [] => (0, 0)
  | c :: cs => (cs.foldl min c, cs.foldl max c)

/-- Write COL_LO and COL_HI of every head. -/
def putCols (b : Nat) (s : State) : State :=
  each (fun h t => let (lo, hi) := colSpan s b h
    t.setBytes (recAt b h + 0x0C) (leBytes 4 lo ++ leBytes 4 hi)) (List.range 64) s

/-- The reverse values of a head (R300): fetch offset, slot delays and slot fractions; none where a load check fails. -/
def reverseOf (s : State) (b h : Nat) : Option (Nat × List Nat × List Nat) :=
  let t (i : Nat) := tblD256 s b h i false
  let slots := [0, 1, 2, 3]
  if slots.any fun i => tblDspan s b < t i then none
  else
    let r (i : Nat) := tblDspan s b - t i
    let w := slots.foldl (fun m i => min m (r i / 256)) 0xFFFFFFFF
    let ds := slots.map fun i => r i / 256 - w
    if w > 65535 ∨ ds.any (· > 127) then none else some (w, ds, slots.map fun i => r i % 256)

/-- Write the reverse values of every head: 0 for a head that is not enabled (R300). -/
def putReverse (b : Nat) (s : State) : State :=
  each (fun h t =>
    let (w, ds, fs) := if tblHead s b h then (reverseOf s b h).getD (0, [], []) else (0, [], [])
    t.setBytes (recAt b h + 0x14) (leBytes 2 w ++ zeros 2 ++ (List.range 4).map (fun i => BitVec.ofNat 8 (ds.getD i 0))
      ++ (List.range 4).map fun i => BitVec.ofNat 8 (fs.getD i 0))) (List.range 64) s

/-- Some byte of a range is not 0. -/
def anyByte (s : State) (a n : Nat) : Bool := (List.range n).any fun i => s.byte (a + i) ≠ 0

/-- Reason 0x2 (R308): MAGIC, FORMAT and the reserved fields, in the order of Table 10.1; the index of the first item that fails. -/
def checkFormat (s : State) (b : Nat) : Option Nat :=
  if s.le b 4 ≠ 0x4E4D4150 ∨ s.le (b + 4) 2 ≠ 1 ∨ s.le (b + 0x16) 2 > 1 ∨ anyByte s (b + 0x20) 224 ∨ anyByte s (b + 0x280) 384
  then some 0
  else match (List.range (63 * 64)).find? fun k => bits (joint s b (k / 64) (k % 64)) 30 26 ≠ 0 with
  | some k => some (0x100 * (k / 64) + k % 64)
  | none =>
    if anyByte s (b + 0x4300) 15616 then some 0
    else match (List.range 64).find? fun h => anyByte s (recAt b h + 2) 2 || anyByte s (recAt b h + 0x16) 2 || anyByte s (recAt b h + 0x20) 32 with
    | some h => some h
    | none =>
      if anyByte s (b + 0x9000) 28672 then some 0
      else match allNozzles.find? fun n => bits (s.le (b + 0x10000 + n) 1) 7 6 ≠ 0 with
      | some n => some n
      | none =>
        if anyByte s (b + 0x30000) 327680 then some 0
        else allNozzles.find? fun n => bits (nz s b n) 31 30 ≠ 0

/-- The VALID joint entries that name a nozzle of two enabled heads: joint, entry and word. -/
def validEntries (s : State) (b : Nat) : List (Nat × Nat × Nat) :=
  ((List.range (63 * 64)).map fun k => (k / 64, k % 64, joint s b (k / 64) (k % 64))).filter fun q =>
    jointValid q.2.2 && tblHead s b q.1 && tblHead s b (q.1 + 1)

/-- A paired nozzle agrees with its joint entry: the entry is VALID and names it on its side, and, where both heads are enabled, neither nozzle is ZERO and both hold the same column. Where the other head is disabled, nothing more is checked, and the nozzle prints alone (R308). -/
def pairedWell (s : State) (b n : Nat) : Bool :=
  let e := nz s b n
  let h := n / 2048
  let j := nzJoint n e
  let w := joint s b j (nzPair e)
  if (nzSide e = 1 ∧ h = 0) ∨ (nzSide e = 0 ∧ h = 63) then false
  else jointValid w && (if nzSide e = 0 then jointLeft j w = n else jointRight j w = n)
    && (!(tblHead s b j && tblHead s b (j + 1))
      || (!isZero s b n && !isZero s b (partner s b n) && nzCol (nz s b (partner s b n)) = nzCol e))

/-- Reason 0x5 for nozzle n (Table 10.11). -/
def pairFault (s : State) (b n : Nat) : Bool :=
  let e := nz s b n
  let sharing := if isZero s b n then [] else
    allNozzles.filter fun m => m ≠ n && !isZero s b m && nzCol (nz s b m) = nzCol e
  let named := (validEntries s b).filter fun q => jointLeft q.1 q.2.2 = n ∨ jointRight q.1 q.2.2 = n
  tblHead s b (n / 2048) &&
    (sharing.length > 1
      || (sharing.length = 1 && !(nzPaired e && pairedWell s b n && sharing = [partner s b n]))
      || (nzPaired e && !pairedWell s b n)
      || named.any fun q => isZero s b n || !nzPaired e || nzPair e ≠ q.2.1
          || nzJoint n e ≠ q.1 || (nzSide e = 0 ∧ jointLeft q.1 q.2.2 ≠ n) || (nzSide e = 1 ∧ jointRight q.1 q.2.2 ≠ n))

/-- Reason 0x6: the masks of the passes do not give each bit of the tile to exactly one mask. -/
def tileFault (s : State) (b : Nat) : Bool :=
  let p := tblPasses s b
  p > 1 && (List.range 256).any fun t =>
    ((List.range p).filter fun m => bit (s.le (b + 0x180 + 32 * m + 2 * (t / 16)) 2) (t % 16)).length ≠ 1

/-- The load checks 0x2 to 0x8 of a bank (R308): the reason and the index of the first that fails. -/
def loadChecks (s : State) (b : Nat) : Option (Nat × Nat) :=
  match checkFormat s b with
  | some i => some (2, i)
  | none =>
    if tblRowRes s b > 2 ∨ tblPasses s b = 0 ∨ tblPasses s b > 8
        ∨ tblWeight s b 0 + tblWeight s b 1 + tblWeight s b 2 + tblWeight s b 3 > 16 ∨ tblHeads s b = 0
    then some (3, 0)
    else match (tblHeadList s b).find? fun h => [0, 1, 2, 3].any fun i => tblDelay s b h i false > 127 with
    | some h => some (4, h)
    | none => match allNozzles.find? fun n => pairFault s b n with
      | some n => some (5, n)
      | none =>
        if tileFault s b then some (6, 0)
        else match (tblHeadList s b).find? fun h => (reverseOf s b h).isNone with
        | some h => some (7, h)
        | none => match (tblHeadList s b).find? fun h => (colSpan s b h).2 - (colSpan s b h).1 > 4095 with
          | some h => some (8, h)
          | none => none

/-- The geometry of a table (R309). -/
def geometry (s : State) (b : Nat) : List Nat :=
  [tblRowRes s b, tblPasses s b, tblHeads s b, tblDspan s b]
    ++ ((List.range 64).map fun h => s.le (recAt b h) 2) ++ ((List.range 64).map fun h => s.le (recAt b h + 4) 8)

/-- The full-bar ceiling of a performance level in Hz (Table 1.9). -/
def levelCeiling (level : Nat) : Nat := if level ≤ 1 then 300000 else if level = 2 then 260000 else 170000

/-- ceiling_hz (R29). -/
def ceilingHz (level n : Nat) : Nat :=
  let c := levelCeiling level * 131072 / n
  if c > 300000 then 300000 else c

/-- The shortest period of a ceiling in 2^-24 ns (R29). -/
def shortestPeriod (c : Nat) : Nat := 1000000000 * 2 ^ 24 / c

/-- within_ceiling (R29) for a period in 2^-24 ns, a level and a nozzle count. -/
def withinCeiling (period level n : Nat) : Bool := shortestPeriod (ceilingHz level n) ≤ period

/-- The period range of R211 in 2^-24 ns. -/
def periodOk (period : Nat) : Bool := 3333 * 2 ^ 24 + 0x555555 ≤ period && period ≤ 200000 * 2 ^ 24

end Sys2Proof.Machine
end

