-- ==== Sys2Proof/Machine/HeadTrim.lean ====
section
/-! DEFINITION. Head ports as the other files need them, and the trim images that the FZ8131 sends to the head companions (R350, R351, R378). -/

namespace Sys2Proof.Machine

/-- What a head port keeps. -/
def State.head (s : State) (h : Nat) : Head := mapGet {} s.hl.ports h

/-- Replace what a head port keeps. -/
def State.setHead (s : State) (h : Nat) (p : Head) : State :=
  { s with hl := { s.hl with ports := mapSet {} h p s.hl.ports } }

/-- The link state of a head port (Table 13.1): 0 DISABLED, 1 DETECT, 2 ALIGN, 3 CAPS, 4 READY, 5 MEASURE, 6 FIRING, 7 HOLD. -/
def hlState (s : State) (h : Nat) : Nat := s.get HL_STATUS.STATE h

/-- The bar is armed. -/
def armed (s : State) : Bool := s.is FIRE_STATUS.ARMED

/-- The trim image of head h from a bank (R350): TRIM, and NOWHEY for a nozzle that is MASKED or ZERO. -/
def trimImage (s : State) (b h : Nat) : List Byte :=
  (List.range 2048).map fun i =>
    let n := 2048 * h + i
    BitVec.ofNat 8 (s.le (b + 0x10000 + n) 1 % 64 + b2n (isZero s b n || nzMasked (nz s b n)) * 64)

/-- A TRIM frame: the control block of Table 13.3 and 64 data blocks. -/
def trimFrame (bank seg : Nat) (bs : List Byte) : List Nat :=
  beVal (beBytes 1 0x66 ++ beBytes 1 bank ++ beBytes 1 seg ++ beBytes 4 (crc32c bs) ++ zeros 1)
    :: (List.range 64).map fun j => beAt bs (8 * j) 8

/-- Send one TRIM frame. -/
def sendTrim (h bank seg : Nat) (bs : List Byte) (s : State) : State := s.emit (.head h (trimFrame bank seg bs))

/-- Start sending an image into a head bank, in 4 frames; a transfer into that bank that was under way is replaced. -/
def startTrim (h bank : Nat) (image : List Byte) (s : State) : State :=
  let segs := (List.range 4).map fun g => (bank, g, slice image (512 * g) 512)
  let p := s.head h
  let s := s.setHead h { p with
    sending := (p.sending.filter fun e => e.1 ≠ bank) ++ segs
    images := mapPut bank image p.images
    banks := mapDel bank p.banks }
  each (fun e s => sendTrim h e.1 e.2.1 e.2.2 s) segs s

/-- HL_WF_STATE.TRIM_OK (R378): the head holds the live table's image in the bank that TSEL names. -/
def refreshTrimOk (h : Nat) (s : State) : State :=
  s.putB HL_WF_STATE.TRIM_OK (s.is NMAP_STATUS.TABLE &&
    mapGet [] (s.head h).banks (s.get HL_WF_STATE.TSEL h) = trimImage s (liveBase s) h) h

/-- The link takes TRIM frames: READY or FIRING (Table 13.1). -/
def takesTrim (s : State) (h : Nat) : Bool := hlState s h = 4 || hlState s h = 6

/-- R350: send the spare bank's image to the head bank that TSEL does not name, on every enabled head whose link is up. -/
def sendSpareTrims (s : State) : State :=
  each (fun h s => onlyIf (takesTrim s h) (startTrim h (1 - s.get HL_WF_STATE.TSEL h) (trimImage s (spareBase s) h)) s)
    (tblHeadList s (spareBase s)) s

/-- R351: send the live image into both head banks. -/
def sendLiveTrims (h : Nat) (s : State) : State :=
  if s.is NMAP_STATUS.TABLE then
    startTrim h 1 (trimImage s (liveBase s) h) (startTrim h 0 (trimImage s (liveBase s) h) s)
  else s

/-- A head drops out of its transfers (R378). -/
def dropTrims (h : Nat) (s : State) : State :=
  (s.setHead h { s.head h with sending := [], images := [], banks := [] }).put HL_WF_STATE.TRIM_OK 0 h

/-- The transfer of the spare's image is complete for every head that takes part (R350). -/
def trimsDone (s : State) : Bool :=
  (tblHeadList s (spareBase s)).all fun h => !takesTrim s h || (s.head h).sending.isEmpty

/-- A segment was answered with status 0 (R378). -/
def trimAcked (h bank seg : Nat) (s : State) : State :=
  let p := s.head h
  let left := p.sending.filter fun e => e.1 ≠ bank || e.2.1 ≠ seg
  let whole : Bool := (p.images.any fun e => e.1 = bank) && left.all fun e => e.1 ≠ bank
  let p' : Head := { p with sending := left }
  refreshTrimOk h (s.setHead h (if whole then
    { p' with banks := mapPut bank (mapGet [] p.images bank) p.banks, images := mapDel bank p.images } else p'))

end Sys2Proof.Machine
end

