-- ==== Sys2Proof/Machine/NhaGeom.lean ====
section
/-! DEFINITION. Where the analyser's sources look (R442, R459, R460), as the ring's size and the release of rows need it. -/

namespace Sys2Proof.Machine

/-- What a camera port keeps. -/
def State.camPort (s : State) (c : Nat) : CamPort := mapGet {} s.cam.ports c

/-- Replace what a camera port keeps. -/
def State.setCamPort (s : State) (c : Nat) (p : CamPort) : State :=
  { s with cam := { s.cam with ports := mapSet {} c p s.cam.ports } }

/-- A field of the active parameter set of a port (R434). -/
def State.act (s : State) (c : Nat) (F : Fld) (j : Nat := 0) : Nat :=
  mapGet (F.rst c j) (s.camPort c).active (F.key c j)

/-- An analyser source: local ports 0 to 3, remote sources 0 to 3 as 4 to 7. -/
def nhaSources : List Nat := [0, 1, 2, 3, 4, 5, 6, 7]

/-- The source is enabled. -/
def srcOn (s : State) (c : Nat) : Bool := if c < 4 then s.is NHA_CAM_CFG.EN c else s.is NHA_RSRC_CFG.EN (c - 4)

/-- The source's DIR is 1. -/
def srcRev (s : State) (c : Nat) : Bool := if c < 4 then s.is NHA_CAM_CFG.DIR c else s.is NHA_RSRC_CFG.DIR (c - 4)

/-- The far line F of a source in 1/256 row (R460). -/
def farLine (s : State) (c : Nat) : Int :=
  let dist := if c < 4 then s.get NHA_CAM_DIST.CAM_DIST c else s.get NHA_RSRC_DIST.CAM_DIST (c - 4)
  let pitch := if c < 4 then s.getS NHA_CAM_CFG.LPITCH c else s.getS NHA_RSRC_CFG.LPITCH (c - 4)
  let height := if c < 4 then s.act c ISP_GEOM.HEIGHT else max 1 (s.get NHA_RSRC_SPAN.SPAN (c - 4))
  (dist : Int) + max 0 (pitch * ((height : Int) - 1))

/-- d_cam (R460), which NHA_D_CAM shows. -/
def dCam (s : State) : Nat :=
  let f := (nhaSources.filter (srcOn s)).foldl (fun m c => max m (farLine s c)) 0
  ((f + 255) / 256 - tblDab s (liveBase s)).toNat

/-- The nozzles whose STREAK is not 0, which NHA_SUSPECTS counts. -/
def nhaSuspects (s : State) : State :=
  s.put NHA_SUSPECTS.COUNT ((List.range 131072).filter fun n => s.get NHA_NOZ.STREAK n ≠ 0).length

/-- A baseline period starts (R456). -/
def nhaRestart (s : State) : State :=
  let s := each (fun e s => s.put NHA_NOZ.BASE_OWN 0 e.1) s.nha.own s
  let s := (s.put NHA_STATUS.BASELINE 0).put NHA_STATUS.BASE_SEEN 0
  { s with nha := { s.nha with base := [], own := [], inspected := [] } }

/-- A host swap changes nozzle n (R455): its STREAK and window sums start again. -/
def nhaForget (n : Nat) (s : State) : State :=
  { s.put NHA_NOZ.STREAK 0 n with nha := { s.nha with
    sums := s.nha.sums.filter (fun e => e.1 % 131072 ≠ n), queued := s.nha.queued.filter fun m => m ≠ n } }

end Sys2Proof.Machine
end

