-- ==== Sys2Proof/Machine/Nmap.lean ====
section
/-! DEFINITION. The change queue, and how the spare bank is claimed, checked, swapped and released (R302 to R313). -/

namespace Sys2Proof.Machine

/-- The spare bank's state (Table 10.9): 0 FREE, 1 HOST, 2 DEVICE, 3 PENDING. -/
def spare (s : State) : Nat := s.get NMAP_STATUS.SPARE

/-- COLUMNS as R296 takes it: the open job's, or 131,072 with no job open. -/
def columnsNow (s : State) : Nat := if s.is FIRE_ING_JOB.OPEN then s.get FIRE_ING_COLUMNS.COLUMNS else 131072

/-- Show the length of the mask queue. -/
def nmapShow (s : State) : State := s.put NMAP_STATUS.QUEUE s.nmap.queue.length

/-- R479: a STANDBY with TABLE_SYNC set queues nothing of its own. -/
def followsTable (s : State) : Bool := s.get PAIR_STATUS.ROLE = 1 && s.is PAIR_CTL.TABLE_SYNC

/-- Queue a mask change, or keep it with its producer and count it when 1,024 are queued (R305). -/
def queueMask (n msrc : Nat) (s : State) : State :=
  if followsTable s then s
  else if s.nmap.queue.length ≥ 1024 then
    { s.count NMAP_QUEUE_FULL.COUNT with nmap := { s.nmap with kept := s.nmap.kept ++ [(n, msrc)] } }
  else nmapShow { s with nmap := { s.nmap with queue := s.nmap.queue ++ [(n, msrc)] } }

/-- Queue the trims of a whole head; a later block for the head replaces the earlier one (R305). -/
def queueTrims (h : Nat) (image : List Byte) (s : State) : State :=
  if followsTable s then s else { s with nmap := { s.nmap with trims := mapPut h image s.nmap.trims } }

/-- Copy one bank over another. -/
def copyBank (src dst : Nat) (s : State) : State :=
  -- the sparse form of 1 MiB: forget the destination, then write what the source lists
  let cells := s.mem.filter fun c => src ≤ c.1 ∧ c.1 < src + 0x100000
  each (fun c s => s.setByte (c.1 - src + dst) c.2) cells (s.forget dst (dst + 0x100000))

/-- Write a nozzle entry. -/
def putNz (b n e : Nat) (s : State) : State := s.setBytes (b + 0x80000 + 4 * n) (leBytes 4 e)

/-- Apply a mask change to a bank: it changes nothing for a nozzle that is already masked (R305). -/
def applyMask (b n msrc : Nat) (s : State) : State :=
  let e := nz s b n
  if nzMasked e then s else putNz b n (insertBits (insertBits e 18 1 1) 27 2 msrc) s

/-- Apply the change queue to a bank (R305): masks in the order they arrived, and trim blocks. -/
def applyQueue (b : Nat) (s : State) : State :=
  let s := each (fun c s => applyMask b c.1 c.2 s) s.nmap.queue s
  each (fun t s => s.setBytes (b + 0x10000 + 2048 * t.1) t.2) s.nmap.trims s

/-- Empty the change queue. -/
def clearQueue (s : State) : State := nmapShow { s with nmap := { s.nmap with queue := [], trims := [] } }

/-- The spare becomes PENDING once the steps and the trim transfer are complete (R305, R307, R350). -/
def nmapTryPending (s : State) : State :=
  if s.nmap.merged && trimsDone s then
    ({ s with nmap := { s.nmap with merged := false } }.put NMAP_STATUS.SPARE 3).put NMAP_STATUS.CHECKING 0
  else s

/-- An internal swap begins (R305): the live bank is copied to the spare, the queue is applied, COL_LO, COL_HI and CRC are written again, and the trims are sent. -/
def internalStart (s : State) : State :=
  if spare s = 0 ∧ s.nmap.hostSwapped ∧ (s.nmap.queue ≠ [] ∨ s.nmap.trims ≠ []) then
    let s := s.put NMAP_STATUS.SPARE 2
    let b := spareBase s
    let s := clearQueue (applyQueue b (copyBank (liveBase s) b s))
    let s := sendSpareTrims (putBankCrc b (putCols b s))
    { s with nmap := { s.nmap with internal := true } }
  else s

/-- The merge is done (R305). -/
def internalReady (s : State) : State :=
  if spare s = 2 then nmapTryPending { s with nmap := { s.nmap with merged := true } } else s

/-- The period of every queued or printing page. -/
def livePages (s : State) : List Page := s.ing.pages.filter fun p => p.stage < 2

/-- span of R224 for a bank, a largest strip and whether a page is inspected. -/
def ringSpan (s : State) (b stripMax : Nat) (inspect : Bool) : Nat :=
  tblDab s b + 127 + (if inspect then dCam s else 0) + 2 * stripMax + 1

/-- The largest STRIP_ROWS among queued pages. -/
def stripMax (ps : List Page) : Nat := ps.foldl (fun m p => max m p.stripRows) 0

/-- Reason 0x9 (R309): the new table conflicts with the open job, or with a queued or printing page. -/
def tableConflict (s : State) (b : Nat) : Bool :=
  let ps := livePages s
  s.is FIRE_ING_JOB.OPEN && (tblRowRes s b ≠ s.get FIRE_ING_JOB.ROW_RES
    || (!ps.isEmpty && ringSpan s b (stripMax ps) (ps.any (·.inspect)) > s.get FIRE_ING_SLOTS.SLOTS))
  || ps.any fun p => (p.passes > 1 && p.passes ≠ tblPasses s b)
    || (s.is NMAP_STATUS.TABLE && tblN s b > tblN s (liveBase s) && !withinCeiling p.period (s.get SYS_PL.REQ) (tblN s b))

/-- The checks of step 5 (R308, R309). -/
def swapChecks (s : State) (b : Nat) : Option (Nat × Nat) :=
  match loadChecks s b with
  | some f => some f
  | none =>
    if tableConflict s b then some (9, 0)
    else if armed s && geometry s b ≠ geometry s (liveBase s) then some (10, 0)
    else none

/-- Step 2 of R307: copy MASKED and MSRC from live entries that the FZ8131 masked, unless the spare entry is ZERO. -/
def keepMasks (b : Nat) (s : State) : State :=
  let l := liveBase s
  each (fun n s =>
    let e := nz s l n
    if nzMasked e ∧ nzMsrc e ≠ 0 ∧ !isZero s b n then
      putNz b n (insertBits (insertBits (nz s b n) 18 1 1) 27 2 (nzMsrc e)) s
    else s) allNozzles s

/-- INFO of NMAP_SWAP_DONE (R311). -/
def swapInfo (s : State) (failed : Bool) (reason : Nat) : Nat :=
  s.get NMAP_STATUS.LIVE + 2 * b2n s.nmap.internal + 8 * b2n failed + 16 * reason
    + 256 * (s.get NMAP_SWAP_ROW.ROW % 2 ^ 24)

/-- A host swap fails: the spare keeps the host's content and its claim (R307). -/
def swapFails (reason index : Nat) (s : State) : State :=
  let s := { s with nmap := { s.nmap with internal := false } }
  let s := ((s.put NMAP_STATUS.CHECKING 0).put NMAP_STATUS.LAST_FAIL reason).put NMAP_FAIL_INDEX.INDEX index
  raise NMAP_SWAP_DONE (swapInfo s true reason) s

/-- The steps of a host swap (R307). -/
def swapSteps (s : State) : State :=
  let b := spareBase s
  if s.le (b + 0x1C) 4 ≠ bankCrc s b then swapFails 1 0 s
  else
    let t := onlyIf (bit s.nmap.flags 0 && s.is NMAP_STATUS.TABLE) (keepMasks b) s
    let t := onlyIf (bit s.nmap.flags 1 && s.is NMAP_STATUS.TABLE)
      (fun t => t.setBytes (b + 0x10000) (t.bytes (liveBase t + 0x10000) 131072)) t
    let t := applyQueue b t
    match swapChecks t b with
    | some (r, i) => swapFails r i s
    | none =>
      let t := sendSpareTrims (putBankCrc b (putReverse b (putCols b (clearQueue t))))
      nmapTryPending { t with nmap := { t.nmap with internal := false, merged := true } }

/-- The steps of an accepted NMAP_SWAP end (R307). -/
def swapChecksEnd (s : State) : State :=
  if s.is NMAP_STATUS.CHECKING && !s.nmap.merged then swapSteps s else s

/-- The host's claim expires (R312). -/
def holdExpiry (s : State) : State :=
  if spare s = 1 && !s.is NMAP_STATUS.CHECKING then
    (s.put NMAP_STATUS.SPARE 0).put NMAP_STATUS.HOLD_EXPIRED 1
  else s

/-- Note the counts that depend on the live table and the open job (Table 10.13). -/
def nmapCounts (s : State) : State :=
  if s.is NMAP_STATUS.TABLE then
    (s.put NMAP_MASKED.COUNT (maskedCount s (liveBase s))).put NMAP_DEAD.COUNT (deadCount s (liveBase s) (columnsNow s))
  else (s.put NMAP_MASKED.COUNT 0).put NMAP_DEAD.COUNT 0

/-- Record in the mask history what a swap changes for nozzle n (R541): a SET for a mask that takes effect, a CLEAR for one that a host swap clears. -/
def noteMask (host : Bool) (was : Bool) (e n : Nat) (s : State) : State :=
  let serial := s.get HL_ID_SERIAL.SERIAL (n / 2048)
  if nzMasked e ∧ !was then maskHistory serial (n % 2048) 1 (nzMsrc e) s
  else if was ∧ !nzMasked e ∧ host then maskHistory serial (n % 2048) 2 0 s
  else s

/-- The head banks change over with the nozzle table (R350): TSEL names the bank with the new image where the head took it. -/
def swapTsel (h : Nat) (s : State) : State :=
  let other := 1 - s.get HL_WF_STATE.TSEL h
  refreshTrimOk h (onlyIf (mapGet [] (s.head h).banks other = trimImage s (liveBase s) h)
    (fun s => s.put HL_WF_STATE.TSEL other h) s)

/-- A producer offers its kept changes again after a swap (R305). -/
def offerKept (s : State) : State :=
  each (fun c s => queueMask c.1 c.2 s) s.nmap.kept { s with nmap := { s.nmap with kept := [] } }

/-- The pair shares tables and rasters with a peer: EN 1 and a node named (R474). -/
def hasPeer (s : State) : Bool := s.is PAIR_CTL.EN && s.get PAIR_PEER.NODE ≠ 0x3FF

/-- The owner sends its live bank as BANK cells (R479): 240 bytes in each. -/
def sendBank (s : State) : State :=
  if hasPeer s ∧ s.is PAIR_CTL.TABLE_SYNC ∧ s.get PAIR_STATUS.ROLE = 3 then
    each (fun i s => fabOriginate 8 (s.get PAIR_PEER.NODE)
      (beBytes 1 3 ++ zeros 3 ++ beBytes 4 (240 * i) ++ s.bytes (liveBase s + 240 * i) (min 240 (0x100000 - 240 * i))) s)
      (List.range 4370) s
  else s

/-- COL, ZERO, PAIRED or MASKED of nozzle n differ between two banks (R455). -/
def nozzleMoved (s : State) (old new n : Nat) : Bool :=
  nzCol (nz s old n) ≠ nzCol (nz s new n) || isZero s old n ≠ isZero s new n
    || nzPaired (nz s old n) ≠ nzPaired (nz s new n) || nzMasked (nz s old n) ≠ nzMasked (nz s new n)

/-- What a host swap does to the analyser (R455, R456). -/
def nhaSwap (old new : Nat) (s : State) : State :=
  let s := onlyIf (geometry s old ≠ geometry s new) nhaRestart s
  nhaSuspects (each nhaForget (allNozzles.filter (nozzleMoved s old new)) s)

/-- A PENDING swap takes effect (R310, R311). -/
def nmapTakeEffect (s : State) : State :=
  if spare s = 3 then
    let old := liveBase s
    let new := spareBase s
    let first := !s.nmap.hostSwapped
    let host := !s.nmap.internal
    let was (n : Nat) : Bool := !first && nzMasked (nz s old n)
    let changed := allNozzles.filter fun n => was n ≠ nzMasked (nz s new n)
    let cleared := changed.any was
    let s := each (fun n s => noteMask host (was n) (nz s new n) n s) changed s
    let s := onlyIf (host && !first) (nhaSwap old new) s
    let s := ((s.put NMAP_STATUS.LIVE (1 - s.get NMAP_STATUS.LIVE)).put NMAP_STATUS.SPARE 0).put NMAP_STATUS.TABLE 1
    let s := s.put NMAP_SWAP_ROW.ROW (if s.is FIRE_ING_JOB.OPEN then s.fire.fetchTop else 0)
    let s := (s.count NMAP_SWAPS.COUNT).put NMAP_TABLE_ID.ID (s.le (new + 0x18) 4)
    let s := nmapCounts { s with nmap := { s.nmap with hostSwapped := true } }
    let s := each swapTsel (List.range 64) s
    -- a head in CAPS is loaded with the new live image instead (R351)
    let s := each (fun h s => onlyIf (hlState s h = 3) (sendLiveTrims h) s) (List.range 64) s
    let s := raise NMAP_SWAP_DONE (swapInfo s false 0) s
    let s := if changed.isEmpty then s
      else raise NMAP_MASK_CHANGED (s.get NMAP_MASKED.COUNT + 2 ^ 31 * b2n cleared) s
    sendBank (offerKept s)
  else s

/-- No table is in force (R313): the registers and the queue's swap state after power-on reset or DORMANT. The banks' contents are lost with the Vat. -/
def nmapNoTable (s : State) : State :=
  let s := { s with nmap := { s.nmap with hostSwapped := false, internal := false, merged := false } }
  ((((s.put NMAP_STATUS.TABLE 0).put NMAP_STATUS.LIVE 0).put NMAP_STATUS.SPARE 0).put NMAP_STATUS.CHECKING 0)

end Sys2Proof.Machine
end

