-- ==== Sys2Proof/Machine/Access.lean ====
section
/-! DEFINITION. Reply statuses (Table 4.4), the access tables (R125 to R128), and which memory addresses exist (R25, R26, R107, R234). -/

namespace Sys2Proof.Machine

/-! ### Reply statuses -/

/-- OK. -/
def stOk : Nat := 0x00
/-- BAD_OPCODE. -/
def stBadOpcode : Nat := 0x01
/-- BAD_PARAM. -/
def stBadParam : Nat := 0x02
/-- ACCESS_DENIED. -/
def stDenied : Nat := 0x03
/-- CHECK_FAIL. -/
def stCheckFail : Nat := 0x04
/-- REPEAT. -/
def stRepeat : Nat := 0x05
/-- BUSY. -/
def stBusy : Nat := 0x06
/-- TARGET_DORMANT. -/
def stDormant : Nat := 0x07
/-- VERSION_UNSUPPORTED. -/
def stVersion : Nat := 0x08
/-- TAG_IN_USE. -/
def stTagInUse : Nat := 0x09
/-- AXIS_MOVING. -/
def stMoving : Nat := 0x0A
/-- NO_RESOURCE. -/
def stNoResource : Nat := 0x0C
/-- NOT_OWNER. -/
def stNotOwner : Nat := 0x0D
/-- STALE. -/
def stStale : Nat := 0x0E
/-- WAKE_FAILED. -/
def stWakeFailed : Nat := 0x0F
/-- STEP_REFUSED. -/
def stStepRefused : Nat := 0x10

/-! ### Rights -/

/-- A refusal by an access table, as it is captured (R128). -/
structure Viol where
  /-- CLASS. -/
  cls : Nat
  /-- KIND: 0 read, 1 write, 2 command, 3 descriptor fetch. -/
  kind : Nat
  /-- SPACE: 0 block, 1 Vat, 2 DRAM. -/
  space : Nat
  /-- INDEX. -/
  index : Nat
  /-- OPCODE. -/
  opcode : Nat
  /-- ADDR. -/
  addr : Nat
  deriving DecidableEq, Repr

/-- The Vat region of an address (Table 1.8); region 10 is the bank window beyond the Vat window. -/
def vatRegion (a : Nat) : Nat :=
  if a < 0x0100600000 then 0
  else if a < 0x0100680000 then 1
  else if a < 0x0100880000 then 2
  else if a < 0x0100980000 then 3
  else if a < 0x0100B80000 then 4
  else if a < 0x0100D80000 then 5
  else if a < 0x0100E00000 then 6
  else if a < 0x0100F00000 then 7
  else if a < 0x0101200000 then 8
  else if a < 0x0101400000 then 9
  else 10

/-- The address lies in the Vat window or the bank window. -/
def isVat (a : Nat) : Bool := 0x0100000000 ≤ a && a < 0x0101600000

/-- The address lies in the DRAM window (32 GiB from 0x10_0000_0000). -/
def isDram (a : Nat) : Bool := 0x1000000000 ≤ a && a < 0x1800000000

/-- The DRAM access region of an address (R127): 0xFF for the default. -/
def dramRegion (s : State) (a : Nat) : Nat :=
  let m := (a - 0x1000000000) / 2 ^ 20
  match (List.range 16).find? fun r =>
    s.is ACC_DRAM_BASE.EN r && s.get ACC_DRAM_BASE.BASE r ≤ m && m ≤ s.get ACC_DRAM_LIMIT.LIMIT r with
  | some r => r
  | none => 0xFF

/-- SPACE and INDEX of an address. -/
def accTarget (s : State) (a : Nat) : Nat × Nat :=
  if isDram a then (2, dramRegion s a)
  else if isVat a then (1, vatRegion a)
  else (0, (regBlock a).getD 0)

/-- The access entry of a target. -/
def accEntry (s : State) (space index : Nat) : Nat :=
  if space = 0 then s.get ACC_BLK.RIGHTS index
  else if space = 1 then s.get ACC_VAT.RIGHTS index
  else if index = 0xFF then s.get ACC_DRAM_DEFAULT.RIGHTS
  else s.get ACC_DRAM_RIGHTS.RIGHTS index

/-- A class has a right on a target: 0 R, 1 W, 2 X (R125); CORE has every right (R126). -/
def mayAccess (s : State) (cls right space index : Nat) : Bool :=
  cls = 3 || bit (accEntry s space index) (3 * cls + right)

/-- The lowest address of a range on which a class lacks a right. Every region begins at a multiple of 512 KiB. -/
def firstLacking (s : State) (cls right a n : Nat) : Option Nat :=
  let starts := ((List.range (n / 0x80000 + 1)).map fun k => (a / 0x80000 + k + 1) * 0x80000).filter fun x => x < a + n
  (a :: starts).find? fun x => !mayAccess s cls right (accTarget s x).1 (accTarget s x).2

/-- The refusal of a class for a range, if it lacks the right (R128). -/
def rangeViol (s : State) (cls right kind opcode a n : Nat) : Option Viol :=
  (firstLacking s cls right a n).map fun x =>
    { cls := cls, kind := kind, space := (accTarget s x).1, index := (accTarget s x).2, opcode := opcode, addr := x }

/-- ACC_VIOL_INFO as a refusal is captured. -/
def Viol.info (v : Viol) : Nat :=
  2 ^ 31 + v.cls * 2 ^ 28 + v.kind * 2 ^ 26 + v.space * 2 ^ 24 + v.index * 2 ^ 16 + v.opcode * 2 ^ 8

/-- A refusal is captured if VALID is 0, counted and raised (R128). -/
def violate (v : Viol) (s : State) : State :=
  let s := if s.is ACC_VIOL_INFO.VALID then s
    else ((((((s.put ACC_VIOL_INFO.VALID 1).put ACC_VIOL_INFO.CLASS v.cls).put ACC_VIOL_INFO.KIND v.kind).put
      ACC_VIOL_INFO.SPACE v.space).put ACC_VIOL_INFO.INDEX v.index).put ACC_VIOL_INFO.OPCODE v.opcode).put
      ACC_VIOL_ADDR.ADDR v.addr
  raise SYS_ACCESS_VIOLATION v.info (s.count ACC_VIOL_COUNT.COUNT)

/-! ### Memory addresses -/

/-- U in bytes (R234). -/
def dramUsable (s : State) : Nat := s.get DRAM_USABLE.MIB * 2 ^ 20

/-- A DRAM range is usable: below U - 65,536 (R234). -/
def dramOk (s : State) (a n : Nat) : Bool :=
  0x1000000000 ≤ a && a + n + 65536 ≤ 0x1000000000 + dramUsable s

/-- The scratch area of the Cave window, the part that accepts writes (R72): the last 24 KiB. -/
def isScratch (a : Nat) : Bool := 0x0134A000 ≤ a && a < 0x01350000

/-- The window in which the Cave's images and its scratch area are read (R72). -/
def isCave (a : Nat) : Bool := 0x01310000 ≤ a && a < 0x01350000

/-- R27: regions that the FZ8131 itself writes while armed. -/
def lockedWhileArmed (a : Nat) : Bool :=
  isVat a && (vatRegion a = 0 || vatRegion a = 1 || vatRegion a = 4 || vatRegion a = 5)

/-- R303: why a write to the bank window is refused. -/
def bankLocked (s : State) (a : Nat) : Bool :=
  isVat a && vatRegion a = 10
    && ((a - 0x0101400000) / 0x100000 = s.get NMAP_STATUS.LIVE || spare s ≠ 1 || s.is NMAP_STATUS.CHECKING)

/-- The end of the register block or Vat region that holds an address (R107); the address itself where there is none. -/
def spaceEnd (a : Nat) : Nat :=
  if isVat a then
    [0x0100600000, 0x0100680000, 0x0100880000, 0x0100980000, 0x0100B80000, 0x0100D80000, 0x0100E00000,
      0x0100F00000, 0x0101200000, 0x0101400000, 0x0101600000].foldr (fun e r => if a < e then e else r) a
  else match regBlock a with
    | some 0 => 0x10000
    | some 1 => 0x20000
    | some 2 => 0x100000
    | some 20 => 0x1300000
    | some 21 => 0x1350000
    | some _ => (a / 0x100000 + 1) * 0x100000
    | none => a

/-- A range lies within one space of R107: a register block, a Vat region, or a DRAM access region, which changes at multiples of 1 MiB. -/
def oneSpace (s : State) (a n : Nat) : Bool :=
  if isDram a then
    let m := (a - 0x1000000000) / 2 ^ 20
    a + n ≤ 0x1800000000 && (List.range ((a + n - 1 - 0x1000000000) / 2 ^ 20 - m)).all fun k =>
      dramRegion s (0x1000000000 + (m + 1 + k) * 2 ^ 20) = dramRegion s a
  else a + n ≤ spaceEnd a

end Sys2Proof.Machine
end

