-- ==== Sys2Proof/Machine/Curd.lean ====
section
/-! DEFINITION. The Curd codec (R206, R214, R218 to R220, R229): rows in planar form, strip headers, decoding a body as it arrives, and coding rows into strips. -/

namespace Sys2Proof.Machine

/-- plane_bytes of R206. -/
def planeBytes (columns : Nat) : Nat := (columns + 511) / 512 * 64

/-- ROW_BYTES of R206. -/
def rowBytes (columns : Nat) : Nat := 3 * planeBytes columns

/-- A byte from eight truth values, bit 0 first. -/
def packByte (f : Nat → Bool) : Byte := BitVec.ofNat 8 ((List.range 8).foldl (fun v i => v + b2n (f i) * 2 ^ i) 0)

/-- One row in planar form from its drop codes by column (R206); columns at or beyond COLUMNS are 0. -/
def planarRow (columns : Nat) (code : Nat → Nat) : List Byte :=
  ([0, 1, 2].map fun p => (List.range (planeBytes columns)).map fun y =>
    packByte fun i => 8 * y + i < columns && bit (code (8 * y + i)) p).flatten

/-- The code of a column in a planar row. -/
def rowCode (columns : Nat) (row : List Byte) (c : Nat) : Nat :=
  if c < columns then
    [0, 1, 2].foldl (fun v p => v + b2n (bit (row.getD (p * planeBytes columns + c / 8) 0).toNat (c % 8)) * 2 ^ p) 0
  else 0

/-- Rows in planar form from codes in row-major order. -/
def planarRows (columns rows : Nat) (codes : List Nat) : List Byte :=
  ((List.range rows).map fun r => let mine := (codes.drop (r * columns)).take columns
    planarRow columns fun c => mine.getD c 0).flatten

/-- Planar rows with the bits of columns at or beyond COLUMNS cleared (R218, ENC 1). -/
def planarClean (columns rows : Nat) (body : List Byte) : List Byte :=
  ((List.range rows).map fun r =>
    let mine := (body.drop (r * rowBytes columns)).take (rowBytes columns)
    planarRow columns (rowCode columns mine)).flatten

/-- How far the decoding of a body has come (R220). -/
inductive Scan where
  /-- More bytes are needed. -/
  | more
  /-- The strip is bad, with its KIND (Table 7.6). -/
  | bad (kind : Nat)
  /-- Every code has been produced: in row-major order. -/
  | whole (codes : List Nat)
  deriving DecidableEq, Repr

/-- The eight codes of a literal group, the first in bits [23:21] (Table 7.5). -/
def literalGroup (v : Nat) : List Nat := (List.range 8).map fun i => v / 2 ^ (21 - 3 * i) % 8

/-- Decode tokens (Table 7.5, R220) from the bytes of the body that have arrived, the number of bytes as fuel. The codes so far are kept in reverse; pos is the number of body bytes consumed. -/
def curdScan : Nat → Nat → Nat → Nat → Nat → List Byte → Nat → List Nat → Nat → Scan
  | 0, _, _, _, _, _, _, _, _ => .more
  | fuel + 1, format, columns, total, coded, bs, pos, codes, count =>
    -- a token of n bytes in all: it needs its bytes, and a body that reaches CODED_LEN within it is malformed
    let token (n : Nat) (make : List Byte → List Nat) (size : List Byte → Nat) : Scan :=
      if bs.length < n then (if coded ≤ pos + bs.length then .bad 3 else .more)
      else if count + size bs > total then .bad 2
      else curdScan fuel format columns total coded (bs.drop n) (pos + n) (make bs ++ codes) (count + size bs)
    match bs with
    | [] => if coded ≤ pos then .bad 3 else .more
    | b :: _ =>
      let v := b.toNat
      if v = 0xFF then
        if count < total ∨ pos + 1 < coded then .bad 4 else .whole codes.reverse
      else if v = 0xF0 then
        if format = 2 ∧ 0 < count ∧ count % columns = 0 then
          token 1 (fun _ => codes.take columns) (fun _ => columns)
        else .bad 3
      else if v < 0x80 then token 1 (fun _ => List.replicate (v % 16 + 1) (v / 16)) (fun _ => v % 16 + 1)
      else if v < 0xC0 then
        let n (bs : List Byte) := v % 8 * 256 + beAt bs 1 1 + 17
        token 2 (fun bs => List.replicate (n bs) (v / 8 % 8)) n
      else if v < 0xC8 then
        let n (bs : List Byte) := beAt bs 1 3 + 1
        token 4 (fun bs => List.replicate (n bs) (v % 8)) n
      else if 0xE0 ≤ v ∧ v < 0xF0 then
        let g := v % 16 + 1
        -- the number of codes is known from the first byte
        if count + 8 * g > total then .bad 2
        else token (1 + 3 * g) (fun bs => ((List.range g).map fun i => literalGroup (beAt bs (1 + 3 * i) 3)).flatten.reverse) (fun _ => 8 * g)
      else .bad 3

/-- What a strip must be: its page and its place in it (R212, R218). -/
structure StripPlan where
  /-- COLUMNS. -/
  columns : Nat
  /-- FIRST_ROW. -/
  first : Nat
  /-- ROWS. -/
  rows : Nat
  deriving DecidableEq, Repr

/-- CODED_LEN of a strip header. -/
def codedLen (bs : List Byte) : Nat := beAt bs 16 4

/-- A header that breaks a rule of Table 7.4. -/
def headerBad (p : StripPlan) (bs : List Byte) : Bool :=
  beAt bs 0 2 ≠ 0x4344 || (beAt bs 2 1 ≠ 1 && beAt bs 2 1 ≠ 2) || beAt bs 3 1 > 1
    || beAt bs 4 4 ≠ p.first || beAt bs 8 2 ≠ p.rows || beAt bs 10 2 ≠ 0
    || beAt bs 12 4 ≠ p.rows * rowBytes p.columns
    || (beAt bs 3 1 = 1 && codedLen bs ≠ beAt bs 12 4)

/-- Judge the bytes of a strip that have arrived (R218, R220): a good strip gives its rows in planar form. -/
inductive Judged where
  /-- The strip goes on. -/
  | more
  /-- It ends bad, with its KIND. -/
  | bad (kind : Nat)
  /-- It ends good, with its rows. -/
  | good (rows : List Byte)
  deriving DecidableEq, Repr

/-- The CRC of a strip is checked once all its bytes are there. -/
def judgeCrc (bs : List Byte) (rows : List Byte) : Judged :=
  let n := 20 + codedLen bs
  if bs.length < n + 4 then .more
  else if beAt bs n 4 = crc32c (bs.take n) then .good rows else .bad 1

/-- Judge a strip. -/
def judge (p : StripPlan) (bs : List Byte) : Judged :=
  if bs.length < 20 then .more
  else if headerBad p bs then .bad 5
  else
    let body := (bs.drop 20).take (codedLen bs)
    if beAt bs 3 1 = 1 then
      if body.length < codedLen bs then .more else judgeCrc bs (planarClean p.columns p.rows body)
    else match curdScan (body.length + 1) (beAt bs 2 1) p.columns (p.rows * p.columns) (codedLen bs) body 0 [] 0 with
      | .more => .more
      | .bad k => .bad k
      | .whole codes => judgeCrc bs (planarRows p.columns p.rows codes)

/-! ### Coding -/

/-- A run of n codes as one token (Table 7.5): a run of 16 or fewer may also be an EXT_RUN. -/
def runToken (c n : Nat) (ext : Bool) : List Byte :=
  if ext then BitVec.ofNat 8 (0xC0 + c) :: beBytes 3 (n - 1)
  else if n ≤ 16 then [BitVec.ofNat 8 (c * 16 + (n - 1))]
  else if n ≤ 2064 then [BitVec.ofNat 8 (0x80 + c * 8 + (n - 17) / 256), BitVec.ofNat 8 (n - 17)]
  else BitVec.ofNat 8 (0xC0 + c) :: beBytes 3 (n - 1)

/-- Code a list of codes into tokens, the number of codes as fuel; past holds the codes of the strip already coded, newest first. Which token comes next is the compressor's free choice (Config.coderChoice); columns is 0 where REPEAT_ROW may not be used (R229). -/
def codeTokens : Nat → Nat → List Nat → List Nat → List Byte
  | 0, _, _, _ => []
  | fuel + 1, columns, past, codes =>
    match codes with
    | [] => []
    | c :: rest =>
      let w := Config.coderChoice codes
      let go (n : Nat) := codeTokens fuel columns ((codes.take n).reverse ++ past) (codes.drop n)
      if w % 3 = 0 ∧ 0 < columns ∧ columns ≤ codes.length ∧ past ≠ [] ∧ past.length % columns = 0
          ∧ codes.take columns = (past.take columns).reverse then
        0xF0 :: go columns
      else if w % 3 = 1 ∧ 8 ≤ codes.length then
        let g := w / 3 % min 16 (codes.length / 8) + 1
        (BitVec.ofNat 8 (0xE0 + (g - 1)) :: ((List.range g).map fun i =>
          beBytes 3 ((List.range 8).foldl (fun v k => v * 8 + codes.getD (8 * i + k) 0) 0)).flatten) ++ go (8 * g)
      else
        let m := 1 + (rest.takeWhile fun d => d = c).length
        let n := w / 3 % min m (2 ^ 24) + 1
        runToken c n (bit w 0) ++ go n

/-- A coded strip of FORMAT 2 (R218, R229). -/
def codeStrip (enc columns first rows decoded : Nat) (codes : List Nat) : List Byte :=
  let body := codeTokens codes.length columns [] codes ++ [0xFF]
  let h := beBytes 2 0x4344 ++ beBytes 1 2 ++ beBytes 1 enc ++ beBytes 4 first ++ beBytes 2 rows ++ zeros 2
    ++ beBytes 4 decoded ++ beBytes 4 body.length
  h ++ body ++ beBytes 4 (crc32c (h ++ body))

/-- The codes of a row. -/
def rowCodes (columns : Nat) (row : List Byte) : List Nat := (List.range columns).map (rowCode columns row)

/-- Row mode (R229): strips of STRIP_ROWS rows, the last with what is left. -/
def codeRows (columns len stripRows : Nat) (rowAt : Nat → List Byte) : List Byte :=
  ((List.range ((len + stripRows - 1) / stripRows)).map fun i =>
    let n := min stripRows (len - i * stripRows)
    codeStrip 0 columns (i * stripRows) n (n * rowBytes columns)
      ((List.range n).map fun r => rowCodes columns (rowAt (i * stripRows + r))).flatten).flatten

/-- The 3-bit codes of a byte buffer, most significant bit first (R229). -/
def linearCodes (bs : List Byte) : List Nat :=
  (List.range (bs.length * 8 / 3)).map fun k =>
    let b (i : Nat) : Nat := b2n (bit (bs.getD ((3 * k + i) / 8) 0).toNat (7 - (3 * k + i) % 8))
    4 * b 0 + 2 * b 1 + b 2

/-- Linear mode (R229): one strip with ENC 2. -/
def codeLinear (bs : List Byte) : List Byte := codeStrip 2 0 0 0 bs.length (linearCodes bs)

end Sys2Proof.Machine
end

