-- ==== Sys2Proof/Machine/Ingest.lean ====
section
/-! DEFINITION. Jobs, the page queue, the raster ring, and strips on their way into it (R205 to R224, R231). -/

namespace Sys2Proof.Machine

/-! ### The ring -/

/-- A job is open. -/
def jobOpen (s : State) : Bool := s.is FIRE_ING_JOB.OPEN

/-- COLUMNS of the open job. -/
def columns (s : State) : Nat := s.get FIRE_ING_COLUMNS.COLUMNS

/-- Slots of the ring. -/
def slots (s : State) : Nat := s.get FIRE_ING_SLOTS.SLOTS

/-- The address of the slot of a ring row (R206). -/
def slotAddr (s : State) (q : Nat) : Nat := s.ing.ringBase + q % slots s * rowBytes (columns s)

/-- Replace the pages. -/
def State.setPages (s : State) (ps : List Page) : State := { s with ing := { s.ing with pages := ps } }

/-- Change every page of a PAGE_ID that is queued or printing. -/
def mapPage (id : Nat) (f : Page → Page) (s : State) : State :=
  s.setPages (s.ing.pages.map fun p => if p.id = id ∧ p.stage < 2 then f p else p)

/-- The page of a PAGE_ID that is queued or printing. -/
def findPage (s : State) (id : Nat) : Option Page := s.ing.pages.find? fun p => p.id = id && p.stage < 2

/-- The page that holds a ring row. -/
def pageOfRow (s : State) (q : Nat) : Option Page := s.ing.pages.find? fun p => p.base ≤ q && q < p.base + p.rows

/-- The slot groups of the enabled heads. -/
def liveGroups (s : State) : List Nat := ((liveHeads s).map fun h => [4 * h, 4 * h + 1, 4 * h + 2, 4 * h + 3]).flatten

/-- Ring rows below this have been fired by every slot group (R17). -/
def firedBelow (s : State) : Nat :=
  match liveGroups s with
  | [] => 0
  | g :: gs => gs.foldl (fun m g => min m (mapGet 0 s.fire.firedTo g)) (mapGet 0 s.fire.firedTo g)

/-- Ring rows of a page below this are released: fired, and read back or not to be (R17, R441). -/
def releasedBelow (s : State) (p : Page) : Nat :=
  let fired := if p.stage = 2 then p.base + p.rows else firedBelow s
  if p.unread then fired else min fired (p.base + p.readTo)

/-- A strip of the page has landed, good or bad. -/
def landed (p : Page) (i : Nat) : Bool := p.good.any (fun g => g.1 = i) || p.bad.contains i

/-- Row r of the page holds its ring slot: it has landed or underrun, and is not released (R17, R223). -/
def rowHeld (s : State) (p : Page) (r : Nat) : Bool :=
  (landed p (r / p.stripRows) || p.underrun.contains r) && releasedBelow s p ≤ p.base + r

/-- The slot of ring row q is held by another row. -/
def slotTaken (s : State) (q : Nat) : Bool :=
  let n := slots s
  s.ing.pages.any fun p => (List.range (p.rows / n + 1)).any fun i =>
    let r := (q + n - p.base % n) % n + n * i
    r < p.rows && p.base + r ≠ q && rowHeld s p r

/-- Ring rows that hold a slot. -/
def heldCount (s : State) : Nat :=
  s.ing.pages.foldl (fun m p => m + ((List.range p.rows).filter fun r => rowHeld s p r).length) 0

/-- FIRE_ING_FREE: slots free now. -/
def slotsFree (s : State) : Nat := slots s - heldCount s

/-- Ended pages none of whose rows is held are forgotten. -/
def prunePages (s : State) : State :=
  s.setPages (s.ing.pages.filter fun p => p.stage < 2 || (List.range p.rows).any fun r => rowHeld s p r)

/-- FIRE_ING_QUEUE.DEPTH: pages queued or printing. -/
def queueDepth (s : State) : Nat := (livePages s).length

/-- FIRE_ING_QUEUE.HEAD. -/
def queueHead (s : State) : Nat := match livePages s with | [] => 0xFFFF | p :: _ => p.id

/-- The oldest printing page's PAGE_ID, or 0xFFFF (Table 11.9). -/
def printingPage (s : State) : Nat :=
  match s.ing.pages.find? fun p => p.stage = 1 with | some p => p.id | none => 0xFFFF

/-- Show the oldest printing page. -/
def showPage (s : State) : State := s.put FIRE_STATUS.PAGE (printingPage s)

/-! ### Defect records -/

/-- Add a defect record (R231) and give its index. -/
def addRecord (page strip kind first rows : Nat) (s : State) : Nat × State :=
  let i := s.get FIRE_ING_DEFECT.NEXT
  let s := ((((s.put FIRE_ING_REC.PAGE page i).put FIRE_ING_REC.STRIP strip i).put FIRE_ING_REC.KIND kind i).put
    FIRE_ING_REC.FIRST_ROW first i).put FIRE_ING_REC.ROWS rows i
  (i, (s.count FIRE_ING_DEFECT.TOTAL).put FIRE_ING_DEFECT.NEXT (i + 1))

/-- Mark the page defective. -/
def markDefective (id : Nat) (s : State) : State := mapPage id (fun p => { p with defective := true }) s

/-- Record i is still the UNDERRUN record of a page's run that row r would lengthen: no later record has taken its place (R231). -/
def runRecord (s : State) (id i r : Nat) : Bool :=
  s.get FIRE_ING_REC.PAGE i = id && s.get FIRE_ING_REC.KIND i = 7
    && s.get FIRE_ING_REC.FIRST_ROW i + s.get FIRE_ING_REC.ROWS i = r

/-- Row r of a page underruns at its first fetch (R223). -/
def underrunRow (id r : Nat) (s : State) : State :=
  match findPage s id with
  | none => s
  | some p =>
    if p.underrun.contains r then s
    else
      let s := mapPage id (fun p => { p with underrun := p.underrun ++ [r], defective := true }) (s.count FIRE_ING_UNDERRUN_ROWS.COUNT)
      match p.underRec with
      | some (i, last) =>
        if last + 1 = r then
          mapPage id (fun p => { p with underRec := some (i, r) }) (onlyIf (runRecord s id i r) (·.count FIRE_ING_REC.ROWS i) s)
        else
          let (i, s) := addRecord id 0xFFFF 7 r 1 s
          raise PAGE_UNDERRUN (id + r % 65536 * 65536) (mapPage id (fun p => { p with underRec := some (i, r) }) s)
      | none =>
        let (i, s) := addRecord id 0xFFFF 7 r 1 s
        raise PAGE_UNDERRUN (id + r % 65536 * 65536) (mapPage id (fun p => { p with underRec := some (i, r) }) s)

/-! ### Strips -/

/-- The number of strips of a page (R212). -/
def stripCount (p : Page) : Nat := (p.rows + p.stripRows - 1) / p.stripRows

/-- What strip i of a page must be (R212). -/
def stripPlan (s : State) (p : Page) (i : Nat) : StripPlan :=
  { columns := columns s, first := i * p.stripRows, rows := min p.stripRows (p.rows - i * p.stripRows) }

/-- CODEC_STATUS.CTX_BUSY: the decode contexts in use, a strip that waits for its slots included. -/
def contextsBusy (s : State) : Nat := s.ing.strips.length + s.ing.landing.length

/-- Show the contexts in use. -/
def showContexts (s : State) : State := s.put CODEC_STATUS.CTX_BUSY (contextsBusy s)

/-- Count n discarded segments. -/
def discardSegments (n : Nat) (s : State) : State := s.add FIRE_ING_DISCARD.COUNT n

/-- Compare PAGE_CHECK once every strip holds a good copy (R222). -/
def pageCheck (id : Nat) (s : State) : State :=
  match findPage s id with
  | none => s
  | some p =>
    if p.checkEn ∧ ¬p.checked ∧ p.bad = [] ∧ p.good.length = stripCount p then
      let s := mapPage id (fun p => { p with checked := true }) s
      let rows := ((List.range (stripCount p)).map fun i => mapGet [] p.good i).flatten
      if crc32c rows = p.check then s
      else
        let s := (addRecord id 0xFFFF 8 0 p.rows (markDefective id s)).2
        raise CODEC_CHECK_FAIL (id * 65536 + 0xFFFF) s
    else s

/-- A decoded or bad strip lands in the ring (R208, R217, R222, R223): none while a slot that it needs is held. -/
def land (l : Landing) (s : State) : Option State :=
  match findPage s l.page with
  | none => some (discardSegments l.segments s)
  | some p =>
    let plan := stripPlan s p l.strip
    let was := p.bad.contains l.strip
    let fetched := p.base + plan.first < s.fire.fetchTop
    if (p.good.any fun g => g.1 = l.strip) ∨ (l.kind = 0 ∧ was ∧ fetched) then some (discardSegments l.segments s)
    else
      let rows := (List.range plan.rows).filter fun r => !p.underrun.contains (plan.first + r)
      if rows.any fun r => slotTaken s (p.base + plan.first + r) then none
      else
        let n := rowBytes plan.columns
        let data (r : Nat) : List Byte := if l.kind = 0 then slice l.rows (r * n) n else zeros n
        let s := each (fun r s => s.setBytes (slotAddr s (p.base + plan.first + r)) (data r)) rows s
        if l.kind = 0 then
          let s := mapPage l.page (fun p => { p with
            good := mapPut l.strip (if p.checkEn then l.rows else []) p.good
            bad := p.bad.filter (fun i => i ≠ l.strip) }) s
          let s := if was then (addRecord l.page l.strip 9 plan.first plan.rows s).2 else s
          some (pageCheck l.page s)
        else
          let s := mapPage l.page (fun p => { p with
            bad := if p.bad.contains l.strip then p.bad else p.bad ++ [l.strip], defective := true }) s
          let s := (addRecord l.page l.strip l.kind plan.first plan.rows s).2.count CODEC_BAD_STRIPS.COUNT
          some (raise (if l.kind = 2 then CODEC_LIMIT else CODEC_CHECK_FAIL) (l.page * 65536 + l.strip) s)

/-- The strip in progress of a source. -/
def stripOf (s : State) (source : Nat) : Option Strip := s.ing.strips.find? fun t => t.source = source

/-- The source has a strip that waits for its slots. -/
def sourceWaits (s : State) (source : Nat) : Bool := s.ing.landing.any fun l => l.source = source

/-- Take a source's strip in progress away. -/
def dropStrip (source : Nat) (s : State) : State :=
  { s with ing := { s.ing with strips := s.ing.strips.filter fun t => t.source ≠ source } }

/-- A source's strip ends, good (KIND 0) or bad, and waits to land. -/
def endStrip (t : Strip) (kind : Nat) (rows : List Byte) (s : State) : State :=
  let s := dropStrip t.source s
  { s with ing := { s.ing with landing := s.ing.landing ++
      [{ source := t.source, page := t.page, strip := t.strip, kind := kind, rows := rows, segments := t.segments, size := t.bytes.length }] } }

/-- The strip in progress of a source, if any, ends as bad with reason GAP (R215, R216). -/
def gapStrip (source : Nat) (s : State) : State :=
  match stripOf s source with
  | some t => endStrip t 6 [] s
  | none => s

/-- The 24 + CODED_LEN bytes of a strip, once its header is there (R215). -/
def stripLimit (bs : List Byte) : List Byte := if bs.length < 20 then bs else bs.take (24 + codedLen bs)

/-- Judge a source's strip in progress after new bytes. -/
def progress (t : Strip) (p : Page) (s : State) : State :=
  let s := dropStrip t.source s
  match judge (stripPlan s p t.strip) t.bytes with
  | .more => { s with ing := { s.ing with strips := s.ing.strips ++ [t] } }
  | .bad k => endStrip t k [] s
  | .good rows => endStrip t 0 rows s

/-- The bytes of a segment as its header and data (Table 7.3). -/
def segOk (seg : List Byte) : Bool := 12 ≤ seg.length && beAt seg 1 1 = 0 && beAt seg 6 2 = 0

/-- The strip that a segment names, if the job is open, the page queued or printing, and the strip within it and without a good copy (R215, R217). -/
def segTarget (s : State) (seg : List Byte) : Option Page :=
  if jobOpen s ∧ beAt seg 0 1 = s.get FIRE_ING_JOB.JOB then
    match findPage s (beAt seg 2 2) with
    | some p => if beAt seg 4 2 < stripCount p ∧ ¬(p.good.any fun g => g.1 = beAt seg 4 2) then some p else none
    | none => none
  else none

/-- The owner forwards a segment that it takes in, split at 232 data bytes (R477). -/
def forward (seg : List Byte) (s : State) : State :=
  if hasPeer s ∧ s.is PAIR_CTL.FWD ∧ s.get PAIR_STATUS.ROLE = 3 then
    let n := (seg.length - 12 + 231) / 232
    each (fun i s => fabOriginate 8 (s.get PAIR_PEER.NODE)
      (beBytes 1 2 ++ zeros 3 ++ seg.take 8 ++ beBytes 4 (beAt seg 8 4 + 232 * i) ++ ((seg.drop (12 + 232 * i)).take 232)) s)
      (List.range (max 1 n)) s
  else s

/-- Take a segment from a source that nothing holds back (R215). One that starts a strip while its source has one in progress ends that strip first, and then waits its turn behind it. -/
def takeSegment (source : Nat) (seg : List Byte) (s : State) : State :=
  if !segOk seg then discardSegments 1 s
  else match segTarget s seg with
  | none => gapStrip source (discardSegments 1 s)
  | some p =>
    let strip := beAt seg 4 2
    let off := beAt seg 8 4
    let data := seg.drop 12
    if off = 0 then
      if (stripOf s source).isSome then
        let s := gapStrip source s
        { s with ing := { s.ing with held := (source, some seg) :: s.ing.held } }
      else progress { source := source, page := p.id, strip := strip, bytes := stripLimit data, segments := 1 } p (forward seg s)
    else match stripOf s source with
      | some t =>
        if t.page = p.id ∧ t.strip = strip ∧ off = t.bytes.length then
          progress { t with bytes := stripLimit (t.bytes ++ data), segments := t.segments + 1 } p (forward seg s)
        else gapStrip source (discardSegments 1 s)
      | none => discardSegments 1 s

/-- A segment would start a strip while all 16 contexts are busy (R215). -/
def needsContext (s : State) (source : Nat) (item : Option (List Byte)) : Bool :=
  match item with
  | some seg => segOk seg && (segTarget s seg).isSome && beAt seg 8 4 = 0
      && (stripOf s source).isNone && contextsBusy s ≥ 16
  | none => false

/-- Take what a source sent: a segment, or a gap marker (R216). -/
def takeItem (source : Nat) (item : Option (List Byte)) (s : State) : State :=
  match item with
  | some seg => takeSegment source seg s
  | none => gapStrip source s

/-- Land what can land, oldest first; a source's later strips wait behind its first that cannot. -/
def landAll : List Landing → State → State
  | [], s => s
  | l :: ls, s =>
    if sourceWaits s l.source then landAll ls { s with ing := { s.ing with landing := s.ing.landing ++ [l] } }
    else match land l s with
      | some s => landAll ls s
      | none => landAll ls { s with ing := { s.ing with landing := s.ing.landing ++ [l] } }

/-- Land what can land. -/
def landNow (s : State) : State :=
  landAll s.ing.landing { s with ing := { s.ing with landing := [] } }

/-- The first held item that may be taken now: nothing of its source waits before it. -/
def takeHeld (s : State) : List (Nat × Option (List Byte)) → List (Nat × Option (List Byte)) → Option ((Nat × Option (List Byte)) × List (Nat × Option (List Byte)))
  | _, [] => none
  | before, e :: rest =>
    if (before.any fun b => b.1 = e.1) || sourceWaits s e.1 || needsContext s e.1 e.2 then takeHeld s (before ++ [e]) rest
    else some (e, before ++ rest)

/-- Land and take for as long as anything moves; the fuel is one more than the number of times that a held item can be taken, which is twice for one that first ends its source's strip. -/
def pump : Nat → State → State
  | 0, s => s
  | n + 1, s =>
    let s := landNow s
    match takeHeld s [] s.ing.held with
    | some (e, rest) => pump n (takeItem e.1 e.2 { s with ing := { s.ing with held := rest } })
    | none => s

/-- Everything in the ingress buffer moves on as far as it can (R208). -/
def ingestPump (s : State) : State := showContexts (pump (2 * s.ing.held.length + 1) (prunePages s))

/-- A raster source sends a segment, or a gap marker: it waits behind what its source has waiting (R208, R217). -/
def rasterItem (source : Nat) (item : Option (List Byte)) (s : State) : State :=
  if (s.ing.held.any fun e => e.1 = source) || sourceWaits s source || needsContext s source item then
    { s with ing := { s.ing with held := s.ing.held ++ [(source, item)] } }
  else ingestPump (takeItem source item s)

/-- Bytes in the ingress buffer for a range of sources: what CREDIT has lost (R208). -/
def ingressBytes (s : State) (lo hi : Nat) : Nat :=
  let mine (n : Nat) : Bool := lo ≤ n && n < hi
  (s.ing.held.foldl (fun m e => if mine e.1 then m + (e.2.getD []).length else m) 0)
    + (s.ing.landing.foldl (fun m l => if mine l.source then m + l.size else m) 0)

/-! ### Pages -/

/-- A page leaves the queue of pages queued or printing, by its end: its strips in progress are dropped. -/
def endPage (id : Nat) (s : State) : State :=
  let s := { s with ing := { s.ing with
    strips := s.ing.strips.filter (fun t => t.page ≠ id)
    landing := s.ing.landing.filter (fun l => l.page ≠ id) } }
  let ends := (s.ing.pages.filter fun p => p.id = id && p.stage < 2 && p.inspect).map fun p => p.base + p.rows
  let s := { s with nha := { s.nha with inspected := s.nha.inspected ++ ends } }
  ingestPump (showPage (mapPage id (fun p => { p with stage := 2 }) s))

/-- Cancel a page (R213): decoding of its strips stops, and its slots become free. -/
def cancelPage (id : Nat) (s : State) : State :=
  let s := { s with ing := { s.ing with
    strips := s.ing.strips.filter (fun t => t.page ≠ id)
    landing := s.ing.landing.filter (fun l => l.page ≠ id) } }
  s.setPages (s.ing.pages.filter fun p => ¬(p.id = id ∧ p.stage < 2))

/-- The rows of every page that the analyser still holds are released: it is disabled, or they have been read back. -/
def readBack (f : Page → Page) (s : State) : State := ingestPump (s.setPages (s.ing.pages.map f))

/-- Everything of ingest is lost with PD_PIPE; which geometry the previous job had is no state of a block (R205). -/
def ingestLost (s : State) : State := { s with ing := { lastGeometry := s.ing.lastGeometry } }

end Sys2Proof.Machine
end

