-- ==== Sys2Proof/Machine/Drop.lean ====
section
/-! DEFINITION. Waveform banks: their check, their floor and their swap (R345 to R349, R357 to R364). -/

namespace Sys2Proof.Machine

/-- Sub-pulse word j of entry e in bank b of head h (R345). -/
def wfWord (s : State) (h b e j : Nat) : Nat := s.get HL_WF.WORD h (32 * b + 4 * e + j)

/-- EN of a sub-pulse word (Table 12.2). -/
def wfEn (w : Nat) : Bool := bit w 31
/-- START. -/
def wfStart (w : Nat) : Nat := bits w 27 16
/-- WIDTH. -/
def wfWidth (w : Nat) : Nat := bits w 9 0

/-- The width of a sub-pulse at a trim, -32 to 31 (R349). -/
def trimWidth (w : Nat) (t : Int) : Nat :=
  if bit w 30 then (((wfWidth w : Int) * (256 + t) + 128) / 256).toNat else wfWidth w

/-- wmax of R347: the width at trim +31. -/
def wfMax (w : Nat) : Nat := trimWidth w 31

/-- The end of a sub-pulse at its greatest width. -/
def wfEnd (w : Nat) : Nat := wfStart w + wfMax w

/-- The four words of an entry. -/
def wfEntry (s : State) (h b e : Nat) : List Nat := [0, 1, 2, 3].map (wfWord s h b e)

/-- The enabled sub-pulses of an entry, in order. -/
def wfPulses (s : State) (h b e : Nat) : List Nat := (wfEntry s h b e).filter wfEn

/-- The on-time of an entry (R347). -/
def onTime (s : State) (h b e : Nat) : Nat := (wfPulses s h b e).foldl (fun m w => m + wfMax w) 0

/-- Two enabled sub-pulses in a row are out of order, or closer than 20 ns. -/
def gapBad : List Nat → Bool
  | w :: w' :: l => wfStart w' ≤ wfStart w || wfStart w' < wfEnd w + 20 || gapBad (w' :: l)
  | _ => false

/-- The first condition of R347 that an entry fails, as its code of Table 12.3. -/
def entryFault (s : State) (h b e : Nat) : Option Nat :=
  let ps := wfPulses s h b e
  if (wfEntry s h b e).any fun w => bits w 29 28 ≠ 0 || bits w 15 10 ≠ 0 then some 7
  else if ps.any fun w => wfWidth w < 16 || wfEnd w > 4095 then some 1
  else if gapBad ps then some 2
  else if 1 ≤ e ∧ ps = [] then some 3
  else if e = 0 ∧ onTime s h b e > s.get HL_WF_LIMIT.WHEY_MAX h then some 4
  else if onTime s h b e > s.get HL_WF_LIMIT.ON_MAX h then some 5
  else none

/-- The first failure of a bank, entries in ascending order (R347). -/
def bankFault (s : State) (h b : Nat) : Option Nat := [0, 1, 2, 3, 4, 5, 6, 7].findSome? (entryFault s h b)

/-- floor_ns of R348. -/
def wfFloor (s : State) (h b : Nat) : Nat :=
  let duty := s.get HL_WF_CFG.DUTY_MAX h
  [0, 1, 2, 3, 4, 5, 6, 7].foldl (fun f e =>
    let last := ((wfPulses s h b e).getLast?.map wfEnd).getD 0
    max (max f (last + 128 + s.get HL_WF_CFG.GUARD h)) ((onTime s h b e * 256 + duty - 1) / duty)) 0

/-- The live waveform bank of a head. -/
def wfLive (s : State) (h : Nat) : Nat := s.get HL_WF_STATE.LIVE h

/-- A period in 2^-24 ns respects the floor of a head's bank. -/
def floorOk (s : State) (h b period : Nat) : Bool := wfFloor s h b * 2 ^ 24 ≤ period

/-- R362: a period respects the live floor of every head enabled in the live table. -/
def liveFloorsOk (s : State) (period : Nat) : Bool := (liveHeads s).all fun h => floorOk s h (wfLive s h) period

/-- R362: every head enabled in the live table has VALID 1. -/
def wavesValid (s : State) : Bool := (liveHeads s).all fun h => s.is HL_WF_STATE.VALID h

/-- The grid period in 2^-24 ns. -/
def gridPeriod (s : State) : Nat := s.get FIRE_PERIOD_NS.NS * 2 ^ 24 + s.get FIRE_PERIOD_FRAC.FRAC

/-- Heads named by a mask, in ascending order. -/
def maskHeads (m : Nat) : List Nat := (List.range 64).filter fun h => bit m h

/-- A swap is refused at step 3 or 4 of R358: the first head that fails, and its reason. -/
def wfRefused (h reason : Nat) (s : State) : State :=
  ((s.put FIRE_WF_STATUS.RESULT 2).put FIRE_WF_STATUS.HEAD h).put FIRE_WF_STATUS.REASON reason

/-- A write of 1 to FIRE_WF_CTL.GO (R358): its status and the state after it. -/
def wfGo (s : State) : Nat × State :=
  if s.is FIRE_WF_STATUS.PENDING then (stBusy, s)
  else
    let m := s.get FIRE_WF_MASK.MASK
    let hs := maskHeads m
    if m = 0 then (stBadParam, s)
    else match hs.find? fun h => (bankFault s h (1 - wfLive s h)).isSome with
    | some h => (stBadParam, wfRefused h ((bankFault s h (1 - wfLive s h)).getD 0) s)
    | none =>
      let slow (h : Nat) : Bool := (armed s && !floorOk s h (1 - wfLive s h) (gridPeriod s))
        || (livePages s).any fun p => !floorOk s h (1 - wfLive s h) p.period
      match hs.find? slow with
      | some h => (stBadParam, wfRefused h 6 s)
      | none => (stOk, { s.put FIRE_WF_STATUS.PENDING 1 with fire := { s.fire with wfMask := m } })

/-- Show the floor of a head's live bank, once a swap has made one valid. -/
def showFloor (h : Nat) (s : State) : State :=
  if s.is HL_WF_STATE.VALID h then s.put HL_WF_STATE.FLOOR (wfFloor s h (wfLive s h)) h else s

/-- The banks of one head change over (R359). -/
def wfSwapHead (h : Nat) (s : State) : State :=
  showFloor h ((s.put HL_WF_STATE.LIVE (1 - wfLive s h) h).put HL_WF_STATE.VALID 1 h)

/-- A pending waveform swap takes effect at fire k, all ones if the bar is not armed (R359). -/
def wfTakeEffect (k : Nat) (s : State) : State :=
  if s.is FIRE_WF_STATUS.PENDING then
    let s := each wfSwapHead (maskHeads s.fire.wfMask) s
    let s := (s.put FIRE_WF_STATUS.PENDING 0).put FIRE_WF_STATUS.RESULT 1
    (s.put FIRE_WF_SWAP_FIRE.K k).count FIRE_WF_SWAPS.COUNT
  else s

/-- WAVEFORM_SWAP_EFFECT: with the bar not armed, the pending swap takes effect within 10 us (R359). While it is armed, the swap waits for the next decision, and the command does nothing. -/
def wfSwapUnarmed (s : State) : State := if armed s then s else wfTakeEffect (2 ^ 64 - 1) s

/-- R357: a write to word j of head h's waveform memory is refused with BUSY. -/
def wfLocked (s : State) (h j : Nat) : Bool :=
  j / 32 = wfLive s h || (s.is FIRE_WF_STATUS.PENDING && bit s.fire.wfMask h)

/-- R363: the status of a write that would set a head's waveform limits and mode to these values. -/
def wfCfgStatus (s : State) (h whey on guard duty mode : Nat) : Nat :=
  if duty = 0 ∨ mode = 3 then stBadParam
  else if armed s ∧ (whey ≠ s.get HL_WF_LIMIT.WHEY_MAX h ∨ on ≠ s.get HL_WF_LIMIT.ON_MAX h
      ∨ guard ≠ s.get HL_WF_CFG.GUARD h ∨ duty ≠ s.get HL_WF_CFG.DUTY_MAX h) then stBusy
  else stOk

end Sys2Proof.Machine
end

