-- ==== Sys2Proof/Machine/Reply.lean ====
section
/-! DEFINITION. What the action of a command is given, and what it answers: a reply status, the reply's data and the state (R103, R111). -/

namespace Sys2Proof.Machine

/-- What a command's action knows of its sender (R114). -/
structure Env where
  /-- Where it came in. -/
  via : Ingress
  /-- The master class: 0 HOST0, 1 HOST1, 2 FABRIC, 3 CORE, 4 DMA, 5 NHA, 6 DEBUG, 7 SIDEBAND (Table 4.9). -/
  cls : Nat
  /-- The source endpoint's key. -/
  endpoint : Nat
  /-- OPCODE. -/
  opcode : Nat
  deriving DecidableEq, Repr

/-- What an action answers. -/
structure Res where
  /-- STATUS (Table 4.4). -/
  st : Nat
  /-- The reply data, where the status is OK or STALE. -/
  data : List Byte := []
  /-- The state after it. -/
  s : State
  deriving DecidableEq, Repr

/-- A refusal without side effects (R111). -/
def no (st : Nat) (s : State) : Res := { st := st, s := s }

/-- OK with the state after the action. -/
def ok (s : State) : Res := { st := stOk, s := s }

/-- OK with reply data. -/
def okWith (data : List Byte) (s : State) : Res := { st := stOk, data := data, s := s }

end Sys2Proof.Machine
end

