-- ==== Sys2Proof/Machine/Axis.lean ====
section
/-! DEFINITION. The maintenance axes (chapter 18): states, the rate multiplier, the profile, moves, stops, limits, homing and the coil drive. -/

namespace Sys2Proof.Machine

/-- What an axis keeps. -/
def State.axis (s : State) (a : Nat) : Axis := mapGet {} s.axes a

/-- Replace what an axis keeps. -/
def State.setAxis (s : State) (a : Nat) (x : Axis) : State := { s with axes := mapSet {} a x s.axes }

/-- The axis state (Table 18.2): 0 OFF, 1 HOLD, 2 MOVING, 3 HOMING, 4 FAULT. -/
def axState (s : State) (a : Nat) : Nat := s.get AXIS_STATUS.STATE a

/-- The axis is MOVING or HOMING. -/
def axBusy (s : State) (a : Nat) : Bool := axState s a = 2 || axState s a = 3

/-- The position P. -/
def axP (s : State) (a : Nat) : Int := s.getS AXIS_POS.P a

/-- The direction of travel. -/
def axDir (s : State) (a : Nat) : Int := if s.is AXIS_STATUS.DIR a then -1 else 1

/-- The six axes. -/
def allAxes : List Nat := [0, 1, 2, 3, 4, 5]

/-- Some axis is moving. -/
def anyAxisBusy (s : State) : Bool := allAxes.any (axBusy s)

/-- The axis is at its target (R502). -/
def axAtTarget (s : State) (a : Nat) : Bool :=
  axState s a = 2 && (s.axis a).aimed && axP s a = s.getS AXIS_TARGET.TARGET a

/-- A move or a homing ends in HOLD: VNOW 0 and nothing left over. -/
def axHold (a : Nat) (s : State) : State :=
  let x := s.axis a
  let s := (s.put AXIS_VNOW.V 0 a).put AXIS_STATUS.STATE 1 a
  s.setAxis a { x with home := none, aimed := false, stop := none, off := false, limit := false, found := false, wrong := false, missed := false, done := 0 }

/-- R506: a move reaches its target. -/
def axDone (a : Nat) (s : State) : State :=
  let s := (axHold a s).put AXIS_STATUS.LAST_END 1 a
  raise AXIS_DONE (a + 16 + 256 * s.get AXIS_STATUS.POS_DOUBT a) s

/-- R508, R509: a stop takes effect, with its end reason. -/
def axStopNow (a reason : Nat) (s : State) : State :=
  let off := (s.axis a).off
  let s := (((axHold a s).put AXIS_STATUS.POS_DOUBT 1 a).put AXIS_STATUS.HOMED 0 a).put AXIS_STATUS.LAST_END reason a
  let s := onlyIf off (fun s => s.put AXIS_STATUS.STATE 0 a) s
  raise AXIS_DONE (a + 16 * reason + 256) s

/-- R511: a fault of Table 18.4. -/
def axFault (a code : Nat) (s : State) : State :=
  let homing := axState s a = 3
  let s := ((axHold a s).put AXIS_STATUS.POS_DOUBT 1 a).put AXIS_STATUS.HOMED 0 a
  let s := onlyIf (code = 1) (fun s => s.put AXIS_STATUS.STATE 4 a) s
  let s := (s.put AXIS_STATUS.LAST_FAULT code a).count AXIS_FAULTS.COUNT a
  raise AXIS_FAULT (a + 16 * code + 256 * b2n homing) s

/-- Table 18.3: the home switch has tripped, and P is rebased on the latched edge. -/
def axHomed (a : Nat) (s : State) : State :=
  match (s.axis a).home with
  | none => s
  | some (_, pos, hi) =>
    let latched := if hi then s.getS AXIS_LIM_HI_POS.P a else s.getS AXIS_LIM_LO_POS.P a
    let s := (axHold a s).putS AXIS_POS.P (pos + (axP s a - latched)) a
    let s := (s.put AXIS_STATUS.POS_DOUBT 0 a).put AXIS_STATUS.HOMED 1 a
    raise AXIS_HOME_DONE (a + 16 * b2n hi) s

/-! ### The rate multiplier (R495) -/

/-- One microstep in the direction of travel, never beyond the target (R502), and HOME_MAX noted (Table 18.3). -/
def axStep (a : Nat) (s : State) : State :=
  let x := s.axis a
  if axAtTarget s a || x.limit || x.found || x.wrong || x.missed then s
  else
    let s := s.putS AXIS_POS.P (axP s a + axDir s a) a
    match x.home with
    | some (most, _, _) =>
      if (axP s a - x.origin).natAbs ≥ most then s.setAxis a { x with missed := true } else s
    | none => s

/-- The advances that the accumulator needs to overflow. -/
def axUntil (phase vnow : Nat) : Nat := (2 ^ 32 - phase + vnow - 1) / vnow

/-- AXIS_MICROSTEP: the accumulator overflows within the present profile tick, and one microstep is issued (R495, R496). -/
def axMicrostep (a : Nat) (s : State) : State :=
  let x := s.axis a
  let v := s.get AXIS_VNOW.V a
  let n := axUntil x.phase v
  if axBusy s a ∧ 0 < v ∧ x.done + n ≤ 100 then
    axStep a (s.setAxis a { x with done := x.done + n, phase := x.phase + n * v - 2 ^ 32 })
  else s

/-! ### The profile (R500 to R502) -/

/-- Length of the jerk phase of a ramp to velocity word v, in us. -/
def jerkTime (amax jmax v : Nat) : Nat :=
  if v * jmax ≥ amax * amax then 1000 * amax / jmax else isqrt (v * 1000000 / jmax)

/-- Length of a ramp from rest to velocity word v, in us (R501). -/
def rampTime (amax jmax v : Nat) : Nat :=
  if v * jmax ≥ amax * amax then 1000 * v / amax + 1000 * amax / jmax else 2 * isqrt (v * 1000000 / jmax)

/-- The velocity word n us into a ramp to v: jerk up, constant acceleration, jerk down. -/
def rampAt (amax jmax v n : Nat) : Nat :=
  let tj := jerkTime amax jmax v
  let t := rampTime amax jmax v
  if n ≥ t then v
  else if n ≤ tj then min v (jmax * n * n / 2000000)
  else if n + tj ≥ t then v - min v (jmax * (t - n) * (t - n) / 2000000)
  else min v (amax * (2 * n - tj) / 2000)

/-- The microsteps that a ramp to v covers: the distance of constant speed v for half its time (R501). -/
def rampSteps (amax jmax v : Nat) : Nat := v * rampTime amax jmax v * 50 / 2 ^ 32

/-- The greatest peak below 2^(bits) above a base whose two ramps cover at most a length. -/
def peakFor (amax jmax len : Nat) : Nat → Nat → Nat
  | 0, v => v
  | b + 1, v =>
    let c := v + 2 ^ b
    peakFor amax jmax len b (if 2 * rampSteps amax jmax c ≤ len then c else v)

/-- The peak of a move of a length (R501): VMAX, or less where two ramps to VMAX would not fit. -/
def movePeak (amax jmax vmax len : Nat) : Nat :=
  if 2 * rampSteps amax jmax vmax ≤ len then vmax else min vmax (peakFor amax jmax len 27 0)

/-- Length of an aimed move in us: two ramps and the cruise between them. -/
def moveTime (amax jmax v len : Nat) : Nat :=
  2 * rampTime amax jmax v + (if v = 0 then 0 else (len - 2 * rampSteps amax jmax v) * 2 ^ 32 / (100 * v))

/-- VNOW n us into a move (R501). -/
def vnowAt (x : Axis) (len n : Nat) : Nat :=
  if x.aimed then
    let t := moveTime x.amax x.jmax x.peak len
    if n ≥ t then 0 else min (rampAt x.amax x.jmax x.peak n) (rampAt x.amax x.jmax x.peak (t - n))
  else rampAt x.amax x.jmax x.peak n

/-- Issue n microsteps. -/
def axSteps : Nat → Nat → State → State
  | 0, _, s => s
  | n + 1, a, s => axSteps n a (axStep a s)

/-- What ends in a profile tick, by Table 18.5: some outcome of the move, or none. -/
def axSettle (a : Nat) (s : State) : Option State :=
  let x := s.axis a
  if axAtTarget s a then some (axDone a s)
  else if x.wrong then some (axFault a 3 s)
  else if x.found then some (axHomed a s)
  else if x.limit then some (axFault a 2 s)
  else if x.missed then some (axFault a 4 s)
  else x.stop.map fun r => axStopNow a r s

/-- AXIS_PROFILE_TICK for one axis (R501, R515): the rest of the tick's advances, the end of the move if one is due, else the next VNOW. An aimed move whose time is up takes what the rounding of VNOW has left of its way. -/
def axTick (a : Nat) (s : State) : State :=
  if axBusy s a then
    let x := s.axis a
    let v := s.get AXIS_VNOW.V a
    let acc := x.phase + (100 - x.done) * v
    let s := axSteps (acc / 2 ^ 32) a (s.setAxis a { x with phase := acc % 2 ^ 32, done := 0, ticks := x.ticks + 1 })
    match axSettle a s with
    | some s => s
    | none =>
      let x := s.axis a
      let len := (s.getS AXIS_TARGET.TARGET a - x.origin).natAbs
      if x.aimed ∧ x.ticks ≥ moveTime x.amax x.jmax x.peak len then axDone a (s.putS AXIS_POS.P (s.getS AXIS_TARGET.TARGET a) a)
      else s.put AXIS_VNOW.V (vnowAt x len x.ticks) a
  else s

/-! ### Commands -/

/-- R471: AXIS_MOVE and AXIS_HOME need ownership while EN is 1. -/
def axNotOwner (s : State) : Bool := s.is PAIR_CTL.EN && s.get PAIR_STATUS.ROLE ≠ 3

/-- The limit toward which a direction travels is tripped. -/
def axBlocked (s : State) (a : Nat) (dir : Int) : Bool :=
  if dir = 1 then s.is AXIS_STATUS.LIM_HI a else s.is AXIS_STATUS.LIM_LO a

/-- A move or a homing begins (R495, R500, R505). -/
def axBegin (a st : Nat) (dir : Int) (x : Axis) (s : State) : State :=
  let s := ((s.put AXIS_STATUS.STATE st a).putB AXIS_STATUS.DIR (dir = -1) a).put AXIS_VNOW.V 0 a
  (s.count AXIS_MOVES.COUNT a).setAxis a { x with
    phase := 0, done := 0, ticks := 0, origin := axP s a, stop := none, off := false
    limit := false, found := false, wrong := false, missed := false
    amax := s.get AXIS_AMAX.AMAX a, jmax := s.get AXIS_JMAX.JMAX a }

/-- AXIS_MOVE's parameters are valid (R503). -/
def axisMoveOk (ps : List Byte) : Bool :=
  ps.length = 12 && beAt ps 0 1 ≤ 5 && beAt ps 1 1 ≤ 3 && beAt ps 2 2 = 0
    && (!bit (beAt ps 1 1) 1 || beAt ps 4 8 ≠ 0)

/-- AXIS_MOVE (R503 to R506). -/
def axisMove (ps : List Byte) (s : State) : Res :=
  let a := beAt ps 0 1
  let flags := beAt ps 1 1
  let t := sext 64 (beAt ps 4 8)
  let run := bit flags 1
  let target := sext 64 (wrap 64 (if bit flags 0 && !run then axP s a + t else t))
  let dir : Int := if run then (if t < 0 then -1 else 1) else if target < axP s a then -1 else 1
  if axNotOwner s then no stNotOwner s
  else if axBusy s a then no stMoving s
  else if axState s a ≠ 1 then no stBusy s
  else if (run || target ≠ axP s a) && axBlocked s a dir then no stBusy s
  else
    let len := (target - axP s a).natAbs
    let vmax := s.get AXIS_VMAX.VMAX a
    let peak := if run then vmax else movePeak (s.get AXIS_AMAX.AMAX a) (s.get AXIS_JMAX.JMAX a) vmax len
    let s := axBegin a 2 dir { s.axis a with home := none, aimed := !run, peak := peak } s
    let s := s.putS AXIS_TARGET.TARGET (if run then t else target) a
    ok (if axAtTarget s a then axDone a s else s)

/-- AXIS_STOP's parameters are valid (R507). -/
def axisStopOk (ps : List Byte) : Bool := ps.length = 4 && beAt ps 0 1 ≤ 63 && beAt ps 1 3 = 0

/-- Ask an axis to stop at the next profile tick (R508). -/
def axAskStop (reason : Nat) (a : Nat) (s : State) : State :=
  if axBusy s a ∧ (s.axis a).stop = none then s.setAxis a { s.axis a with stop := some reason } else s

/-- AXIS_STOP (R507). -/
def axisStop (ps : List Byte) (s : State) : Res :=
  ok (each (axAskStop 2) (allAxes.filter fun a => bit (beAt ps 0 1) a) s)

/-- R510: the role leaves OWNER while PAIR_CTL.EN is 1. -/
def axesOwnerStop (s : State) : State := if s.is PAIR_CTL.EN then each (axAskStop 3) allAxes s else s

/-- AXIS_HOME's parameters are valid (R514). -/
def axisHomeOk (ps : List Byte) : Bool :=
  ps.length = 20 && beAt ps 0 1 ≤ 5 && beAt ps 1 1 ≤ 1 && beAt ps 2 2 = 0
    && 1 ≤ beAt ps 4 4 && beAt ps 4 4 ≤ 0x06666666 && 1 ≤ beAt ps 8 4

/-- AXIS_HOME (R514). -/
def axisHome (ps : List Byte) (s : State) : Res :=
  let a := beAt ps 0 1
  let hi := beAt ps 1 1 = 1
  let dir : Int := if hi then 1 else -1
  if axNotOwner s then no stNotOwner s
  else if axBusy s a then no stMoving s
  else if axState s a ≠ 1 then no stBusy s
  else if axBlocked s a dir then no stBusy s
  else ok (axBegin a 3 dir { s.axis a with
    home := some (beAt ps 8 4, sext 64 (beAt ps 12 8), hi), aimed := false, peak := beAt ps 4 4 } s)

/-! ### Inputs -/

/-- AXIS_DRIVER_FAULT: filtered AXa_FLT_N is low (R493, R511). -/
def axDriverFault (a : Nat) (s : State) : State :=
  let s := s.put AXIS_STATUS.FLT_IN 1 a
  if axState s a ≠ 0 ∧ axState s a ≠ 4 then axFault a 1 s else s

/-- AXIS_FLT_N_RELEASE: filtered AXa_FLT_N is high again. -/
def axDriverRelease (a : Nat) (s : State) : State := s.put AXIS_STATUS.FLT_IN 0 a

/-- AXIS_LIMIT_TRIP (R512, R513, Table 18.3): the input has held its active level for DEB us; since microsteps have been issued after the edge that began the run. What a trip ends is settled in the profile tick (R515). -/
def axLimitTrip (a : Nat) (hi : Bool) (since : Nat) (s : State) : State :=
  if (if hi then s.is AXIS_STATUS.LIM_HI a else s.is AXIS_STATUS.LIM_LO a) then s
  else
    let s := if axAtTarget s a then axDone a s else s
    let at_ := axP s a - axDir s a * since
    let s := if hi then (s.putS AXIS_LIM_HI_POS.P at_ a).put AXIS_STATUS.LIM_HI 1 a
      else (s.putS AXIS_LIM_LO_POS.P at_ a).put AXIS_STATUS.LIM_LO 1 a
    let x := s.axis a
    let ahead : Bool := if hi then axDir s a = 1 else axDir s a = -1
    let busy := axBusy s a
    let s := match x.home with
      | some (_, _, want) =>
        if want = hi then s.setAxis a { x with found := true } else s.setAxis a { x with wrong := true }
      | none => if busy ∧ ahead then s.setAxis a { x with limit := true } else s
    raise AXIS_LIMIT (a + 16 * b2n hi + 32 * b2n busy) s

/-- AXIS_LIMIT_RELEASE (R512). -/
def axLimitRelease (a : Nat) (hi : Bool) (s : State) : State :=
  if hi then s.put AXIS_STATUS.LIM_HI 0 a else s.put AXIS_STATUS.LIM_LO 0 a

/-! ### Registers -/

/-- A write of AXIS_CTL (R494, R498): its status and the state after it. -/
def axCtlWrite (a value : Nat) (s : State) : Nat × State :=
  let clr := bit value 31
  let en := bit value 0
  if clr ∧ (s.is AXIS_STATUS.FLT_IN a ∨ axState s a ≠ 4) then (stBusy, s)
  else if bit value 1 ≠ s.is AXIS_CTL.INV a ∧ axBusy s a then (stBusy, s)
  else
    let s := ((s.put AXIS_CTL.LIM_POL (bits value 9 8) a).putB AXIS_CTL.INV (bit value 1) a).putB AXIS_CTL.EN en a
    let s := onlyIf clr (fun s => s.put AXIS_STATUS.STATE 1 a) s
    if !en then
      if axBusy s a then
        let s := axAskStop 2 a s
        (stOk, s.setAxis a { s.axis a with off := true })
      else (stOk, s.put AXIS_STATUS.STATE 0 a)
    else if axState s a = 0 then
      let s := s.put AXIS_STATUS.STATE 1 a
      (stOk, if s.is AXIS_STATUS.FLT_IN a then axFault a 1 s else s)
    else (stOk, s.setAxis a { s.axis a with off := false })

/-- A write of AXIS_POS_HI commits P and clears POS_DOUBT (R511). -/
def axPosCommit (a value : Nat) (s : State) : Nat × State :=
  if axBusy s a then (stBusy, s)
  else (stOk, (s.put AXIS_POS.P (value * 2 ^ 32 + (s.axis a).stage) a).put AXIS_STATUS.POS_DOUBT 0 a)

/-- A write of AXIS_POS_LO stages bits [31:0] (R511). -/
def axPosStage (a value : Nat) (s : State) : State := s.setAxis a { s.axis a with stage := value }

/-! ### The coil drive (R498, R499) -/

/-- AXIS_PWM_PERIOD: the duties of the two phases, and their senses. -/
def axPwm (a : Nat) (s : State) : State :=
  let st := axState s a
  let x := s.axis a
  if st = 0 ∨ st = 4 then s.setAxis a { x with dutyA := 0, dutyB := 0, negA := false, negB := false }
  else
    let p := wrap 64 (axP s a)
    let q := p / 256 % 4
    let m := p % 256
    let t (i : Nat) : Nat := s.get AXIS_TABLE.T a i
    let ta := if q % 2 = 1 then t m else t (255 - m)
    let tb := if q % 2 = 1 then t (255 - m) else t m
    let fs := s.get AXIS_VNOW.V a * 100000000 / 2 ^ 40
    let k0 := if st = 1 then s.get AXIS_KVAL.KHOLD a else s.get AXIS_KVAL.KRUN a
    let k := min 4095 (k0 + s.get AXIS_BEMF.BEMF a * fs / 65536)
    s.setAxis a { x with
      dutyA := (ta * k + 511) / 1023, dutyB := (tb * k + 511) / 1023
      negA := q = 1 || q = 2, negB := xor (decide (q ≥ 2)) (s.is AXIS_CTL.INV a) }

/-- The axes after PD_CTL wakes with its registers restored (R516). -/
def axesWake (s : State) : State :=
  each (fun a s => if s.is AXIS_CTL.EN a then ((s.put AXIS_STATUS.STATE 1 a).put AXIS_STATUS.POS_DOUBT 1 a).put AXIS_STATUS.HOMED 0 a else s)
    allAxes s

/-- What the axes keep beside their registers is lost with PD_CTL. -/
def axesLost (s : State) : State := { s with axes := [] }

/-! ### The commands of chapter 18 that come from the axis itself -/

/-- AXIS_PROFILE_TICK (R501). -/
def execAxisProfileTick (axis : Fin 6) (s : State) : Host.Outcome State Fault Refusal := .next (axTick axis.val s)

/-- AXIS_MICROSTEP (R495). -/
def execAxisMicrostep (axis : Fin 6) (s : State) : Host.Outcome State Fault Refusal := .next (axMicrostep axis.val s)

/-- AXIS_PWM_PERIOD (R498). -/
def execAxisPwmPeriod (axis : Fin 6) (s : State) : Host.Outcome State Fault Refusal := .next (axPwm axis.val s)

/-- AXIS_DRIVER_FAULT (R493). -/
def execAxisDriverFault (axis : Fin 6) (s : State) : Host.Outcome State Fault Refusal := .next (axDriverFault axis.val s)

/-- AXIS_FLT_N_RELEASE (R493). -/
def execAxisFltNRelease (axis : Fin 6) (s : State) : Host.Outcome State Fault Refusal := .next (axDriverRelease axis.val s)

/-- AXIS_LIMIT_TRIP (R512). -/
def execAxisLimitTrip (axis : Fin 6) (hi : Bool) (since : BitVec 10) (s : State) : Host.Outcome State Fault Refusal :=
  .next (axLimitTrip axis.val hi since.toNat s)

/-- AXIS_LIMIT_RELEASE (R512). -/
def execAxisLimitRelease (axis : Fin 6) (hi : Bool) (s : State) : Host.Outcome State Fault Refusal :=
  .next (axLimitRelease axis.val hi s)

end Sys2Proof.Machine
end

