-- ==== Sys2Proof/Machine/FireStop.lean ====
section
/-! DEFINITION. How the bar stops, and what the head ports and pages do at a stop (R339, R340, R367, R368). -/

namespace Sys2Proof.Machine

/-- The device is a standby: its role is STANDBY. -/
def isStandby (s : State) : Bool := s.get PAIR_STATUS.ROLE = 1

/-- The 64 head ports. -/
def allHeads : List Nat := List.range 64

/-- Set the link state of a head port. -/
def setHl (h st : Nat) (s : State) : State := s.put HL_STATUS.STATE st h

/-- Raise HL_PRESENCE for a head port (Table 13.11). -/
def raisePresence (h : Nat) (ready : Bool) (s : State) : State :=
  raise HL_PRESENCE (h + 256 * s.get HL_STATUS.PRESENT h + 512 * b2n ready) s

/-- A port enters READY, which raises HL_PRESENCE (R368); a standby's goes on to HOLD (Table 13.1). -/
def hlReady (h : Nat) (s : State) : State :=
  let s := raisePresence h true (setHl h 4 s)
  if isStandby s then setHl h 7 s else s

/-- R476: the links of a device that has become a standby go from READY to HOLD. -/
def linksHold (s : State) : State := each (fun h s => if hlState s h = 4 then setHl h 7 s else s) allHeads s

/-- The bar stops at once (R340): no fire after the last one decided. The first reason stands. -/
def fireStop (reason : Nat) (s : State) : State :=
  if armed s ∧ s.fire.stop = none then { s with fire := { s.fire with stop := some reason } } else s

/-- The bar stops, and fire j is the last fire whose packet has begun: how many of the fires decided and not yet due that takes in is a free value (R476, R486). -/
def fireStopCut (reason : Nat) (s : State) : State :=
  if armed s then
    let s := fireStop reason s
    let (m, s) := s.draw 8
    { s with fire := { s.fire with decided := s.fire.decided.take (m % (s.fire.decided.length + 1)) } }
  else s

/-- A page has rows that some slot group has not fired. -/
def pageUnfired (s : State) (p : Page) : Bool :=
  (liveGroups s).any fun g => mapGet 0 s.fire.firedTo g < p.base + p.rows

/-- FIRE_PAGE_END of a page (Table 11.10). -/
def raisePageEnd (p : Page) (incomplete : Bool) (s : State) : State :=
  raise FIRE_PAGE_END (p.id + 65536 * b2n p.defective + 131072 * b2n incomplete) s

/-- A started page ends at a stop: its rows count as fired and are released, and what was not fired is kept for the analyser. -/
def stopPage (p : Page) (s : State) : State :=
  let at_ := (liveGroups s).map fun g => (g, mapGet 0 s.fire.firedTo g)
  endPage p.id (mapPage p.id (fun p => { p with stopAt := some at_ }) (raisePageEnd p (pageUnfired s p) s))

/-- R242: a retrain that was deferred starts when the bar disarms. -/
def deferredRetrains (s : State) : State :=
  each (fun m s => if s.is DRAM_STATUS.DUE m ∧ s.get DRAM_STATUS.STATE m = 2 then
    (s.put DRAM_STATUS.STATE 1 m).put DRAM_STATUS.DUE 0 m else s) [0, 1] s

/-- FIRE_STOP_COMPLETE (R340): the last fire has gone out, and the armed span ends. -/
def fireStopComplete (s : State) : State :=
  match s.fire.stop with
  | none => s
  | some reason =>
    if armed s ∧ s.fire.decided = [] then
      let page := printingPage s
      let s := each stopPage (s.ing.pages.filter fun p => p.stage = 1) s
      let s := { s with fire := { s.fire with
        triggers := [], stop := none, atEnd := false, standby := false, takeover := none, lines := [] } }
      let s := (((s.put FIRE_STATUS.STOP_REASON reason).put FIRE_STATUS.ARMED 0).put FIRE_STATUS.STALLED 0).put FIRE_STATUS.AGAINST 0
      let s := raise FIRE_STOPPED (reason + 65536 * page) s
      deferredRetrains (each (fun h s => if hlState s h = 6 then hlReady h s else s) allHeads s)
    else s

/-- FIRE_STOP_COMPLETE (R340). -/
def execFireStopComplete (s : State) : Host.Outcome State Fault Refusal := .next (fireStopComplete s)

end Sys2Proof.Machine
end

