-- ==== Sys2Proof/Machine/Hoop.lean ====
section
/-! DEFINITION. The ownership claim and the Hoop (R468 to R472, R476, R485 to R490). -/

namespace Sys2Proof.Machine

/-- The role (Table 17.1): 0 IDLE, 1 STANDBY, 2 GUARD, 3 OWNER, 4 HELD. -/
def role (s : State) : Nat := s.get PAIR_STATUS.ROLE

/-- PAIR_CTL.EN. -/
def paired (s : State) : Bool := s.is PAIR_CTL.EN

/-- OWN_OUT_N is driven low. -/
def claimed (s : State) : Bool := s.is PAIR_STATUS.OWN_CLAIM

/-- Set the role. Leaving STANDBY discards a bank transfer and clears what only a standby shows (R475, R479, R480); leaving OWNER stops the axes (R510) and drops a waiting swap (R483). -/
def setRole (r : Nat) (s : State) : State :=
  let old := role s
  let s := s.put PAIR_STATUS.ROLE r
  let s := onlyIf (old = 1 && r ≠ 1) (fun s =>
    let s := onlyIf s.pair.bankIn.isSome (fun s => s.put NMAP_STATUS.SPARE 0) s
    { ((s.put PAIR_STATUS.OOS 0).put PAIR_STATUS.IN_STEP 0).put PAIR_STATUS.WATCH 0 with
      pair := { s.pair with bankIn := none, reqBank := false } }) s
  let s := onlyIf (old = 3 && r ≠ 3) (fun s => axesOwnerStop (s.put PAIR_STATUS.SWAP_WAIT 0)) s
  onlyIf (r = 1) linksHold s

/-- The role that a device without the bar rests in. -/
def restRole (s : State) : Nat := if paired s then 1 else 0

/-- OWN_OUT_N is released: PAIR_RELINQUISH with its cause (Table 17.10), and a pair state entry (R541). -/
def dropClaim (cause : Nat) (stopped : Bool) (s : State) : State :=
  if claimed s then
    let s := s.put PAIR_STATUS.OWN_CLAIM 0
    pairEntry (role s) cause (raise PAIR_RELINQUISH (cause + 256 * b2n stopped) s)
  else s

/-- An owner gives up the bar (R469, R472, R476, R483): an armed bar stops with reason 0x5, and the role becomes STANDBY or IDLE. -/
def giveUp (cause : Nat) (s : State) : State :=
  let arm := armed s
  let s := setRole (restRole s) (fireStopCut 5 s)
  dropClaim cause arm s

/-! ### The Hoop -/

/-- LATCHED. -/
def latched (s : State) : Nat := s.get HOOP_STATUS.LATCHED

/-- FAULT_N is low on its own account (R487): SYS_BOOT_DONE has not been raised, or TESTMODE was high. -/
def faultBase (s : State) : Bool := !s.pow.bootDone || s.pow.testmode

/-- FAULT_N and CAP_REQ_N are asserted (Table 17.7, step 4). -/
def hoopAssert (s : State) : State := (s.put HOOP_STATUS.FAULT 1).put HOOP_STATUS.CAP 1

/-- The role becomes HELD, and a guard or waiting swap is abandoned (Table 17.7, step 2). -/
def hoopHeld (s : State) : State :=
  let s := setRole 4 (s.put PAIR_STATUS.SWAP_WAIT 0)
  let s := { s with fire := { s.fire with takeover := none } }
  (s.put HOOP_STATUS.ACTED 1).put HOOP_TIME.T s.now

/-- Table 17.7, step 3: the hold ends. -/
def hoopRelease (s : State) : State := dropClaim 4 s.pair.hoopStopped s

/-- The action for causes 0 to 3 and 7 (Table 17.7). A HOLD of 0 releases at once; the pins follow at HOOP_HOLD_EXPIRY. -/
def hoopAct (s : State) : State :=
  let arm := armed s
  let held := claimed s
  let hold := s.get HOOP_CFG.HOLD
  let first := match s.fire.decided with | d :: _ => d.k | [] => s.fire.next
  let s := fireStopCut 4 s
  let next := match s.fire.decided.getLast? with | some d => d.k + 1 | none => first
  let s := onlyIf arm (fun s => s.put HOOP_STATUS.OVERRIDE 1) s
  let s := hoopHeld s
  let s := { s with pair := { s.pair with holding := true, hoopStopped := arm, overrideNext := next } }
  let s := raise HOOP_ACTION (latched s + 256 * b2n held + 512 * b2n arm + 1024 * b2n (arm && held && hold ≠ 0)) s
  onlyIf (hold = 0) hoopRelease s

/-- The action for causes 4 to 6: no hold and no override, for their clocks or rails are gone (R42, R53, R85, R485). -/
def hoopDrop (s : State) : State :=
  let arm := armed s
  let held := claimed s
  let s := hoopHeld (fireStopCut 4 s)
  let s := { s with pair := { s.pair with holding := false, hoopStopped := arm } }
  let s := raise HOOP_ACTION (latched s + 256 * b2n held + 512 * b2n arm) s
  hoopAssert (hoopRelease s)

/-- Latch a cause (R485): the first one latched while none is starts an action; causes 4 to 6 release and assert in any case. -/
def hoopLatch (c : Nat) (s : State) : State :=
  let first := latched s = 0
  let s := s.putBit HOOP_STATUS.LATCHED c true
  if 4 ≤ c ∧ c ≤ 6 then
    if first then hoopDrop s
    else hoopAssert (hoopRelease (fireStopCut 4 { s with pair := { s.pair with holding := false } }))
  else if first then hoopAct s else s

/-- HOOP_HOLD_EXPIRY (Table 17.7, steps 3 and 4): a HOLD of 0xFF keeps the claim. -/
def hoopExpiry (s : State) : State :=
  if s.pair.holding then
    let s := { s with pair := { s.pair with holding := false } }
    hoopAssert (onlyIf (s.get HOOP_CFG.HOLD ≠ 0xFF) hoopRelease s)
  else s

/-- Once no cause is latched, the pins are released, OVERRIDE clears and the role leaves HELD (R487). -/
def hoopCleared (s : State) : State :=
  if latched s = 0 then
    let s := ((s.putB HOOP_STATUS.FAULT (faultBase s)).put HOOP_STATUS.CAP 0).put HOOP_STATUS.OVERRIDE 0
    let s := { s with pair := { s.pair with holding := false, hotHeads := [], lostGroups := 0 } }
    if role s = 4 then setRole (restRole s) (hoopRelease s) else s
  else s

/-- The highest of a head's four readings, in 1/16 degree. -/
def headMax (s : State) (h : Nat) : Int :=
  max (max (s.getS HL_TEMP01.T0 h) (s.getS HL_TEMP01.T1 h)) (max (s.getS HL_TEMP23.T2 h) (s.getS HL_TEMP23.T3 h))

/-- The condition of Table 17.6 that holds a latched cause. -/
def hoopHolds (s : State) (c : Nat) : Bool :=
  match c with
  | 0 => mapGet 2 s.pair.kicks 0 < 2
  | 1 => mapGet 2 s.pair.kicks 1 < 2
  | 2 => s.getS SYS_TEMP.MAX ≥ (s.getS SYS_TEMP_CFG.CRIT - 3) * 16
  | 3 => s.pair.hotHeads.any fun h => headMax s h ≥ (s.getS HL_TEMP_CFG.CRIT h - 3) * 16
  | 4 => s.pair.lostGroups ≠ 0
  | 5 => true
  | 6 => s.getS SYS_TEMP.MAX ≥ 110 * 16
  | _ => false

/-- A write of 1 to AON_CTL.FAULT_CLR (R487). -/
def hoopFaultClr (s : State) : State :=
  hoopCleared (each (fun c t => if hoopHolds s c then t else t.putBit HOOP_STATUS.LATCHED c false) [0, 1, 2, 3, 4, 5, 6, 7] s)

/-- What SYS_BOOT_DONE does to the Hoop (R487): causes 4 and 5 clear. -/
def hoopBootDone (s : State) : State :=
  let s := { s with pow := { s.pow with bootDone := true }, pair := { s.pair with lostGroups := 0 } }
  let s := (s.putBit HOOP_STATUS.LATCHED 4 false).putBit HOOP_STATUS.LATCHED 5 false
  if latched s = 0 then hoopCleared s else s

/-- Power-good of a group is lost (cause 4). -/
def hoopPowerLost (group : Nat) (s : State) : State :=
  hoopLatch 4 { s with pair := { s.pair with lostGroups := insertBits s.pair.lostGroups group 1 1 } }

/-- A lost group is on again, so it no longer holds cause 4. -/
def hoopPowerBack (group : Nat) (s : State) : State :=
  { s with pair := { s.pair with lostGroups := insertBits s.pair.lostGroups group 1 0 } }

/-- HOOP_WDOG_EXPIRY (R485): a core's watchdog expires while PD_CORE is on and WDOG is not 0. -/
def hoopWdog (core : Nat) (s : State) : State :=
  if s.on 1 ∧ s.get HOOP_CFG.WDOG ≠ 0 then
    let s := raise (SYS_WDOG_CORE0 + core) 0 s
    if s.is HOOP_CFG.DEBUG ∧ ¬armed s then s
    else hoopLatch core { s with pair := { s.pair with kicks := mapSet 2 core 0 s.pair.kicks } }
  else s

/-- HOOP_KICK (R485, R488): a CORE write restarts the watchdogs it names. -/
def hoopKick (mask : Nat) (s : State) : State :=
  each (fun c s => if bit mask c then
    { s with pair := { s.pair with kicks := mapSet 2 c (min 2 (mapGet 2 s.pair.kicks c + 1)) s.pair.kicks } } else s) [0, 1] s

/-- HEAD_CRIT (Table 17.6, cause 3): a reading at or above CRIT on a head enabled in the live table, with HEAD_EN 1. -/
def hoopHeadCrit (h : Nat) (s : State) : State :=
  if s.is HOOP_CFG.HEAD_EN ∧ (liveHeads s).contains h then
    hoopLatch 3 { s with pair := { s.pair with hotHeads := if s.pair.hotHeads.contains h then s.pair.hotHeads else s.pair.hotHeads ++ [h] } }
  else s

/-- R488: the status of a write that would set HOOP_CFG to these values. -/
def hoopCfgStatus (s : State) (hold wdog headEn stopKind : Nat) : Nat :=
  if hold = 0xFF ∧ paired s then stBadParam
  else if armed s ∧ ((wdog = 0 ∧ s.get HOOP_CFG.WDOG ≠ 0) ∨ (headEn = 0 ∧ s.is HOOP_CFG.HEAD_EN)
      ∨ stopKind ≠ s.get HOOP_CFG.STOP_KIND) then stBusy
  else stOk

/-! ### Writes of PAIR_CTL (R469) -/

/-- A write of PAIR_CTL: its status and the state after it. -/
def pairCtlWrite (value : Nat) (s : State) : Nat × State :=
  let claim := bit value 31
  let release := bit value 30
  let en := bit value 0
  let r := role s
  let moved : Bool := en ≠ paired s || bit value 1 ≠ s.is PAIR_CTL.MEMBER
  if en ∧ s.get HOOP_CFG.HOLD = 0xFF then (stBadParam, s)
  else if moved ∧ (armed s ∨ r = 2 ∨ r = 3 ∨ r = 4) then (stBusy, s)
  else if claim ∧ (r = 2 ∨ r = 3 ∨ r = 4 ∨ s.is PAIR_STATUS.PEER_CLAIM ∨ s.pow.testmode) then (stBusy, s)
  else if release ∧ r ≠ 3 then (stBusy, s)
  else
    let s := (((s.putB PAIR_CTL.TABLE_SYNC (bit value 7)).putB PAIR_CTL.FWD (bit value 6)).putB PAIR_CTL.AUTO (bit value 5))
    let s := (s.putB PAIR_CTL.MEMBER (bit value 1)).putB PAIR_CTL.EN en
    let s := if en ∧ role s = 0 then setRole 1 s else if !en ∧ role s = 1 then setRole 0 s else s
    let s := onlyIf release (giveUp 1) s
    if claim then
      let from_ := role s
      (stOk, setRole 2 { s with pair := { s.pair with guardFrom := from_, guardAuto := false } })
    else (stOk, s)

/-- What PD_CORE's loss does to the claim: OWN_OUT_N is released, with PAIR_RELINQUISH cause 5 on DORMANT entry (R468). -/
def claimLost (dormant : Bool) (s : State) : State :=
  if dormant then dropClaim 5 false (setRole (if role s = 4 then 4 else 0) s) else s.put PAIR_STATUS.OWN_CLAIM 0

/-- HOOP_WDOG_EXPIRY (R485). -/
def execHoopWdogExpiry (core : Fin 2) (s : State) : Host.Outcome State Fault Refusal := .next (hoopWdog core.val s)

/-- HOOP_KICK (R485): a write by a core. -/
def execHoopKick (cores : BitVec 2) (s : State) : Host.Outcome State Fault Refusal := .next (hoopKick cores.toNat s)

/-- HOOP_HOLD_EXPIRY (R486). -/
def execHoopHoldExpiry (s : State) : Host.Outcome State Fault Refusal := .next (hoopExpiry s)

end Sys2Proof.Machine
end

