-- ==== Sys2Proof/Machine/CalStart.lean ====
section
/-! DEFINITION. What the head links and the position channels tell Ripening: starting values, forced runs and the results of measurements (R397, R401, R408). -/

namespace Sys2Proof.Machine

/-- The mean of a head's readings, in 1/16 degree (Table 14.1). -/
def headMean (s : State) (h : Nat) : Int :=
  tdiv (s.getS HL_TEMP01.T0 h + s.getS HL_TEMP01.T1 h + s.getS HL_TEMP23.T2 h + s.getS HL_TEMP23.T3 h) 4

/-- A head's link is in a state of R396: READY, MEASURE, FIRING or HOLD. -/
def calLink (s : State) (h : Nat) : Bool := 4 ≤ hlState s h && hlState s h ≤ 7

/-- The head calibration record that matches a SERIAL, if one exists (Table 20.4). -/
def calHeadRecord (s : State) (serial : Nat) : Option Nat :=
  (List.range 256).find? fun r => nvmRecord s 1 r 0 4 ≠ 0 && nvmRecord s 1 r 4 8 = serial

/-- R408: with RESTORE set, the record that matches the head's SERIAL replaces BASE, T_BASE, TC and RNOM. -/
def calRestoreHead (h : Nat) (s : State) : State :=
  if s.is CAL_CTL.RESTORE then
    match calHeadRecord s (s.get HL_ID_SERIAL.SERIAL h) with
    | some r =>
      (((s.put CAL_HEAD_TAP.BASE (nvmRecord s 1 r 12 1) h).put CAL_HEAD_TAP.T_BASE (nvmRecord s 1 r 14 2) h).put
        CAL_HEAD_MODEL.TC (nvmRecord s 1 r 16 2) h).put CAL_HEAD_MODEL.RNOM (nvmRecord s 1 r 18 2) h
    | none => s
  else s

/-- BASE and T_BASE take a tap and the head's temperature (R399, R408). -/
def calBase (h tap : Nat) (s : State) : State :=
  (s.put CAL_HEAD_TAP.BASE tap h).putS CAL_HEAD_TAP.T_BASE (headMean s h) h

/-- A head's link reaches READY or HOLD (R397, R408). -/
def calReady (h : Nat) (s : State) : State :=
  let s := calRestoreHead h (calBase h (s.get HL_FIRE_DELAY.TAP h) s)
  if bit (s.get CAL_FIRST.FIRST) h ∨ s.cal.forced.contains h then s
  else { s with cal := { s.cal with forced := s.cal.forced ++ [h] } }

/-- A head's link enters CAPS: FIRST is cleared (R397). -/
def calCaps (h : Nat) (s : State) : State := s.putBit CAL_FIRST.FIRST h false

/-- An item's head has left the states of R396. -/
def CalItem.leave (h : Nat) (i : CalItem) : CalItem := if i.idx = h ∧ i.code < 3 then { i with left := true } else i

/-- The items of a run after a head's link fell. -/
def CalRun.leave (h : Nat) (r : CalRun) : CalRun := { r with items := r.items.map (CalItem.leave h) }

/-- A head's link leaves the states of R396. -/
def calLeft (h : Nat) (s : State) : State :=
  { s with cal := { s.cal with run := s.cal.run.map (CalRun.leave h), forced := s.cal.forced.filter fun g => g ≠ h } }

/-- RNOM at the end of a head's check with ID_OK 1 (R408). -/
def calNominal (h lo hi : Nat) (s : State) : State := s.put CAL_HEAD_MODEL.RNOM ((lo + hi) / 2) h

/-- A measurement that named heads ended with RESULT 2 (R401, R403). -/
def calMeasured (hs : List Nat) (s : State) : State :=
  { s with cal := { s.cal with
    measured := (s.cal.measured ++ hs).eraseDups
    spoiled := s.cal.spoiled.filter fun e => !hs.contains (e.1 / 2048)
    after := (s.cal.after ++ hs).eraseDups } }

/-- A measurement has written the result of a nozzle. -/
def calSpoil (n : Nat) (s : State) : State :=
  { s with cal := { s.cal with spoiled := mapSet false n true s.cal.spoiled } }

/-- The channel calibration record of a channel, if one exists. -/
def calHasChan (s : State) (n : Nat) : Bool := nvmRecord s 2 n 0 4 ≠ 0 && nvmRecord s 2 n 4 1 = n

/-- R408: channel n is enabled in mode 0b01, and with RESTORE set its record is loaded. -/
def calChannel (n : Nat) (s : State) : State :=
  if s.is CAL_CTL.RESTORE && calHasChan s n then
    let f (k : Nat) := nvmRecord s 2 n (6 + 2 * k) 2
    ((((s.put POS_SC_OFS.OFS_S (f 0) n).put POS_SC_OFS.OFS_C (f 1) n).put POS_SC_GAIN.GAIN_S (f 2) n).put
      POS_SC_GAIN.GAIN_C (f 3) n).put POS_SC_PHASE.PHASE (f 4) n
  else s

end Sys2Proof.Machine
end

