-- ==== Sys2Proof/Machine/HeadLink.lean ====
section
/-! DEFINITION. The head links (chapter 13): link states, capability exchange, head-ID memory, acknowledgements, temperature and the resistance measurement. -/

namespace Sys2Proof.Machine

/-- The domain of a head port (Table 3.1). -/
def headDomain (h : Nat) : Nat := 8 + h / 8

/-- Send control blocks on a head's forward lane: a type byte and bytes 1 to 7 (Table 13.3). -/
def sendHead (h type : Nat) (bs : List Byte) (s : State) : State :=
  s.emit (.head h [beVal (BitVec.ofNat 8 type :: slice bs 0 7)])

/-- The bytes of a control block, the type byte first. -/
def headBytes (f : HeadFrame) : List Byte := beBytes 8 f.block.toNat

/-- The type byte (Table 13.5). -/
def headType (f : HeadFrame) : Nat := beAt (headBytes f) 0 1

/-! ### Errors (R366, R381) -/

/-- The WINDOW of R381 in ns. -/
def errorWindow (s : State) (h : Nat) : Nat := (if s.get HL_ERR_CFG.WINDOW h = 0 then 1 else s.get HL_ERR_CFG.WINDOW h) * 1000000

/-- The window's count restarts once the window is over. -/
def Head.roll (p : Head) (raw span : Nat) : Head :=
  if p.window + span ≤ raw then { p with window := raw, errors := 0, anyHcrc := false, told := false } else p

/-- n more errors in the window. -/
def Head.addErrors (p : Head) (n : Nat) (hcrc : Bool) : Head :=
  { p with errors := p.errors + n, anyHcrc := p.anyHcrc || hcrc }

/-- New errors on a port (R381): HL_BLOCK_ERROR once within a WINDOW in which they exceed MAX. -/
def hlErrors (h n : Nat) (hcrc : Bool) (s : State) : State :=
  let p := ((s.head h).roll s.time.raw (errorWindow s h)).addErrors n hcrc
  if s.get HL_ERR_CFG.MAX h < p.errors ∧ p.told = false then
    raise HL_BLOCK_ERROR (h + 256 * min 255 p.errors + 65536 * b2n p.anyHcrc) (s.setHead h { p with told := true })
  else s.setHead h p

/-- A telemetry error (R366). -/
def hlTlmErr (h : Nat) (s : State) : State := hlErrors h 1 false (s.count HL_TLM_ERR.COUNT h)

/-- Invalid sync headers on the return lane. -/
def hlSyncErr (h n : Nat) (s : State) : State := hlErrors h n false (s.add HL_SYNC_ERR.COUNT n h)

/-! ### The measurement's end (R389) -/

/-- The measurement runs. -/
def measRuns (s : State) : Bool := s.get HL_MEAS_STATUS.RESULT = 1

/-- The results out of band over all heads. -/
def measBad (s : State) : Nat := s.hl.meas.bad.foldl (fun m e => m + e.2) 0

/-- The measurement ends (R388, R389): an early end stops every head that still measures. -/
def measEnd (result : Nat) (s : State) : State :=
  let m := s.hl.meas
  let total := measBad s
  let s := s.put HL_MEAS_STATUS.RESULT result
  let s := onlyIf (result ≠ 2) (each (fun h s => sendHead h 0x87 [2] s) (m.waiting.filter fun h => hlState s h = 5)) s
  let s := each (fun h s => if hlState s h = 5 then
    let s := hlReady h s
    if s.is HL_WF_STATE.TRIM_OK h then s else sendLiveTrims h s else s) m.heads s
  let s := each (fun e s => raise HL_ELEMENT_FAULT (e.1 + 65536 * min 4095 e.2) s) (m.bad.filter fun e => e.2 ≠ 0) s
  let s := onlyIf (result = 2) (calMeasured m.heads) { s with hl := { s.hl with meas := {} } }
  raise HL_IDLE_MEASURE_DONE (result + 65536 * min 65535 total) s

/-! ### Link states (R367 to R369) -/

/-- A port leaves its state (R368, R382, R389): its trims are dropped, a bar that it was firing stops, and a measurement that it was part of ends. -/
def hlLeave (h state : Nat) (s : State) : State :=
  let old := hlState s h
  let s := dropTrims h (((setHl h state s).put HL_STATUS.VERSION 0 h).put HL_FEATURES.AGREED 0 h)
  let s := calLeft h (s.setHead h { s.head h with agreed := false, idDone := false, copied := 0, delays := [], echo := none, missed := 0, capTold := false, tempAt := none })
  let s := onlyIf (old = 6 && (liveHeads s).contains h) (fireStop 6) s
  let s := onlyIf (old = 5 && measRuns s) (measEnd 5) s
  nmapTryPending s

/-- A link falls back: HL_LINK_DOWN with its reason (Table 13.7) and the state left. -/
def hlDown (h reason state : Nat) (s : State) : State :=
  let old := hlState s h
  let s := hlLeave h state (s.put HL_STATUS.LAST_DOWN reason h)
  raise HL_LINK_DOWN (h + 256 * reason + 4096 * old) s

/-- R367: a write of EN = 0 or of RETRAIN is refused. -/
def hlBusy (s : State) (h : Nat) : Bool := hlState s h = 6 || (armed s && (liveHeads s).contains h)

/-- A write of HL_CTL (R367): its status and the state after it. -/
def hlCtlWrite (h value : Nat) (s : State) : Nat × State :=
  let en := bit value 0
  let retrain := bit value 31
  if (!en || retrain) && hlBusy s h then (stBusy, s)
  else
    let st := hlState s h
    let s := ((s.putB HL_CTL.RX_INV (bit value 2) h).putB HL_CTL.TX_INV (bit value 1) h).putB HL_CTL.EN en h
    if !en then
      (stOk, if st ≥ 2 then hlDown h 1 0 s else if st = 1 then (setHl h 0 s).put HL_STATUS.LAST_DOWN 1 h else s)
    else if st = 0 then (stOk, setHl h 1 s)
    else if retrain then (stOk, if st ≥ 2 then hlDown h 4 1 s else (setHl h 1 s).put HL_STATUS.LAST_DOWN 4 h)
    else (stOk, s)

/-- PRESENT changes (R368). -/
def hlPresent (h : Nat) (on : Bool) (s : State) : State :=
  if s.is HL_STATUS.PRESENT h = on then s else raisePresence h false (s.putB HL_STATUS.PRESENT on h)

/-- HL_LOCK_HELD: the return lane has held block lock for 1 ms. -/
def hlLockHeld (h : Nat) (s : State) : State :=
  if hlState s h = 0 then s
  else
    let s := hlPresent h true s
    if hlState s h = 1 then setHl h 2 s else s

/-- Send an ECHO (R371). -/
def sendEcho (h : Nat) (s : State) : State :=
  let p := s.head h
  sendHead h 0x4B (beBytes 1 p.echoId) (s.setHead h { p with echo := some p.echoId, echoId := (p.echoId + 1) % 256 })

/-- A port enters CAPS (R370 to R372, R379): both temperature cases are armed, and CAP, ECHO and ID_READ are sent. -/
def hlEnterCaps (h : Nat) (s : State) : State :=
  let s := calCaps h (setHl h 3 s)
  let s := s.setHead h { s.head h with warnArmed := true, critArmed := true, agreed := false, idDone := false, copied := 0, delays := [], capTold := false }
  let s := sendHead h 0x78 (beBytes 1 0x30 ++ beBytes 2 7) s
  let s := sendHead h 0x55 (beBytes 2 0 ++ beBytes 1 128) (sendEcho h s)
  sendLiveTrims h s

/-- The longest run of set bits of a mask over 64 positions, the first on ties: its start and its length. -/
def longestRun (m : Nat) : Nat × Nat :=
  let (_, _, best) := (List.range 64).foldl (fun (acc : Nat × Nat × (Nat × Nat)) i =>
    let (start, len, best) := acc
    if bit m i then
      let (start, len) := if len = 0 then (i, 1) else (start, len + 1)
      (start, len, if len > best.2 then (start, len) else best)
    else (0, 0, best)) (0, 0, (0, 0))
  best

/-- EYE and TAP of a sweep (R369, R400): EYE reads 0 when the eye spans all 64 taps, and TAP is the middle of the run, rounded down. -/
def putEye (h : Nat) (run : Nat × Nat) (s : State) : State :=
  (s.put HL_RX_PHASE.EYE run.2 h).put HL_RX_PHASE.TAP (run.1 + (run.2 - 1) / 2) h

/-- HL_ALIGN_DONE (R369): the positions without an invalid header. EYE and TAP are set whether or not the eye is wide enough; a sweep with no such position leaves TAP. -/
def hlAlignDone (h m : Nat) (s : State) : State :=
  if hlState s h = 2 then
    let run := longestRun m
    let s := if run.2 = 0 then s.put HL_RX_PHASE.EYE 0 h else putEye h run s
    if run.2 ≥ 16 then hlEnterCaps h s else hlDown h 5 1 s
  else s

/-- HL_STATE_TIMEOUT (Table 13.1). The limit of CAPS does not count version retries. -/
def hlStateTimeout (h : Nat) (s : State) : State :=
  if hlState s h = 2 then hlDown h 5 1 s
  else if hlState s h = 3 ∧ s.get HL_ID_CHECK.MISMATCH h ≠ 1 then hlDown h 6 1 s
  else s

/-- HL_BLOCK_LOCK_LOST (R368). -/
def hlLockLost (h : Nat) (s : State) : State := if hlState s h ≥ 2 then hlDown h 2 2 s else s

/-- HL_LOCK_NOT_REGAINED (R368). -/
def hlNotRegained (h : Nat) (s : State) : State :=
  let s := hlPresent h false s
  if hlState s h ≥ 2 then hlLeave h 1 s else s

/-! ### Capability exchange (R370) -/

/-- HL_CAP_RX: a CAP block in CAPS. -/
def hlCapRx (h : Nat) (f : HeadFrame) (s : State) : State :=
  let p := s.head h
  if hlState s h ≠ 3 ∨ p.agreed then s
  else
    let ver := beAt (headBytes f) 1 1
    if ver / 16 = 2 ∨ ver / 16 = 3 then
      let v := min 0x30 ver
      let feat := beAt (headBytes f) 2 2 % 8
      let s := (s.put HL_STATUS.VERSION v h).put HL_FEATURES.AGREED (if v < 0x30 then feat % 2 else feat) h
      let s := onlyIf (s.get HL_ID_CHECK.MISMATCH h = 1) (fun s => s.put HL_ID_CHECK.MISMATCH 0 h) s
      s.setHead h { p with agreed := true, capTold := false }
    else
      let s := (s.put HL_ID_CHECK.MISMATCH 1 h).put HL_STATUS.ID_OK 0 h
      if p.capTold then s else raise HL_ID_MISMATCH (h + 256) (s.setHead h { p with capTold := true })

/-- HL_CAP_RETRY: every 100 ms after a version mismatch. -/
def hlCapRetry (h : Nat) (s : State) : State :=
  if hlState s h = 3 ∧ s.get HL_ID_CHECK.MISMATCH h = 1 then
    sendHead h 0x78 (beBytes 1 0x30 ++ beBytes 2 7) (s.setHead h { s.head h with capTold := false })
  else s

/-! ### Delay (R371) -/

/-- HL_ECHO_TIMER: an ECHO every 10 ms in READY, FIRING and MEASURE, and for the next sample in CAPS. -/
def hlEchoTimer (h : Nat) (s : State) : State :=
  if hlState s h = 3 ∨ hlState s h = 4 ∨ hlState s h = 5 ∨ hlState s h = 6 then sendEcho h s else s

/-- HL_ECHO_RSP_RX: t4 - t1 in 1/16 ns; the mean of the last 16 samples, rounded down. -/
def hlEchoRsp (h : Nat) (f : HeadFrame) (trip : Nat) (s : State) : State :=
  let p := s.head h
  if p.echo = some (beAt (headBytes f) 1 1) ∧ trip ≤ 160000 then
    let ds := (((trip : Int) - 4 * beAt (headBytes f) 2 2) :: p.delays).take 16
    let mean := ds.foldl (· + ·) 0 / (2 * ds.length : Int)
    let s := s.setHead h { p with delays := ds, echo := none }
    let s := s.put HL_DELAY.DELAY (clampI mean 0 65535).toNat h
    if hlState s h = 3 ∧ ds.length < 16 then sendEcho h s else s
  else s

/-! ### Head-ID memory (R372, R373, R457) -/

/-- n bytes of a head's copy, as a big-endian number. -/
def idField (s : State) (h off n : Nat) : Nat :=
  beVal ((List.range n).map fun i => mapGet 0 (s.head h).copy (off + i))

/-- HL_ID_WIN (R372): window word w of a head's copy. -/
def idWindow (s : State) (h w : Nat) : Nat :=
  leVal ((List.range 4).map fun j => mapGet 0 (s.head h).copy (256 * s.get HL_ID_PAGE.PAGE h + 4 * w + j))

/-- The first failure of R373: 0 where there is none. -/
def idCheck (s : State) (h : Nat) : Nat :=
  let bs := (List.range 0x3FC).map fun i => mapGet (0 : Byte) (s.head h).copy i
  if crc32c bs ≠ idField s h 0x3FC 4 ∨ idField s h 0 4 ≠ 0x48444D31 ∨ idField s h 4 2 ≠ 1 then 2
  else if idField s h 0x14 2 ≠ 2048 ∨ idField s h 0x16 1 ≠ 4 ∨ idField s h 0x18 2 > idField s h 0x1A 2 ∨ idField s h 0x22 2 > 256 then 4
  else if s.get HL_ID_EXPECT.EXPECT h ≠ 0 ∧ s.get HL_ID_EXPECT.EXPECT h ≠ idField s h 8 8 then 3
  else 0

/-- The records of the mask history for a SERIAL (Table 20.4): SEQ, nozzle, KIND and MSRC of each slot that holds one. -/
def historyOf (s : State) (serial : Nat) : List (Nat × Nat × Nat × Nat) :=
  let (b, w, c) := nvmArea 0
  let m := nvmAhead s
  let slots := (m.filter fun e => b ≤ e.1 && e.1 < b + w * c && (e.1 - b) % w < 4).map fun e => (e.1 - b) / w
  (slots.eraseDups.map fun r =>
    let f (off n : Nat) := leVal ((List.range n).map fun i => mapGet (0 : Byte) m (b + w * r + off + i))
    (f 0 4, f 4 8, f 12 2 % 2048, f 14 1, f 15 1 % 4)).filterMap fun e =>
      if e.2.1 = serial then some (e.1, e.2.2.1, e.2.2.2.1, e.2.2.2.2) else none

/-- The nozzles whose newest entry under a SERIAL is a SET, with its MSRC, in the order of those entries (R541). -/
def historyMasks (s : State) (serial : Nat) : List (Nat × Nat) :=
  let es := historyOf s serial
  let newest := es.filter fun e => es.all fun g => g.2.1 ≠ e.2.1 || g.1 ≤ e.1
  ((newest.filter fun e => e.2.2.1 = 1).mergeSort fun a b => a.1 ≤ b.1).map fun e => (e.2.1, e.2.2.2)

/-- The factory defects of a head (Table 13.3a). -/
def factoryDefects (s : State) (h : Nat) : List Nat :=
  ((List.range (min 256 (idField s h 0x22 2))).map fun i => idField s h (0x100 + 2 * i) 2).filterMap fun e =>
    if e = 0xFFFF then none else some (e % 2048)

/-- R457: a head whose check passes has its masks restored, once for its SERIAL. -/
def restoreMasks (h : Nat) (s : State) : State :=
  let serial := idField s h 8 8
  if s.hl.restored.contains (h, serial) then s
  else
    let hist := historyMasks s serial
    let s := { s with hl := { s.hl with restored := s.hl.restored ++ [(h, serial)] } }
    let s := each (fun n s => queueMask (2048 * h + n) 1 s) (factoryDefects s h) s
    each (fun e s => queueMask (2048 * h + e.1) e.2 s) hist s

/-- The copy is whole: it is checked (R373). -/
def idDone (h : Nat) (s : State) : State :=
  let s := s.setHead h { s.head h with idDone := true }
  let s := s.put HL_ID_SERIAL.SERIAL (idField s h 8 8) h
  let c := idCheck s h
  let s := (s.put HL_ID_CHECK.MISMATCH c h).putB HL_STATUS.ID_OK (c = 0) h
  if c ≠ 0 then raise HL_ID_MISMATCH (h + 256 * c) s
  else restoreMasks h <| calNominal h (idField s h 0x18 2) (idField s h 0x1A 2) (onlyIf (s.get HL_ID_EXPECT.EXPECT h = 0) (fun s => s.put HL_ID_EXPECT.EXPECT (idField s h 8 8) h) s)

/-- HL_ID_DATA_RX: head-ID data in CAPS (R372). -/
def hlIdData (h : Nat) (f : HeadFrame) (s : State) : State :=
  let off := beAt (headBytes f) 1 2
  let n := 8 * beAt (headBytes f) 3 1
  if f.data.length ≠ n then hlTlmErr h s
  else if hlState s h = 3 ∧ ¬(s.head h).idDone then
    let p := s.head h
    let copy := (List.range n).foldl (fun m i => if off + i < 1024 then mapSet 0 (off + i) (f.data.getD i 0) m else m) p.copy
    let s := s.setHead h { p with copy := copy, copied := if off ≤ p.copied then max p.copied (off + n) else p.copied }
    if (s.head h).copied ≥ 1024 then idDone h s else s
  else s

/-- A write of 1 to ACCEPT (R373): its status and the state after it. -/
def hlIdAccept (h : Nat) (s : State) : Nat × State :=
  if s.get HL_ID_CHECK.MISMATCH h = 3 then
    (stOk, restoreMasks h <| calNominal h (idField s h 0x18 2) (idField s h 0x1A 2) (((s.put HL_ID_EXPECT.EXPECT (s.get HL_ID_SERIAL.SERIAL h) h).put HL_ID_CHECK.MISMATCH 0 h).put HL_STATUS.ID_OK 1 h))
  else (stBadParam, s)

/-- HL_CAPS_COMPLETE (R367, R351): version agreed, 16 delay samples, ID memory read and checked, and the live image in both head banks if a table is in force. -/
def hlCapsComplete (h : Nat) (s : State) : State :=
  let p := s.head h
  let loaded : Bool := !s.is NMAP_STATUS.TABLE ||
    (mapGet [] p.banks 0 = trimImage s (liveBase s) h && mapGet [] p.banks 1 = trimImage s (liveBase s) h)
  if hlState s h = 3 ∧ p.agreed ∧ p.delays.length = 16 ∧ p.idDone ∧ loaded then
    calReady h (if isStandby s then setHl h 7 s else hlReady h s)
  else s

/-- HL_HOLD_EXIT_IDLE_END (R383): the new owner's IDLE blocks end. -/
def hlHoldExit (h : Nat) (s : State) : State :=
  if hlState s h = 7 ∧ role s = 3 then
    if armed s then setHl h 6 { s with fire := { s.fire with idleEnd := s.now } } else
      let s := hlReady h s
      if s.is HL_WF_STATE.TRIM_OK h then s else sendLiveTrims h s
  else s

/-! ### Trims (R378) -/

/-- The link carries TRIM frames now. -/
def trimState (s : State) (h : Nat) : Bool := hlState s h = 3 || takesTrim s h

/-- Send a segment again, if it still waits. -/
def resendTrim (h bank seg : Nat) (s : State) : State :=
  match (s.head h).sending.find? fun e => e.1 = bank && e.2.1 = seg with
  | some e => if trimState s h then sendTrim h bank seg e.2.2 s else s
  | none => s

/-- HL_TRIM_ACK_RX. -/
def hlTrimAck (h : Nat) (f : HeadFrame) (s : State) : State :=
  let bank := beAt (headBytes f) 1 1 % 2
  let seg := beAt (headBytes f) 2 1
  if beAt (headBytes f) 3 1 = 0 then nmapTryPending (trimAcked h bank seg s) else resendTrim h bank seg s

/-! ### Acknowledgements (R377) -/

/-- A fire that head h did not fire: the rows that its packet carried are not fired for the head, and their pages are defective. -/
def markNotFired (h : Nat) (rows : List Nat) (s : State) : State :=
  each (fun q s =>
    let m := mapGet 0 s.fire.notFired q
    let s := { s with fire := { s.fire with notFired := mapPut q (insertBits m h 1 1) s.fire.notFired } }
    match pageOfRow s q with
    | some p => s.setPages (s.ing.pages.map fun g => if g.base = p.base then { g with defective := true } else g)
    | none => s) rows s

/-- Take the first sent and unacknowledged fire of a head with a property. -/
def takeUnacked (h : Nat) (ok : Nat → Bool) (s : State) : Option ((Nat × List Nat) × State) :=
  match s.fire.unacked.find? fun e => e.1 = h && ok e.2.1 with
  | some e => some (e.2, { s with fire := { s.fire with unacked := s.fire.unacked.erase e } })
  | none => none

/-- HL_ACK_RX. -/
def hlAck (h : Nat) (f : HeadFrame) (s : State) : State :=
  let fseq := beAt (headBytes f) 1 2
  let status := beAt (headBytes f) 3 1
  let s := s.put HL_STATUS.CLAIM_SEEN (if bit (s.get HL_FEATURES.AGREED h) 2 then beAt (headBytes f) 4 1 else 0) h
  match takeUnacked h (fun k => k % 65536 = fseq) s with
  | none => s
  | some ((_, rows), s) =>
    let s := s.setHead h { s.head h with missed := 0 }
    if status = 0 then s
    else
      let s := if status = 1 then hlErrors h 1 true (s.count HL_HCRC_FAIL.COUNT h) else hlErrors h 1 false (s.count HL_MISSED.COUNT h)
      markNotFired h rows s

/-- HL_ACK_TIMEOUT: the oldest fire of the head has no ACK by t_k + 20 us; eight in a row take the link down (R368). -/
def hlAckTimeout (h : Nat) (s : State) : State :=
  match takeUnacked h (fun _ => true) s with
  | none => s
  | some ((_, rows), s) =>
    let s := markNotFired h rows (hlErrors h 1 false (s.count HL_MISSED.COUNT h))
    let n := (s.head h).missed + 1
    let s := s.setHead h { s.head h with missed := n }
    if n ≥ 8 ∧ hlState s h ≥ 2 then hlDown h 3 2 s else s

/-! ### Temperature (R379) -/

/-- The sensor with the highest reading, the first on ties. -/
def hotSensor (s : State) (h : Nat) : Nat :=
  let m := headMax s h
  if s.getS HL_TEMP01.T0 h = m then 0 else if s.getS HL_TEMP01.T1 h = m then 1 else if s.getS HL_TEMP23.T2 h = m then 2 else 3

/-- Judge one of the two cases: HL_HEAD_TEMP at a rise through the threshold, and when the case is armed again. -/
def tempCase (h : Nat) (crit : Bool) (s : State) : State :=
  let p := s.head h
  let arm := if crit then p.critArmed else p.warnArmed
  let set (b : Bool) (p : Head) : Head := if crit then { p with critArmed := b } else { p with warnArmed := b }
  let limit := (if crit then s.getS HL_TEMP_CFG.CRIT h else s.getS HL_TEMP_CFG.WARN h) * 16
  let m := headMax s h
  if arm ∧ m ≥ limit then
    raise HL_HEAD_TEMP (h + 256 * b2n crit + 1024 * hotSensor s h + 65536 * wrap 16 m) (s.setHead h (set false p))
  else if ¬arm ∧ m < limit - 48 then s.setHead h (set true p)
  else s

/-- HL_TEMP_RX. -/
def hlTemp (h : Nat) (f : HeadFrame) (s : State) : State :=
  if f.data.length ≠ 8 then hlTlmErr h s
  else if hlState s h < 3 then s
  else
    let t (i : Nat) := beAt f.data (if beAt (headBytes f) 1 1 = 4 then 2 * i else 0) 2
    let s := (((s.put HL_TEMP01.T0 (t 0) h).put HL_TEMP01.T1 (t 1) h).put HL_TEMP23.T2 (t 2) h).put HL_TEMP23.T3 (t 3) h
    let s := s.setHead h { s.head h with tempAt := some s.time.raw }
    let s := tempCase h true (tempCase h false s)
    if headMax s h ≥ s.getS HL_TEMP_CFG.CRIT h * 16 then
      let s := onlyIf (hlState s h = 5 && measRuns s) (measEnd 5) s
      hoopHeadCrit h s
    else s

/-- A write of HL_TEMP_CFG (R379, R380): its status and the state after it. -/
def hlTempCfgWrite (h value : Nat) (s : State) : Nat × State :=
  if sext 8 value > sext 8 (value / 256) then (stBadParam, s)
  else
    let s := (s.put HL_TEMP_CFG.CRIT (value / 256) h).put HL_TEMP_CFG.WARN value h
    (stOk, s.setHead h { s.head h with warnArmed := true, critArmed := true })

/-! ### The resistance measurement (R387, R388) -/

/-- The 256 KiB buffer breaks R107 or its alignment, or a named head is not READY or lacks MEAS. -/
def measBadParam (s : State) : Bool :=
  let a := s.get HL_MEAS_ADDR.ADDR
  let hs := maskHeads (s.get HL_MEAS_MASK.MASK)
  hs.isEmpty || hs.any (fun h => hlState s h ≠ 4 || !bit (s.get HL_FEATURES.AGREED h) 0)
    || a % 64 ≠ 0 || !(isVat a || isDram a) || !oneSpace s a 262144 || (isDram a && !dramOk s a 262144)

/-- The refusal of the measurement's buffer by the DMA class entries (R387, R128). -/
def measViol (opcode : Nat) (s : State) : Option Viol := rangeViol s 4 1 1 opcode (s.get HL_MEAS_ADDR.ADDR) 262144

/-- A write of 1 to HL_MEAS_CTL.GO (R387): its status and the state after it. -/
def measGo (s : State) : Nat × State :=
  let hs := maskHeads (s.get HL_MEAS_MASK.MASK)
  if measRuns s ∨ armed s then (stBusy, s)
  else if measBadParam s then (stBadParam, s)
  else if (measViol 0 s).isSome then (stDenied, s)
  else
    let s := each (fun h s => (setHl h 5 s).setHead h { s.head h with sending := [], images := [] }) hs (s.put HL_MEAS_STATUS.RESULT 1)
    (stOk, nmapTryPending { s with hl := { s.hl with meas := { heads := hs, waiting := hs } } })

/-- A write of 1 to HL_MEAS_CTL.ABORT (R389). -/
def measAbort (s : State) : State := if measRuns s then measEnd 3 s else s

/-- HL_MEAS_SETTLE_END (R387): the heads have settled, or WAIT has expired. -/
def measSettle (settled : Bool) (s : State) : State :=
  if measRuns s ∧ ¬s.hl.meas.settled then
    if settled then
      each (fun h s => sendHead h 0x87 [1] s) s.hl.meas.heads { s with hl := { s.hl with meas := { s.hl.meas with settled := true } } }
    else measEnd 4 s
  else s

/-- res_at_25c of R388. -/
def resAt25 (meas : Nat) (t tcr : Int) : Nat :=
  if meas = 0 ∨ meas = 0xFFFF then meas
  else
    let den := 16000000 + tcr * (t - 400)
    let v := tdiv ((meas : Int) * 16000000 + tdiv den 2) den
    if v > 0xFFFC then 0xFFFC else wrap 16 v

/-- The reading of slot s's sensor. -/
def slotTemp (s : State) (h slot : Nat) : Int :=
  if slot = 0 then s.getS HL_TEMP01.T0 h else if slot = 1 then s.getS HL_TEMP01.T1 h
  else if slot = 2 then s.getS HL_TEMP23.T2 h else s.getS HL_TEMP23.T3 h

/-- The head's factory data may be used (R384): its ID memory is neither unreadable nor out of range. -/
def factoryOk (s : State) (h : Nat) : Bool := s.get HL_ID_CHECK.MISMATCH h = 0 || s.get HL_ID_CHECK.MISMATCH h = 3

/-- One result of the measurement (R388). -/
def measResult (h i raw : Nat) (lost : Bool) (s : State) : State :=
  let n := 2048 * h + i
  let skip : Bool := s.is NMAP_STATUS.TABLE && (isZero s (liveBase s) n || nzMasked (nz s (liveBase s) n))
  let tcr : Int := if factoryOk s h then sext 16 (idField s h 0x1C 2) else 0
  let v := if skip then 0xFFFE else if lost then 0xFFFD else resAt25 raw (slotTemp s h (i / 512)) tcr
  let s := calSpoil n (s.setBytes (s.get HL_MEAS_ADDR.ADDR + 2 * n) (leBytes 2 v))
  let out : Bool := !skip && !lost && (v = 0 || v = 0xFFFF
    || (factoryOk s h && (v < idField s h 0x18 2 || idField s h 0x1A 2 < v)))
  if out then
    let m := s.hl.meas
    queueMask n 3 { s with hl := { s.hl with meas := { m with bad := mapPut h (mapGet 0 m.bad h + 1) m.bad } } }
  else s

/-- HL_MEAS_DATA_RX. -/
def hlMeasData (h : Nat) (f : HeadFrame) (s : State) : State :=
  let count := beAt (headBytes f) 5 1
  if f.data.length ≠ 8 * count then hlTlmErr h s
  else if hlState s h = 5 ∧ measRuns s then
    let lost : Bool := crc16 f.data ≠ beAt (headBytes f) 6 2
    let s := onlyIf lost (hlTlmErr h) s
    let first := beAt (headBytes f) 3 2
    let s := if beAt (headBytes f) 2 1 = 0 then
        each (fun i s => if first + i < 2048 then measResult h (first + i) (beAt f.data (2 * i) 2) lost s else s) (List.range (4 * count)) s
      else s
    if bit (beAt (headBytes f) 1 1) 0 then
      let m := s.hl.meas
      let s := { s with hl := { s.hl with meas := { m with waiting := m.waiting.filter fun g => g ≠ h } } }
      if s.hl.meas.waiting = [] then measEnd 2 s else s
    else s
  else s

/-! ### Frames -/

/-- The types of Table 13.5. -/
def headTypes : List Nat := [0x1E, 0x2D, 0x33, 0x4B, 0x55, 0x66, 0x78, 0x87]

/-- A frame arrives on a return lane: its invalid sync headers count, an unknown type counts and is otherwise ignored (R366), and a frame of the type named is handled. -/
def headFrame (type : Nat) (f : Nat → HeadFrame → State → State) (h : Nat) (fr : HeadFrame) (s : State) : State :=
  if hlState s h = 0 then s
  else
    let s := onlyIf (fr.badHeaders ≠ 0) (hlSyncErr h fr.badHeaders.toNat) s
    if headType fr = type then f h fr s
    else if headTypes.contains (headType fr) then s
    else hlTlmErr h s

/-- The head ports of a domain are lost with it (R42): every link that was up goes down with reason 0x7. -/
def headsLost (d : Nat) (power : Bool) (s : State) : State :=
  each (fun h s =>
    let s := onlyIf (power && hlState s h ≥ 2) (fun s => raise HL_LINK_DOWN (h + 256 * 7 + 4096 * hlState s h) s) s
    calLeft h (s.setHead h {})) (allHeads.filter fun h => headDomain h = d) s

/-! ### The commands of the head link -/

/-- HL_LOCK_HELD (R367). -/
def execHlLockHeld (port : Fin 64) (s : State) : Host.Outcome State Fault Refusal := .next (hlLockHeld port.val s)

/-- HL_ALIGN_DONE (R369). -/
def execHlAlignDone (port : Fin 64) (errorFree : BitVec 64) (s : State) : Host.Outcome State Fault Refusal :=
  .next (hlAlignDone port.val errorFree.toNat s)

/-- HL_STATE_TIMEOUT (R367). -/
def execHlStateTimeout (port : Fin 64) (s : State) : Host.Outcome State Fault Refusal := .next (hlStateTimeout port.val s)

/-- HL_BLOCK_LOCK_LOST (R368). -/
def execHlBlockLockLost (port : Fin 64) (s : State) : Host.Outcome State Fault Refusal := .next (hlLockLost port.val s)

/-- HL_LOCK_NOT_REGAINED (R368). -/
def execHlLockNotRegained (port : Fin 64) (s : State) : Host.Outcome State Fault Refusal := .next (hlNotRegained port.val s)

/-- HL_CAP_RX (R370). -/
def execHlCapRx (port : Fin 64) (frame : HeadFrame) (s : State) : Host.Outcome State Fault Refusal :=
  .next (headFrame 0x78 hlCapRx port.val frame s)

/-- HL_CAP_RETRY (R370). -/
def execHlCapRetry (port : Fin 64) (s : State) : Host.Outcome State Fault Refusal := .next (hlCapRetry port.val s)

/-- HL_ECHO_TIMER (R371). -/
def execHlEchoTimer (port : Fin 64) (s : State) : Host.Outcome State Fault Refusal := .next (hlEchoTimer port.val s)

/-- HL_ECHO_RSP_RX (R371). -/
def execHlEchoRspRx (port : Fin 64) (frame : HeadFrame) (roundTrip : Word) (s : State) : Host.Outcome State Fault Refusal :=
  .next (headFrame 0x4B (fun h f s => hlEchoRsp h f roundTrip.toNat s) port.val frame s)

/-- HL_ID_DATA_RX (R372). -/
def execHlIdDataRx (port : Fin 64) (frame : HeadFrame) (s : State) : Host.Outcome State Fault Refusal :=
  .next (headFrame 0x55 hlIdData port.val frame s)

/-- HL_CAPS_COMPLETE (R367). -/
def execHlCapsComplete (port : Fin 64) (s : State) : Host.Outcome State Fault Refusal := .next (hlCapsComplete port.val s)

/-- HL_TRIM_ACK_RX (R378). -/
def execHlTrimAckRx (port : Fin 64) (frame : HeadFrame) (s : State) : Host.Outcome State Fault Refusal :=
  .next (headFrame 0x66 hlTrimAck port.val frame s)

/-- HL_TRIM_ACK_TIMEOUT (R378). -/
def execHlTrimAckTimeout (port : Fin 64) (bank : Fin 2) (segment : Fin 4) (s : State) : Host.Outcome State Fault Refusal :=
  .next (resendTrim port.val bank.val segment.val s)

/-- HL_ACK_RX (R377). -/
def execHlAckRx (port : Fin 64) (frame : HeadFrame) (s : State) : Host.Outcome State Fault Refusal :=
  .next (headFrame 0x2D hlAck port.val frame s)

/-- HL_ACK_TIMEOUT (R377). -/
def execHlAckTimeout (port : Fin 64) (s : State) : Host.Outcome State Fault Refusal := .next (hlAckTimeout port.val s)

/-- HL_TEMP_RX (R379). -/
def execHlTempRx (port : Fin 64) (frame : HeadFrame) (s : State) : Host.Outcome State Fault Refusal :=
  .next (headFrame 0x33 hlTemp port.val frame s)

/-- HL_MEAS_SETTLE_END (R387). -/
def execHlMeasSettleEnd (settled : Bool) (s : State) : Host.Outcome State Fault Refusal := .next (measSettle settled s)

/-- HL_MEAS_DATA_RX (R388). -/
def execHlMeasDataRx (port : Fin 64) (frame : HeadFrame) (s : State) : Host.Outcome State Fault Refusal :=
  .next (headFrame 0x87 hlMeasData port.val frame s)

/-- HL_HOLD_EXIT_IDLE_END (R383). -/
def execHlHoldExitIdleEnd (port : Fin 64) (s : State) : Host.Outcome State Fault Refusal := .next (hlHoldExit port.val s)

end Sys2Proof.Machine
end

