-- ==== Sys2Proof/Machine/Lamp.lean ====
section
/-! DEFINITION. Lamp channels, strobes, fades, temperature compensation and the indicator matrix (chapter 19). -/

namespace Sys2Proof.Machine

/-- What a lamp channel keeps. -/
def State.lampAt (s : State) (l : Nat) : Lamp := mapGet {} s.lamp.chans l

/-- Replace what a lamp channel keeps. -/
def State.setLamp (s : State) (l : Nat) (x : Lamp) : State := { s with lamp := { s.lamp with chans := mapSet {} l x s.lamp.chans } }

/-- The eight channels. -/
def allLamps : List Nat := [0, 1, 2, 3, 4, 5, 6, 7]

/-- GAIN in force for a channel (R521). -/
def lampGain (s : State) (l : Nat) : Nat := if s.is LAMP_CTL.COMP_EN l then (s.lampAt l).gain else 0x4000

/-! ### PWM (R519 to R521) -/

/-- LAMP_PWM_PERIOD: a period starts. -/
def lampPwm (l : Nat) (s : State) : State :=
  let s := match (s.lampAt l).jump with
    | some t => (s.put LAMP_NOW.NOW t l).setLamp l { s.lampAt l with jump := none }
    | none => s
  let x := s.lampAt l
  if s.is LAMP_CTL.EN l ∧ ¬s.is LAMP_CTL.MODE l then
    let duty := min 65535 (s.get LAMP_NOW.NOW l * lampGain s l / 2 ^ 14)
    let n := duty * 800 + x.acc
    (s.put LAMP_STATUS.DUTY duty l).setLamp l { x with on := n / 65536, acc := n % 65536 }
  else s.setLamp l { x with on := 0 }

/-! ### Strobes (R522, R523) -/

/-- A window opens; one that opens while another is open extends it. -/
def strobeOpen (l close : Nat) (s : State) : State :=
  let x := s.lampAt l
  match x.openTo with
  | some c => (s.count LAMP_STROBE_MERGED.COUNT l).setLamp l { x with openTo := some (max c close) }
  | none => (s.put LAMP_STATUS.STROBING 1 l).setLamp l { x with openTo := some close }

/-- Put a window at its place by opening time. -/
def insertWindow (w : Nat × Nat) : List (Nat × Nat) → List (Nat × Nat)
  | [] => [w]
  | v :: ws => if w.1 < v.1 then w :: v :: ws else v :: insertWindow w ws

/-- A strobe trigger for channel l with its reach time. -/
def lampTrigger (l reach : Nat) (s : State) : State :=
  let x := s.lampAt l
  if ¬(s.is LAMP_CTL.EN l ∧ s.is LAMP_CTL.MODE l) then s
  else if x.windows.length + b2n x.openTo.isSome ≥ 4 then s.count LAMP_STROBE_LATE.COUNT l
  else
    let w := max 1 (s.get LAMP_STROBE.WIDTH l * lampGain s l / 2 ^ 14)
    let opens := reach + 5 * s.get LAMP_STROBE.DELAY l
    let closes := opens + 5 * w
    if opens < s.now then
      let s := s.count LAMP_STROBE_LATE.COUNT l
      if closes ≤ s.now then s else strobeOpen l closes s
    else s.setLamp l { x with windows := insertWindow (opens, closes) x.windows }

/-- The triggers of a compare CAM action for the channels whose CAM_SRC names a port of the mask (R522). -/
def lampCamTrigger (ports reach : Nat) (s : State) : State :=
  each (fun l s => if s.get LAMP_CTL.CAM_SRC l &&& ports ≠ 0 then lampTrigger l reach s else s) allLamps s

/-- LAMP_STROBE_OPEN: the first scheduled window opens. -/
def lampStrobeOpen (l : Nat) (s : State) : State :=
  match (s.lampAt l).windows with
  | [] => s
  | w :: ws => strobeOpen l w.2 (s.setLamp l { s.lampAt l with windows := ws })

/-- LAMP_STROBE_CLOSE: the open window closes. -/
def lampStrobeClose (l : Nat) (s : State) : State :=
  (s.put LAMP_STATUS.STROBING 0 l).setLamp l { s.lampAt l with openTo := none }

/-! ### Fades (R524, R525) -/

/-- Integer cube root by halving, with the number of bits as fuel. -/
def icbrtAux : Nat → Nat → Nat → Nat
  | 0, _, r => r
  | n + 1, v, r => let c := r + 2 ^ n; icbrtAux n v (if c * c * c ≤ v then c else r)

/-- lstar of R524 in 2^-48. -/
def lstar (y : Nat) : Nat :=
  if 8856 * 65535 < 1000000 * y then 116 * icbrtAux 50 (y * 2 ^ 144 / 65535) 0 - 16 * 2 ^ 48
  else 9033 * y * 2 ^ 48 / 655350

/-- lum of R524, of a lightness in 2^-48. -/
def lum (l : Nat) : Nat :=
  if 8 * 2 ^ 48 < l then
    let q := (l + 16 * 2 ^ 48) / 116
    min 65535 ((65535 * q * q * q + 2 ^ 143) / 2 ^ 144)
  else (655350 * l + 9033 * 2 ^ 47) / (9033 * 2 ^ 48)

/-- NOW at tick i of a fade: TARGET exactly at tick n. -/
def fadeAt (f : Fade) (i : Nat) : Nat :=
  if i ≥ f.n then f.target
  else
    let a : Int := lstar f.start
    let b : Int := lstar f.target
    lum (a + (b - a) * i / f.n).toNat

/-- LAMP_FADE_TICK. -/
def lampFadeTick (l : Nat) (s : State) : State :=
  match (s.lampAt l).fade with
  | none => s
  | some f =>
    let s := s.put LAMP_NOW.NOW (fadeAt f (f.i + 1)) l
    if f.i + 1 ≥ f.n then
      raise LAMP_FADE_DONE l ((s.put LAMP_STATUS.FADING 0 l).setLamp l { s.lampAt l with fade := none })
    else s.setLamp l { s.lampAt l with fade := some { f with i := f.i + 1 } }

/-- A write of LAMP_SET: a new fade from the present NOW. -/
def lampSetWrite (l value : Nat) (s : State) : State :=
  let ms := value / 65536
  let target := value % 65536
  let s := (s.put LAMP_SET.FADE_MS ms l).put LAMP_SET.TARGET target l
  if ms = 0 then (s.put LAMP_STATUS.FADING 0 l).setLamp l { s.lampAt l with fade := none, jump := some target }
  else (s.put LAMP_STATUS.FADING 1 l).setLamp l { s.lampAt l with
    jump := none, fade := some { start := s.get LAMP_NOW.NOW l, target := target, n := ms } }

/-- A write of LAMP_CTL (R519): its status and the state after it. -/
def lampCtlWrite (l value : Nat) (s : State) : Nat × State :=
  let en := bit value 0
  if bits value 7 4 > 7 then (stBadParam, s)
  else if s.is LAMP_CTL.EN l ∧ (bit value 1 ≠ s.is LAMP_CTL.MODE l ∨ bits value 7 4 ≠ s.get LAMP_CTL.NTC l) then (stBusy, s)
  else
    let s := ((((s.put LAMP_CTL.CAM_SRC (bits value 11 8) l).put LAMP_CTL.NTC (bits value 7 4) l).putB LAMP_CTL.COMP_EN (bit value 2) l).putB
      LAMP_CTL.MODE (bit value 1) l).putB LAMP_CTL.EN en l
    if en then (stOk, s.setLamp l { s.lampAt l with acc := 0 })
    else (stOk, (s.put LAMP_STATUS.STROBING 0 l).setLamp l { s.lampAt l with on := 0, windows := [], openTo := none })

/-! ### Compensation (R527 to R529) -/

/-- interp of R527. -/
def interp (pts : List (Int × Int)) (x : Int) : Int :=
  match pts with
  | [] => 0
  | p :: ps =>
    if x ≤ p.1 then p.2
    else
      match ps with
      | [] => p.2
      | q :: _ => if q.1 < x then interp ps x else p.2 + tdiv ((x - p.1) * (q.2 - p.2)) (q.1 - p.1)

/-- A point of the curve at reset (Table 19.1). -/
def curveReset (p : Nat) : Int × Int := (((256 * p + 128 : Nat) : Int), 0)

/-- A point of a channel's table at reset. -/
def compReset (p : Nat) : Int × Int := (((160 * p : Nat) : Int), 0x4000)

/-- The points of the curve in force. -/
def curvePts (s : State) : List (Int × Int) :=
  (List.range 16).map fun p => mapGet (curveReset p) s.lamp.curve p

/-- The points of a channel's table in force. -/
def compPts (s : State) (l : Nat) : List (Int × Int) :=
  (List.range 16).map fun p => mapGet (compReset p) s.lamp.comp (16 * l + p)

/-- The staged points of the curve. -/
def stagedCurve (s : State) : List (Int × Int) :=
  (List.range 16).map fun p => ((s.get LAMP_CURVE.CODE p : Int), s.getS LAMP_CURVE.TEMP p)

/-- The staged points of a channel's table. -/
def stagedComp (s : State) (l : Nat) : List (Int × Int) :=
  (List.range 16).map fun p => (s.getS LAMP_COMP.TEMP l p, (s.get LAMP_COMP.GAIN l p : Int))

/-- x is strictly ascending. -/
def ascending : List (Int × Int) → Bool
  | p :: q :: l => p.1 < q.1 && ascending (q :: l)
  | _ => true

/-- The staged tables apply together (R529). -/
def lampApply (s : State) : State :=
  let curve := (List.range 16).foldl (fun m p => mapSet (curveReset p) p ((stagedCurve s).getD p (0, 0)) m) s.lamp.curve
  let comp := (List.range 128).foldl (fun m k =>
    mapSet (compReset (k % 16)) k ((stagedComp s (k / 16)).getD (k % 16) (0, 0)) m) s.lamp.comp
  { s with lamp := { s.lamp with curve := curve, comp := comp, load := false } }

/-- A write of 1 to LAMP_GLOBAL.LOAD (R529): its status and the state after it. -/
def lampLoad (s : State) : Nat × State :=
  if ascending (stagedCurve s) ∧ (allLamps.all fun l => ascending (stagedComp s l)) then
    (stOk, { s with lamp := { s.lamp with load := true } })
  else (stBadParam, s)

/-- One NTC input is converted (R527, R528). -/
def ntcOne (i code : Nat) (s : State) : State :=
  let s := s.put LAMP_NTC.CODE code i
  if code < 16 ∨ 4079 < code then
    if s.is LAMP_NTC.FAULT i then s else raise LAMP_FAULT (i + 16 * b2n (4079 < code)) (s.put LAMP_NTC.FAULT 1 i)
  else (s.put LAMP_NTC.FAULT 0 i).putS LAMP_NTC.TEMP (interp (curvePts s) code) i

/-- A channel's gain from its input, unless that is at fault. -/
def ntcGain (l : Nat) (s : State) : State :=
  let i := s.get LAMP_CTL.NTC l
  if s.is LAMP_NTC.FAULT i then s
  else s.setLamp l { s.lampAt l with gain := wrap 16 (interp (compPts s l) (s.getS LAMP_NTC.TEMP i)) }

/-- NTC_EVALUATION. -/
def ntcEvaluate (codes : List Nat) (s : State) : State :=
  let s := onlyIf s.lamp.load lampApply s
  let s := each (fun i s => ntcOne i (codes.getD i 0) s) allLamps s
  each ntcGain allLamps s

/-! ### The indicator matrix (R530) -/

/-- MX_SLOT: the next row is driven with its cells as they stand; a cell that blinks is dark in every second interval. -/
def mxSlot (s : State) : State :=
  if s.is MX_CFG.EN then
    let r := s.lamp.nextRow
    let t := max 1 (s.get MX_CFG.BLINK_T) * 10000000
    let dark := s.time.raw / t % 2 = 1
    let levels := (List.range 16).map fun c =>
      if s.is MX_CELL.BLINK (16 * r + c) ∧ dark then 0 else s.get MX_CELL.LEVEL (16 * r + c)
    { s with lamp := { s.lamp with row := some (r, levels), nextRow := (r + 1) % 8 } }
  else { s with lamp := { s.lamp with row := none } }

/-! ### Sleep (R526) -/

/-- A channel counts as at 0 with no fade running (R526). -/
def lampQuiet (s : State) (l : Nat) : Bool :=
  !s.is LAMP_STATUS.FADING l && (!s.is LAMP_CTL.EN l || (!s.is LAMP_CTL.MODE l && s.get LAMP_NOW.NOW l = 0))

/-- On wake every channel resumes at its restored SET value with no fade; the restored tables are those in force. -/
def lampsWake (s : State) : State :=
  let s := { s with lamp := {} }
  lampApply (each (fun l s => s.put LAMP_NOW.NOW (s.get LAMP_SET.TARGET l) l) allLamps s)

/-- What the lamps keep beside their registers is lost with PD_CTL. -/
def lampsLost (s : State) : State := { s with lamp := {} }

/-! ### The commands of chapter 19 -/

/-- LAMP_PWM_PERIOD (R520). -/
def execLampPwmPeriod (channel : Fin 8) (s : State) : Host.Outcome State Fault Refusal := .next (lampPwm channel.val s)

/-- LAMP_STROBE_OPEN (R522). -/
def execLampStrobeOpen (channel : Fin 8) (s : State) : Host.Outcome State Fault Refusal := .next (lampStrobeOpen channel.val s)

/-- LAMP_STROBE_CLOSE (R522). -/
def execLampStrobeClose (channel : Fin 8) (s : State) : Host.Outcome State Fault Refusal := .next (lampStrobeClose channel.val s)

/-- LAMP_FADE_TICK (R524). -/
def execLampFadeTick (channel : Fin 8) (s : State) : Host.Outcome State Fault Refusal := .next (lampFadeTick channel.val s)

/-- NTC_EVALUATION (R527). -/
def execNtcEvaluation (codes : Vector (BitVec 12) 8) (s : State) : Host.Outcome State Fault Refusal :=
  .next (ntcEvaluate (codes.toList.map BitVec.toNat) s)

/-- MX_SLOT (R530). -/
def execMxSlot (s : State) : Host.Outcome State Fault Refusal := .next (mxSlot s)

end Sys2Proof.Machine
end

