-- ==== Sys2Proof/Machine/Trig.lean ====
section
/-! DEFINITION. Sines, cosines and angles in fixed point, for the sine/cosine encoders (R265, R267). -/

namespace Sys2Proof.Machine

/-- 2^60 stands for 1. -/
def trigOne : Int := 2 ^ 60

/-- pi in 2^-60. -/
def trigPi : Int := 3622009729038561421

/-- Add terms of a Taylor series until the fuel ends: each next term is the last one times -x^2 / (n (n + 1)). -/
def taylor : Nat → Int → Int → Int → Int → Int
  | 0, _, _, sum, _ => sum
  | fuel + 1, x2, term, sum, n =>
    let t := -(term * x2 / (trigOne * (n * (n + 1))))
    taylor fuel x2 t (sum + t) (n + 2)

/-- The sine of x, both in 2^-60, for x of at most about 2. -/
def sinQ (x : Int) : Int := taylor 16 (x * x / trigOne) x x 2

/-- The cosine of x, both in 2^-60. -/
def cosQ (x : Int) : Int := taylor 16 (x * x / trigOne) trigOne trigOne 1

/-- The ray of angle n x 2 pi / 4,096 lies at or before the direction (x, y) of the first quadrant. -/
def rayBefore (n : Nat) (x y : Int) : Bool :=
  let t := trigPi * n / 2048
  0 ≤ y * cosQ t - x * sinQ t

/-- The greatest n below 1,024 whose ray is at or before a direction of the first quadrant: its bits from the highest down. -/
def angleBits : Nat → Nat → Int → Int → Nat
  | 0, r, _, _ => r
  | b + 1, r, x, y => angleBits b (if rayBefore (r + 2 ^ b) x y then r + 2 ^ b else r) x y

/-- atan2(y, x) resolved to 12 bits: the whole counts of 2 pi / 4,096 in it. -/
def angle12 (y x : Int) : Nat :=
  if 0 < x ∧ 0 ≤ y then angleBits 10 0 x y
  else if x ≤ 0 ∧ 0 < y then 1024 + angleBits 10 0 y (-x)
  else if x < 0 ∧ y ≤ 0 then 2048 + angleBits 10 0 (-x) (-y)
  else if 0 ≤ x ∧ y < 0 then 3072 + angleBits 10 0 (-y) x
  else 0

/-- The arcsine of v in 2^-60, as 2^-15 rad: the greatest angle whose sine is at most v, by halving. -/
def asinBits : Nat → Int → Int → Int
  | 0, r, _ => r
  | b + 1, r, v => asinBits b (if sinQ ((r + 2 ^ b) * 2 ^ 45) ≤ v then r + 2 ^ b else r) v

/-- asin in 2^-15 rad, truncated toward zero. -/
def asin15 (v : Int) : Int := if v < 0 then -(asinBits 16 0 (-v)) else asinBits 16 0 v

end Sys2Proof.Machine
end

