-- ==== Sys2Proof/Machine/Pos.lean ====
section
/-! DEFINITION. Position channels, their held count and tracking observer, and the compare units (chapter 9). -/

namespace Sys2Proof.Machine

/-- What a position channel keeps. -/
def State.chan (s : State) (n : Nat) : PosChan := mapGet {} s.pos.chans n

/-- Replace what a position channel keeps. -/
def State.setChan (s : State) (n : Nat) (c : PosChan) : State := { s with pos := { s.pos with chans := mapSet {} n c s.pos.chans } }

/-- The four channels. -/
def allChans : List Nat := [0, 1, 2, 3]

/-- POS_STATUS.STATE: 0 OFF, 1 RUN, 2 FAULT. -/
def posState (s : State) (n : Nat) : Nat := s.get POS_STATUS.STATE n

/-- The held count H. -/
def posH (s : State) (n : Nat) : Int := s.getS POS_HELD.H n

/-- The print channel. -/
def printChan (s : State) : Nat := s.get POS_PRINT.CH

/-- The value of a variable of n bits, signed (R15). -/
def narrow (n : Nat) (v : Int) : Int := sext n (wrap n v)

/-- Corrected time now, as an integer. -/
def nowI (s : State) : Int := s.now

/-! ### Triggers -/

/-- A trigger reaches FIRE with its START_AT (R323). -/
def fireTrigger (id startAt : Nat) (s : State) : State :=
  if id = 0xFFFF ∨ ¬armed s then s.count FIRE_TRIG_DISCARD.COUNT
  else
    let l := s.fire.triggers
    if l.length ≥ 8 then
      { s.count FIRE_TRIG_DISCARD.COUNT with fire := { s.fire with triggers := l.drop 1 ++ [(id, startAt)] } }
    else { s with fire := { s.fire with triggers := l ++ [(id, startAt)] } }

/-- A compare entry names a camera port (R419). -/
def camTrigger (cmp reach c : Nat) (s : State) : State :=
  let p := s.camPort c
  let e : CamTrig := { time := reach, unit := cmp, obs := s.pos.last }
  if p.trigs.length ≥ 4 then (s.count CAM_TRIG_DISCARD.COUNT c).setCamPort c { p with trigs := p.trigs.drop 1 ++ [e] }
  else s.setCamPort c { p with trigs := p.trigs ++ [e] }

/-! ### Compare units (R281 to R284) -/

/-- A committed entry. -/
def cmpEntry (s : State) (u i : Nat) : CmpEntry := mapGet {} s.pos.entries (1024 * u + i)

/-- Entry POINTER of a unit is reached (R281). -/
def cmpReached (s : State) (u : Nat) : Bool :=
  let e := cmpEntry s u (s.get CMP_STATUS.POINTER u)
  let diff := narrow 48 (posH s (s.get CMP_CTL.CH u) - ((e.p : Int) + s.get CMP_BASE.BASE u))
  if s.is CMP_CTL.DIR u then diff ≤ 0 else 0 ≤ diff

/-- PIN: the pulse starts or is extended (R283). -/
def cmpPin (u reach : Nat) (s : State) : State :=
  let high := s.pos.pins.any fun e => e.1 = u
  let s := onlyIf high (fun s => s.count CMP_MERGED.COUNT u) s
  { s with pos := { s.pos with pins := mapPut u (reach + 5 * max 1 (s.get CMP_WIDTH.WIDTH u)) s.pos.pins } }

/-- The actions of an entry, in order (R282). -/
def cmpActions (u i reach : Nat) (e : CmpEntry) (s : State) : State :=
  let merged := e.pin && s.pos.pins.any fun p => p.1 = u
  let s := onlyIf e.pin (cmpPin u reach) s
  let s := each (camTrigger u reach) ([0, 1, 2, 3].filter fun c => bit e.cam c) s
  let s := lampCamTrigger e.cam reach s
  let s := each (fun l => lampTrigger l reach) (allLamps.filter fun l => bit e.lamp l) s
  let s := onlyIf (e.page && s.get CMP_TRIG.TRIGGER_ID u ≠ 0xFFFF) (fireTrigger (s.get CMP_TRIG.TRIGGER_ID u) reach) s
  onlyIf e.evt (raise (EV_POS_CMP0 + u) (i + 2 ^ 15 * b2n merged)) s

/-- The end of the list (R284). -/
def cmpListEnd (u : Nat) (s : State) : State :=
  let cycle := s.is CMP_CTL.MODE u
  let s := if cycle then
      (((s.put CMP_STATUS.POINTER 0 u).put CMP_BASE.BASE (s.get CMP_BASE.BASE u + s.get CMP_PITCH.PITCH u) u).count CMP_STATUS.LAPS u)
    else s.put CMP_STATUS.RUNNING 0 u
  raise POS_CMP_LIST_END (u + 256 * b2n cycle + 2 ^ 20 * s.get CMP_STATUS.LAPS u) s

/-- Act on entry POINTER and go on to the next. -/
def cmpAct (u reach : Nat) (s : State) : State :=
  let i := s.get CMP_STATUS.POINTER u
  let s := cmpActions u i reach (cmpEntry s u i) s
  if i = s.get CMP_LAST.LAST u then cmpListEnd u s else s.put CMP_STATUS.POINTER (i + 1) u

/-- Act on every entry that is reached, in index order, at most as many as the fuel. -/
def cmpRun : Nat → Nat → Nat → State → State
  | 0, _, _, s => s
  | fuel + 1, u, reach, s =>
    if s.is CMP_STATUS.RUNNING u ∧ posState s (s.get CMP_CTL.CH u) = 1 ∧ cmpReached s u then
      cmpRun fuel u reach (cmpAct u reach s)
    else s

/-- H of a channel has changed: every unit that compares it checks (R281). -/
def cmpCheck (n : Nat) (t : Int) (s : State) : State :=
  each (fun u s => if s.get CMP_CTL.CH u = n then cmpRun 4096 u (wrap 64 t) s else s) [0, 1, 2, 3] s

/-- A write of CMP_CTL (R284): its status and the state after it. -/
def cmpCtlWrite (u value : Nat) (s : State) : Nat × State :=
  let same := bits value 5 4 = s.get CMP_CTL.CH u ∧ bits value 2 1 = 2 * s.get CMP_CTL.DIR u + s.get CMP_CTL.MODE u
  if s.is CMP_CTL.EN u ∧ ¬same then (stBusy, s)
  else
    let s := (((s.put CMP_CTL.CH (bits value 5 4) u).putB CMP_CTL.DIR (bit value 2) u).putB CMP_CTL.MODE (bit value 1) u).putB
      CMP_CTL.EN (bit value 0) u
    if bit value 0 then
      (stOk, (((s.put CMP_STATUS.POINTER 0 u).put CMP_BASE.BASE 0 u).put CMP_STATUS.LAPS 0 u).put CMP_STATUS.RUNNING 1 u)
    else (stOk, s.put CMP_STATUS.RUNNING 0 u)

/-- A write of ENTRY_HI commits the entry (R285): its status and the state after it. -/
def cmpCommit (u i value : Nat) (s : State) : Nat × State :=
  if s.is CMP_CTL.EN u ∧ i = s.get CMP_STATUS.POINTER u then (stBusy, s)
  else
    let p := s.get CMP_ENTRY.P u i % 2 ^ 32 + value % 2 ^ 16 * 2 ^ 32
    let e : CmpEntry := { p := p, lamp := bits value 31 24, cam := bits value 23 20, page := bit value 18, evt := bit value 17, pin := bit value 16 }
    let s := (((((s.put CMP_ENTRY.P p u i).put CMP_ENTRY.LAMP e.lamp u i).put CMP_ENTRY.CAM e.cam u i).putB CMP_ENTRY.PAGE e.page u i).putB
      CMP_ENTRY.EVT e.evt u i).putB CMP_ENTRY.PIN e.pin u i
    (stOk, { s with pos := { s.pos with entries := mapSet {} (1024 * u + i) e s.pos.entries } })

/-- A write of CMP_LAST (R285): its status and the state after it. -/
def cmpLastWrite (u value : Nat) (s : State) : Nat × State :=
  if s.is CMP_CTL.EN u ∧ value % 1024 < s.get CMP_STATUS.POINTER u then (stBusy, s)
  else (stOk, s.put CMP_LAST.LAST value u)

/-- CMP_PULSE_END: the pin falls. -/
def cmpPulseEnd (u : Nat) (s : State) : State := { s with pos := { s.pos with pins := mapDel u s.pos.pins } }

/-! ### The observer (R275, R276) -/

/-- Show the observer state with the time at which it holds (R278). -/
def posShow (n : Nat) (t : Int) (s : State) : State :=
  let c := s.chan n
  ((((s.putS POS_OBS_X.X (asr c.x 32) n).putS POS_OBS_FRAC.FRAC (asr c.x 16) n).putS POS_OBS_V.V (asr c.v 16) n).putS POS_OBS_A.A c.a n).putS
    POS_OBS_T.T t n

/-- The observer stands: x = H, speed and acceleration 0 and not valid. -/
def posRest (n : Nat) (first : Option (Int × Int)) (t : Int) (s : State) : State :=
  let s := s.setChan n { s.chan n with x := posH s n * 2 ^ 32, v := 0, a := 0, first := first, changed := none }
  posShow n t (s.put POS_STATUS.SPD_VALID 0 n)

/-- The observer takes a change of H at a time (Table 9.3). -/
def posEdge (n : Nat) (t : Int) (reversal : Bool) (s : State) : State :=
  let s := s.put POS_STATUS.STILL 0 n
  let h := posH s n
  if reversal then posRest n (some (h, t)) t s
  else if s.is POS_STATUS.SPD_VALID n then s.setChan n { s.chan n with changed := some t }
  else match (s.chan n).first with
    | none => posRest n (some (h, t)) t s
    | some (h1, t1) =>
      if t ≤ t1 then posRest n (some (h, t)) t s
      else
        let v := narrow 64 (tdiv ((h - h1) * 2 ^ 32 * 1000) (t - t1))
        let s := s.setChan n { s.chan n with x := h * 2 ^ 32, v := v, a := 0, first := none, changed := none }
        posShow n t (s.put POS_STATUS.SPD_VALID 1 n)

/-- observer_update of R275 at a corrected time. -/
def posUpdate (n : Nat) (tk : Int) (s : State) : State :=
  let c := s.chan n
  let h := posH s n
  let xp := narrow 128 (c.x + tdiv c.v 4 + tdiv c.a 32)
  let vp := narrow 64 (c.v + tdiv c.a 4)
  let e : Int := match c.changed with
    | some th => narrow 128 (h * 2 ^ 32 + tdiv (vp * wrap 64 (tk - th)) 1000 - xp)
    | none =>
      let lo := (if s.is POS_STATUS.DIR n then h - 1 else h) * 2 ^ 32
      let hi := lo + 2 ^ 32
      if xp < lo then lo - xp else if hi < xp then hi - xp else 0
  s.setChan n { c with
    x := narrow 128 (xp + asr (e * s.get POS_OBS_ALPHA.ALPHA n) 16)
    v := narrow 64 (vp + narrow 64 (asr (e * s.get POS_OBS_BETA.BETA n) 14))
    a := narrow 64 (c.a + narrow 64 (asr (e * s.get POS_OBS_GAMMA.GAMMA n) 12))
    changed := none }

/-- The state of a channel as an update delivers it (R279). -/
def posObs (s : State) (n : Nat) (t : Nat) : Obs :=
  let c := s.chan n
  { t := t, x := c.x, v := c.v, a := c.a, dir := s.get POS_STATUS.DIR n, valid := posState s n = 1 }

/-- Rows per inch of the open job. -/
def jobRpi (s : State) : Int :=
  if s.get FIRE_ING_JOB.ROW_RES = 0 then 600 else if s.get FIRE_ING_JOB.ROW_RES = 1 then 1200 else 2400

/-- pos_q16 of R321 for an observer state. -/
def posQ16 (s : State) (o : Obs) (t : Int) : Int :=
  let dt := narrow 64 (t - o.t)
  let xc := narrow 128 (o.x + tdiv (o.v * dt) 1000 + tdiv (o.a * dt * dt) 2000000)
  narrow 64 (tdiv (xc * s.get POS_SCALE.SCALE (printChan s) * jobRpi s) (25400 * 2 ^ 40))

/-- The print channel's position every 64 us (R458), while a job gives its rows. -/
def posNote (o : Obs) (s : State) : State :=
  let due : Bool := match s.pos.history with | [] => true | (t, _) :: _ => t / 64000 ≠ o.t / 64000
  if jobOpen s ∧ due then { s with pos := { s.pos with history := ((o.t, posQ16 s o o.t) :: s.pos.history).take 4096 } } else s

/-- One channel's update, and its delivery if it is the print channel. -/
def posUpdateChan (n : Nat) (s : State) : State :=
  if posState s n = 0 then s
  else
    let s := onlyIf (posState s n = 1 && s.is POS_STATUS.SPD_VALID n) (posUpdate n (nowI s)) s
    let s := posShow n (nowI s) s
    if n = printChan s then
      let o := posObs s n s.now
      posNote o { s with pos := { s.pos with last := o } }
    else s

/-- POS_OBS_UPDATE. -/
def posObsUpdate (s : State) : State := each posUpdateChan allChans s

/-- POS_STANDSTILL (Table 9.3). -/
def posStandstill (n : Nat) (s : State) : State :=
  if posState s n = 1 then posRest n none (nowI s) (s.put POS_STATUS.STILL 1 n) else s

/-! ### Faults (R271, R272) -/

/-- A channel faults. -/
def posFault (n reason : Nat) (s : State) : State :=
  let s := ((((s.put POS_STATUS.STATE 2 n).put POS_STATUS.FAULT_REASON reason n).put POS_STATUS.DOUBT 1 n).put POS_STATUS.SPD_VALID 0 n)
  let s := s.setChan n { s.chan n with v := 0, a := 0, first := none, changed := none, samples := none }
  raise (POS0_FAULT + n) reason (posShow n (nowI s) s)

/-- Clear the counts behind the fault decision. -/
def posForgive (n : Nat) (s : State) : State := s.setChan n { s.chan n with illegal := [], ampRun := 0, ssiRun := 0 }

/-- A write of 1 to CLR_FAULT (R272). -/
def posClear (n : Nat) (s : State) : State :=
  let s := posForgive n s
  if posState s n = 2 then
    let s := (s.put POS_STATUS.STATE 1 n).setChan n { s.chan n with angle := none }
    posRest n none (nowI s) s
  else s

/-! ### Held count (R273) -/

/-- The print channel reverses while armed (R338). -/
def fireReversal (dir : Nat) (s : State) : State :=
  match s.ing.pages.find? fun p => p.stage = 1 && pageUnfired s p with
  | some p =>
    let s := s.putB FIRE_STATUS.AGAINST (b2n p.reverse ≠ dir)
    raise FIRE_DIR_CHANGE (dir + 256 + 65536 * printingPage s) s
  | none => raise FIRE_DIR_CHANGE (dir + 65536 * printingPage s) (s.put FIRE_STATUS.AGAINST 0)

/-- A reversal is declared (R273). -/
def posReverse (n : Nat) (s : State) : State :=
  let dir := 1 - s.get POS_STATUS.DIR n
  let s := raise POS_REVERSAL (n + 16 * dir) (s.put POS_STATUS.DIR dir n)
  if n = printChan s ∧ armed s then fireReversal dir s else s

/-- R takes a new value at a time, and H follows (R273, R274). -/
def posCount (n : Nat) (r t : Int) (s : State) : State :=
  let s := s.putS POS_RAW.R r n
  let d : Int := if s.is POS_STATUS.DIR n then -1 else 1
  let back := d * (posH s n - r)
  if back < 0 then
    cmpCheck n t (posEdge n t false ((s.putS POS_HELD.H r n).put POS_STATUS.HELD 0 n))
  else if back ≤ s.get POS_BACKLASH.WINDOW n then s.putB POS_STATUS.HELD (0 < back) n
  else
    let s := posReverse n ((s.putS POS_HELD.H r n).put POS_STATUS.HELD 0 n)
    cmpCheck n t (posEdge n t true s)

/-- R advances by a signed number of counts, INV applied. -/
def posAdvance (n : Nat) (step t : Int) (s : State) : State :=
  posCount n (s.getS POS_RAW.R n + (if s.is POS_CTL.INV n then -step else step)) t s

/-! ### Quadrature (R262 to R264) -/

/-- Both lines change together (R263). -/
def posIllegal (n : Nat) (s : State) : State :=
  let s := s.count POS_ILL_COUNT.COUNT n
  let w := max 1 (s.get POS_ILL_CFG.WINDOW n) * 1000000
  let times := s.time.raw :: (s.chan n).illegal.filter fun t => s.time.raw < t + w
  let s := s.setChan n { s.chan n with illegal := times }
  let s := raise POS_ILLEGAL_TRANSITION (n + 256 * min 255 times.length) s
  if times.length > s.get POS_ILL_CFG.MAX n then posFault n 2 s else s

/-- The place of a pair of levels in the order A leading B. -/
def quadPhase (lineA lineB : Bool) : Nat := if lineA then (if lineB then 2 else 1) else (if lineB then 3 else 0)

/-- The filtered lines A and B take new levels (R262). -/
def posQuad (n : Nat) (lineA lineB : Bool) (s : State) : State :=
  let c := s.chan n
  let step := (quadPhase lineA lineB + 4 - quadPhase c.lineA c.lineB) % 4
  let s := s.setChan n { c with lineA := lineA, lineB := lineB }
  if posState s n ≠ 1 ∨ s.get POS_CTL.MODE n ≠ 0 then s
  else if step = 0 then s
  else if step = 2 then posIllegal n s
  else posAdvance n (if step = 1 then 1 else -1) (nowI s - 5 * s.get POS_CTL.FILT n) s

/-- A referenced index edge moves the counts so that R is 0 (R264). -/
def posReference (n : Nat) (s : State) : State :=
  let r := s.getS POS_RAW.R n
  let c := s.chan n
  let s := (s.put POS_RAW.R 0 n).putS POS_HELD.H (posH s n - r) n
  let s := s.setChan n { c with x := c.x - r * 2 ^ 32, first := c.first.map fun e => (e.1 - r, e.2) }
  let s := (s.put POS_STATUS.DOUBT 0 n).put POS_CTL.Z_ARM 0 n
  posShow n (s.getS POS_OBS_T.T n) s

/-- A filtered rising edge of Z (R264). -/
def posIndex (n : Nat) (s : State) : State :=
  if posState s n ≠ 1 ∨ s.get POS_CTL.MODE n > 1 ∨ ¬s.is POS_CTL.Z_EN n then s
  else
    let s := s.putS POS_INDEX.R_AT_Z (s.getS POS_RAW.R n) n
    if s.is POS_CTL.Z_ARM n then cmpCheck n (nowI s - 5 * s.get POS_CTL.FILT n) (posReference n s) else s

/-! ### Sine/cosine (R265 to R267) -/

/-- A corrected sample pair (R265): sc and cc. -/
def scCorrect (s c ofsS ofsC : Int) (gainS gainC : Nat) (phi : Int) : Int × Int :=
  let sc := narrow 32 (asr ((s - ofsS) * gainS) 14)
  let cc := narrow 32 (asr ((c - ofsC) * gainC) 14)
  (sc, narrow 32 (tdiv (cc * trigOne - sc * sinQ (phi * 2 ^ 45)) (cosQ (phi * 2 ^ 45))))

/-- A sample pair corrected with a channel's coefficients. -/
def posCorrect (s : State) (n : Nat) (sine cosine : Int) : Int × Int :=
  scCorrect sine cosine (s.getS POS_SC_OFS.OFS_S n) (s.getS POS_SC_OFS.OFS_C n)
    (s.get POS_SC_GAIN.GAIN_S n) (s.get POS_SC_GAIN.GAIN_C n) (s.getS POS_SC_PHASE.PHASE n)

/-- The amplitude figure m (R266). -/
def scAmp (p : Int × Int) : Nat := min 0xFFFF ((asr (p.1 * p.1 + p.2 * p.2) 16).toNat)

/-- A sample's angle becomes R (R267). -/
def posAngle (n angle : Nat) (s : State) : State :=
  let c := s.chan n
  let s := s.setChan n { c with angle := some angle }
  match c.angle with
  | none => s
  | some old =>
    let step := narrow 12 ((angle : Int) - old)
    if 1024 < step.natAbs then posFault n 4 s
    else if step = 0 then s
    else posAdvance n step (nowI s) s

/-- The coefficients of an accepted SINCOS item stand in the registers. -/
def posSettleCoef (n : Nat) (s : State) : State :=
  match (s.chan n).coef with
  | none => s
  | some (os, oc, gs, gc, ph) =>
    let s := s.setChan n { s.chan n with coef := none }
    ((((s.put POS_SC_OFS.OFS_S os n).put POS_SC_OFS.OFS_C oc n).put POS_SC_GAIN.GAIN_S gs n).put POS_SC_GAIN.GAIN_C gc n).put
      POS_SC_PHASE.PHASE ph n

/-- The coefficients of an accepted SINCOS item take over at this sample: its angle under them counts as the angle it had (R406). -/
def posTakeCoef (n : Nat) (sine cosine : Int) (s : State) : State :=
  if (s.chan n).coef = none then s
  else
    let s := posSettleCoef n s
    let p := posCorrect s n sine cosine
    s.setChan n { s.chan n with angle := (s.chan n).angle.map fun _ => angle12 p.1 p.2 }

/-- POS_SC_SAMPLE. -/
def posScSample (n : Nat) (sine cosine : Int) (s : State) : State :=
  if ¬s.is POS_CTL.EN n ∨ s.get POS_CTL.MODE n ≠ 1 then s
  else
    let p := posCorrect s n sine cosine
    let m := scAmp p
    let s := s.put POS_SC_AMP_CFG.AMP_NOW m n
    if posState s n ≠ 1 then s
    else
      let s := s.setChan n { s.chan n with samples := (s.chan n).samples.map fun l => (sine, cosine) :: l }
      let out := m < s.get POS_SC_AMP.MIN n || s.get POS_SC_AMP.MAX n < m
      let run := if out then (s.chan n).ampRun + 1 else 0
      let s := s.setChan n { s.chan n with ampRun := run }
      if out ∧ run ≥ max 1 (s.get POS_SC_AMP_CFG.FILT n) then posFault n 1 s
      else posTakeCoef n sine cosine (posAngle n (angle12 p.1 p.2) s)

/-! ### SSI (R268 to R270) -/

/-- The binary value of a Gray code of n bits. -/
def grayDecode : Nat → Nat → Nat
  | 0, _ => 0
  | n + 1, v => v ^^^ grayDecode n (v / 2)

/-- The number of ones of a number of n bits. -/
def ones (n v : Nat) : Nat := ((List.range n).filter fun i => bit v i).length

/-- An error read (R270). -/
def ssiError (n kind : Nat) (s : State) : State :=
  let s := s.count POS_SSI_ERR_COUNT.COUNT n
  let s := raise POS_SSI_ERROR (n + 16 * kind) (s.setChan n { s.chan n with ssiRun := (s.chan n).ssiRun + 1 })
  if (s.chan n).ssiRun ≥ max 1 (s.get POS_SSI_ERR_CFG.ERR_MAX n) then posFault n 3 s else s

/-- A good read (R269): the reading and the time of its latch. -/
def ssiGood (n v : Nat) (diff : Option Int) (t : Int) (s : State) : State :=
  let s := (s.put POS_STATUS.DOUBT 0 n).setChan n { s.chan n with reading := some v, ssiRun := 0 }
  match diff with
  | none =>
    let s := (s.put POS_RAW.R v n).put POS_HELD.H v n
    cmpCheck n t (posRest n none t s)
  | some d => if d = 0 then s else posAdvance n d t s

/-- POS_SSI_READ. -/
def posSsiRead (n : Nat) (ready : Bool) (data : Nat) (parity : Bool) (s : State) : State :=
  if posState s n ≠ 1 ∨ s.get POS_CTL.MODE n ≠ 2 then s
  else
    let len := s.get POS_SSI_CFG.LEN n
    let data := data % 2 ^ len
    let v := if s.is POS_SSI_CFG.GRAY n then grayDecode len data else data
    let odd := (ones len data + b2n parity) % 2
    let kind := s.get POS_SSI_CFG.PARITY n
    let diff := (s.chan n).reading.map fun w => narrow len ((v : Int) - w)
    let far : Bool := match diff with | some d => s.get POS_SSI_JUMP.JUMP n < d.natAbs | none => false
    if !ready then ssiError n 1 s
    else if (kind = 1 ∧ odd = 1) ∨ (kind = 2 ∧ odd = 0) then ssiError n 2 s
    else if far then ssiError n 3 s
    else ssiGood n v diff (nowI s + s.get POS_SSI_TIMING.LATCH_DELAY n) s

/-! ### Enable (R260, R261, R268, R277) -/

/-- A channel starts (R261). -/
def posStart (n : Nat) (s : State) : State :=
  let s := posSettleCoef n s
  let ssi := s.get POS_CTL.MODE n = 2
  let s := (((s.put POS_STATUS.STATE 1 n).put POS_STATUS.DIR 0 n).put POS_STATUS.HELD 0 n).put POS_STATUS.STILL 0 n
  let s := (s.putB POS_STATUS.DOUBT (!ssi) n).put POS_RAW.R 0 n
  let s := s.put POS_HELD.H 0 n
  let s := s.setChan n { lineA := (s.chan n).lineA, lineB := (s.chan n).lineB }
  posRest n none (nowI s) s

/-- A channel is disabled. -/
def posStop (n : Nat) (s : State) : State :=
  let s := ((posSettleCoef n s).put POS_STATUS.STATE 0 n).put POS_STATUS.SPD_VALID 0 n
  s.setChan n { lineA := (s.chan n).lineA, lineB := (s.chan n).lineB }

/-- The observer gains break R277. -/
def gainsBad (s : State) (n : Nat) : Bool :=
  let a := s.get POS_OBS_ALPHA.ALPHA n
  let b := s.get POS_OBS_BETA.BETA n
  a = 0 || 0x8000 < a || a < b || b < s.get POS_OBS_GAMMA.GAMMA n

/-- The SSI configuration breaks R268: times in 5 ns. -/
def ssiBad (s : State) (n : Nat) : Bool :=
  let len := s.get POS_SSI_CFG.LEN n
  let par := s.get POS_SSI_CFG.PARITY n
  let clk := s.get POS_SSI_CFG.CLK_DIV n
  len < 8 || 32 < len || clk < 9 || par = 3
    || 20 * s.get POS_SSI_TIMING.PERIOD n < (len + b2n (par ≠ 0) + 1) * (2 * (clk + 1)) + 200 * s.get POS_SSI_CFG.MONO n

/-- A write of POS_CTL (R259 to R264, R272): its status and the state after it. Bits 31 and 30 of the value are set where 1 was written to them. -/
def posCtlWrite (n value : Nat) (s : State) : Nat × State :=
  let mode := bits value 2 1
  let en := bit value 0
  let was := s.is POS_CTL.EN n
  let print := armed s && n = printChan s
  let same := mode = s.get POS_CTL.MODE n ∧ bits value 4 4 = s.get POS_CTL.INV n ∧ bits value 15 12 = s.get POS_CTL.FILT n
    ∧ bits value 7 7 = s.get POS_CTL.TERM n
  if mode = 3 ∨ bits value 15 12 > 7 ∨ (en ∧ (gainsBad s n ∨ ssiBad s n)) then (stBadParam, s)
  else if (was ∧ ¬same) ∨ (print ∧ (¬en ∨ bit value 30)) then (stBusy, s)
  else
    let s := ((((s.put POS_CTL.FILT (bits value 15 12) n).put POS_CTL.TERM (bits value 7 7) n).put POS_CTL.Z_EN (bits value 6 6) n).put
      POS_CTL.INV (bits value 4 4) n).put POS_CTL.MODE mode n
    let s := onlyIf (bit value 30) (fun s => s.put POS_CTL.Z_ARM 1 n) (s.putB POS_CTL.EN en n)
    let s := if en && !was then posStart n (onlyIf (mode = 1) (calChannel n) s) else if was && !en then posStop n s else s
    (stOk, onlyIf (bit value 31) (posClear n) s)

/-- Enabled channels start again after DORMANT (R261). -/
def posWake (s : State) : State := each (fun n s => if s.is POS_CTL.EN n then posStart n s else s) allChans s

/-- What POS keeps beside its registers is lost with PD_CTL. -/
def posLost (s : State) : State := { s with pos := { last := { s.pos.last with valid := false } } }

/-! ### The commands of chapter 9 -/

/-- POS_QUAD_EDGE (R262). -/
def execPosQuadEdge (channel : Fin 4) (lineA lineB : Bool) (s : State) : Host.Outcome State Fault Refusal := .next (posQuad channel.val lineA lineB s)

/-- POS_INDEX_EDGE (R264). -/
def execPosIndexEdge (channel : Fin 4) (s : State) : Host.Outcome State Fault Refusal := .next (posIndex channel.val s)

/-- POS_SC_SAMPLE (R265 to R267). -/
def execPosScSample (channel : Fin 4) (sine cosine : BitVec 16) (s : State) : Host.Outcome State Fault Refusal :=
  .next (posScSample channel.val sine.toInt cosine.toInt s)

/-- POS_SSI_READ (R268 to R270). -/
def execPosSsiRead (channel : Fin 4) (ready : Bool) (bits : BitVec 32) (parity : Bool) (s : State) : Host.Outcome State Fault Refusal :=
  .next (posSsiRead channel.val ready bits.toNat parity s)

/-- POS_OBS_UPDATE (R275, R279). -/
def execPosObsUpdate (s : State) : Host.Outcome State Fault Refusal := .next (posObsUpdate s)

/-- POS_STANDSTILL (R276). -/
def execPosStandstill (channel : Fin 4) (s : State) : Host.Outcome State Fault Refusal := .next (posStandstill channel.val s)

/-- CMP_PULSE_END (R282). -/
def execCmpPulseEnd (cmp : Fin 4) (s : State) : Host.Outcome State Fault Refusal := .next (cmpPulseEnd cmp.val s)

end Sys2Proof.Machine
end

