-- ==== Sys2Proof/Machine/Ecc.lean ====
section
/-! DEFINITION. Reads that meet memory errors: SECDED of the Vat (R71) and in-line ECC of DRAM (R245), and the controller that a DRAM address belongs to (R236). -/

namespace Sys2Proof.Machine

/-- The parity of a number of n bits. -/
def parity (n v : Nat) : Nat := ones n v % 2

/-- The select bit x of a usable offset (R236): the parity of A under its mask. -/
def mapBit (s : State) (x a : Nat) : Nat := parity 29 (a / 64 &&& s.get DRAM_MAP.MASK x)

/-- The controller of a DRAM address. -/
def dramCtrl (s : State) (a : Nat) : Nat := mapBit s 2 (a - 0x1000000000)

/-- The start of the unit in which an address's errors are found: the 64-byte block of DRAM, the 64-bit word elsewhere. -/
def eccUnit (a : Nat) : Nat := if isDram a then a / 64 * 64 else a / 8 * 8

/-- An error at a place is met by a read of n bytes from an address. -/
def eccMeets (a n e : Nat) : Bool :=
  let u := eccUnit e
  let size := if isDram e then 64 else 8
  u < a + n && a < u + size

/-- The errors that a read meets. In-line ECC finds none while ECC_EN is 0. -/
def eccErrors (s : State) (a n : Nat) : List (Nat × Bool) :=
  s.cmd.ecc.filter fun e => eccMeets a n e.1 && (!isDram e.1 || s.is DRAM_MEM_CFG.ECC_EN)

/-- A correctable error is corrected and the word rewritten. -/
def eccCorrect (e : Nat) (s : State) : State :=
  let s := { s with cmd := { s.cmd with ecc := s.cmd.ecc.filter fun x => x.1 ≠ e } }
  if isDram e then
    raise EV_DRAM_ECC_CORR ((e - 0x1000000000) / 64 % 2 ^ 29) (s.count DRAM_ECC_CORR.COUNT (dramCtrl s e))
  else raise SYS_SRAM_ECC_CORR ((e - 0x0100000000) / 8 * 256) s

/-- An uncorrectable error is reported. -/
def eccReport (e : Nat) (s : State) : State :=
  if isDram e then
    let c := dramCtrl s e
    raise EV_DRAM_ECC_UNCORR ((e - 0x1000000000) / 64 % 2 ^ 29) ((s.count DRAM_ECC_UNCORR.COUNT c).put DRAM_ECC_ADDR.ADDR e c)
  else raise SYS_SRAM_ECC_UNCORR ((e - 0x0100000000) / 8 * 256) s

/-- A read of n bytes from an address: its correctable errors are corrected and its uncorrectable ones reported. -/
def eccRead (a n : Nat) (s : State) : State :=
  each (fun e s => if e.2 then eccReport e.1 s else eccCorrect e.1 s) (eccErrors s a n) s

/-- A read of n bytes from an address meets an uncorrectable error. -/
def eccBad (s : State) (a n : Nat) : Bool := (eccErrors s a n).any fun e => e.2

/-- The byte at an address lies in a unit with an uncorrectable error. -/
def eccLost (s : State) (a : Nat) : Bool := eccBad s a 1

/-- Bytes as a reader sees them that gets zeros for what is lost (R71, R245). -/
def eccBytes (s : State) (a n : Nat) : List Byte := (s.bytes a n).mapIdx fun i b => if eccLost s (a + i) then 0 else b

end Sys2Proof.Machine
end

