-- ==== Sys2Proof/Machine/Grid.lean ====
section
/-! DEFINITION. The fire grid, arming, page starts and origins (R315 to R327, R384, R471). -/

namespace Sys2Proof.Machine

/-- EPOCH in 2^-24 ns. -/
def gridEpoch (s : State) : Int := s.getS FIRE_EPOCH.EPOCH * 2 ^ 24 + s.get FIRE_EPOCH_FRAC.FRAC

/-- t_k in 2^-24 ns (R315). -/
def gridTime (s : State) (k : Nat) : Int := gridEpoch s + k * (gridPeriod s : Int)

/-- Set the grid: EPOCH and the period, both in 2^-24 ns. -/
def setGrid (epoch : Int) (period : Nat) (s : State) : State :=
  (((s.putS FIRE_EPOCH.EPOCH (asr epoch 24)).putS FIRE_EPOCH_FRAC.FRAC epoch).put FIRE_PERIOD_NS.NS (period / 2 ^ 24)).put
    FIRE_PERIOD_FRAC.FRAC period

/-- The lowest k from 0 with t_k at or after a time in ns. -/
def firstFire (s : State) (t : Int) : Nat :=
  let d := t * 2 ^ 24 - gridEpoch s
  (max 0 ((d + gridPeriod s - 1) / (gridPeriod s : Int))).toNat

/-! ### Arming (R318 to R320) -/

/-- The period that FIRE_ARM's parameters give, in 2^-24 ns. -/
def armPeriod (ps : List Byte) : Nat := beAt ps 12 4 * 2 ^ 24 + beAt ps 16 4

/-- FIRE_ARM at step 10 of Table 4.5. -/
def armOk (ps : List Byte) : Bool :=
  ps.length = 24 && beAt ps 0 2 = 0 && beAt ps 8 1 = 0 && beAt ps 16 1 = 0 && beAt ps 20 4 = 0 && periodOk (armPeriod ps)

/-- R384: an enabled head's link allows arming. -/
def headArmable (s : State) (h : Nat) : Bool :=
  (if isStandby s then hlState s h = 7 else hlState s h = 4 && s.is HL_WF_STATE.TRIM_OK h)
    && s.get HL_ID_CHECK.MISMATCH h ≠ 1 && s.get HL_ID_CHECK.MISMATCH h ≠ 3

/-- The checks of R319, R362 and R471 at step 13, in order: the status. -/
def armStatus (s : State) (period : Nat) : Nat :=
  if armed s then stBusy
  else if ¬jobOpen s ∨ ¬s.is NMAP_STATUS.TABLE then stBusy
  else if !withinCeiling period (s.get SYS_PL.REQ) (tblN s (liveBase s)) then stBadParam
  else if posState s (printChan s) ≠ 1 then stBusy
  else if (liveHeads s).any fun h => !s.bitOf CAL_FIRST.FIRST h then stBusy
  else if (liveHeads s).any fun h => !headArmable s h then stBusy
  else if role s = 2 ∨ role s = 4 ∨ (¬paired s ∧ role s ≠ 3) then stBusy
  else if !wavesValid s then stBusy
  else if !liveFloorsOk s period then stBadParam
  else stOk

/-- The ring row at which printing begins: the first row of the first page to start. -/
def firstRow (s : State) : Nat := match s.ing.pages.find? fun p => p.stage = 0 with | some p => p.base | none => s.ing.nextBase

/-- Arming takes place (Table 11.2). -/
def armNow (ps : List Byte) (s : State) : State :=
  let e : Int := (s.now : Int) + sext 48 (wrap 48 ((beAt ps 0 8 : Int) - s.now))
  let s := setGrid (e * 2 ^ 24 + beAt ps 8 4) (armPeriod ps) s
  let rows := (liveGroups s).map fun g => (g, firstRow s)
  let s := { s with fire := { s.fire with
    next := firstFire s ((s.now : Int) + 20000), standby := isStandby s, decidedTo := rows, firedTo := rows, lines := []
    triggers := [], decided := [], history := [], stop := none, atEnd := false, takeover := none } }
  let s := (((s.put FIRE_STATUS.STALLED 0).put FIRE_STATUS.AGAINST 0).put FIRE_STATUS.OVER_WARN 0).put FIRE_STATUS.ARMED 1
  let s := onlyIf (!isStandby s) (each (fun h s => if hlState s h = 4 then setHl h 6 s else s) allHeads) s
  raise FIRE_ARMED (b2n (isStandby s)) s

/-- FIRE_ARM at step 13. -/
def fireArm (ps : List Byte) (s : State) : Res :=
  let st := armStatus s (armPeriod ps)
  if st = stOk then ok (armNow ps s) else no st s

/-- FIRE_STOP at step 10 (R339). -/
def stopOk (ps : List Byte) : Bool := ps.length = 4 && beAt ps 0 4 < 2

/-- FIRE_STOP at step 13 (R339). -/
def fireStopCmd (ps : List Byte) (s : State) : Res :=
  if ¬armed s then no stBusy s
  else if bit (beAt ps 0 4) 0 then
    let s := { s with fire := { s.fire with atEnd := true } }
    ok (if s.ing.pages.any fun p => p.stage = 1 then s else fireStop 1 s)
  else ok (fireStop 1 s)

/-- Bytes 4 to 37 of the STATE payload (Table 17.3), with WF_CRC as 0. -/
def stateBody (s : State) : List Byte :=
  let (t, p0) : Nat × Int := match s.fire.history with | e :: _ => (e.t, e.p0) | [] => (0, 0)
  beBytes 1 (if jobOpen s then s.get FIRE_ING_JOB.JOB else 0) ++ beBytes 1 (if jobOpen s then s.get FIRE_ING_JOB.ROW_RES else 0)
    ++ beBytes 2 (printingPage s) ++ beBytes 4 (s.get NMAP_TABLE_ID.ID)
    ++ beBytes 4 (if s.is NMAP_STATUS.TABLE then s.le (liveBase s + 0x1C) 4 else 0) ++ zeros 4
    ++ beBytes 6 (t / 2 ^ 24) ++ beBytes 3 t ++ beBytes 1 (queueDepth s) ++ beBytes 8 (wrap 64 p0)

/-- Note what a STATE says of this decision (R474). -/
def noteState (s : State) : State :=
  if hasPeer s then { s with pair := { s.pair with body := stateBody s } } else s

/-! ### Page starts and origins (R324 to R326) -/

/-- The printing pages in their start order. -/
def printing (s : State) : List Page := s.ing.pages.filter fun p => p.stage = 1

/-- Some enabled head has fetched the last row of a page. -/
def lastFetched (s : State) (p : Page) : Bool :=
  (liveGroups s).any fun g => p.base + p.rows ≤ mapGet 0 s.fire.decidedTo g

/-- The sources of the analyser whose DIR is a page's. -/
def pageSources (s : State) (reverse : Bool) : List Nat :=
  nhaSources.filter fun c => srcOn s c && srcRev s c = reverse

/-- R441: the analyser is disabled for a page that starts now. -/
def pageUnread (s : State) (p : Page) : Bool := !p.inspect || !s.is NHA_CTL.EN || (pageSources s p.reverse).isEmpty

/-- The oldest queued page is started (R324): when no page is printing, or the last row of the last one started has been fetched. -/
def startNext (s : State) : State :=
  let go : Bool := match (printing s).getLast? with | none => true | some p => lastFetched s p
  if s.fire.atEnd ∨ ¬go then s
  else match s.ing.pages.find? fun p => p.stage = 0 with
    | some p =>
      let unread := pageUnread s p
      showPage (mapPage p.id (fun p => { p with stage := 1, unread := unread }) s)
    | none => s

/-- The first printing page whose origin is not fixed. -/
def unfixed (s : State) : Option Page := (printing s).find? fun p => p.origin.isNone

/-- The page that waits for its trigger takes the oldest entry with its ID (R323). REBASE is noted as pending where it comes after the decision of the first fire at or after START_AT (R326). -/
def takeTrigger (k : Nat) (s : State) : State :=
  match unfixed s with
  | none => s
  | some p =>
    if p.trigger = 0xFFFF ∨ p.startAt.isSome then s
    else match s.fire.triggers.find? fun e => e.1 = p.trigger with
      | none => s
      | some e =>
        let late : Bool := 0 < k && (e.2 : Int) * 2 ^ 24 ≤ gridTime s (k - 1)
        let s := { s with fire := { s.fire with triggers := s.fire.triggers.erase e } }
        mapPage p.id (fun p => { p with startAt := some e.2, rebase := late }) s

/-- The printing page before a page, if it is still printing. -/
def pageBefore (s : State) (p : Page) : Option Page := ((printing s).filter fun q => q.base < p.base).getLast?

/-- Table 11.3 at d_k. -/
def originReady (s : State) (p : Page) (k : Nat) : Bool :=
  (p.trigger = 0xFFFF || match p.startAt with | some t => (t : Int) * 2 ^ 24 ≤ gridTime s k | none => false)
    && match pageBefore s p with
    | some q => q.reverse = p.reverse && q.period = p.period
    | none => s.pos.last.dir = b2n p.reverse

/-- P_k (R322): the landing position of a fire at t, in 2^-24 ns. -/
def landing (s : State) (t : Int) : Int := posQ16 s s.pos.last (asr t 24 + s.get FIRE_FLIGHT.FLIGHT)

/-- The sense of travel of a page. -/
def pageSense (p : Page) : Int := if p.reverse then -1 else 1

/-- Rebase the grid on fire k with a page's period (R326). -/
def rebaseGrid (k period : Nat) (s : State) : State :=
  let s := setGrid (gridTime s k) period s
  { s with fire := { s.fire with next := 0 } }

/-- The end of the page before, where the next page's row 0 would stand. -/
def pageEndAt (q : Page) : Int := q.origin.getD 0 + pageSense q * q.rows * 65536

/-- The origin of a page with its clamps (R325): the origin, EARLY and LATE. -/
def originOf (s : State) (p : Page) (p1 : Int) : Int × Bool × Bool :=
  let sg := pageSense p
  let before := pageBefore s p
  let o : Int := match p.startAt with
    | some t => posQ16 s s.pos.last t + sg * s.get FIRE_TRIG_OFFSET.OFFSET * 256
    | none => match before with | some q => pageEndAt q | none => p1
  let early : Bool := match before with | some q => sg * (o - pageEndAt q) < 0 | none => false
  let o := if early then (before.map pageEndAt).getD o else o
  let late : Bool := sg * (o - p1) < 0
  (if late then p1 else o, early, late)

/-- Fix a page's origin at d_k, rebasing the grid where its period differs. -/
def fixOrigin (p : Page) (k : Nat) (s : State) : State :=
  let moved := p.period ≠ gridPeriod s
  let s := onlyIf moved (rebaseGrid k p.period) s
  let (o, early, late) := originOf s p (landing s (gridTime s ((if moved then 0 else k) + 1)))
  let rebase : Bool := moved && p.rebase
  let s := mapPage p.id (fun p => { p with origin := some o, early := early, late := late, rebase := rebase }) s
  ((((s.put FIRE_LAST_START.PAGE p.id).putB FIRE_LAST_START.DIR p.reverse).putB FIRE_LAST_START.REBASE rebase).putB
    FIRE_LAST_START.EARLY early).putB FIRE_LAST_START.LATE late

/-- Page starts and origins at a decision. -/
def startPages (k : Nat) (placed : Bool) (s : State) : State :=
  let s := takeTrigger k (startNext s)
  match unfixed s with
  | some p => if placed ∧ originReady s p k then fixOrigin p k s else s
  | none => s

end Sys2Proof.Machine
end

