-- ==== Sys2Proof/Machine/NhaRead.lean ====
section
/-! DEFINITION. Which rows the nozzle-health analyser has read back (R17, R441). -/

namespace Sys2Proof.Machine

/-- The number of rows of a page that the position x has taken past a far line F: row r has passed when the travel from the origin, less r rows, is F or more (R441, R444). -/
def rowsPassed (p : Page) (x far : Int) : Int :=
  match p.origin with
  | some o => (pageSense p * (x - o) - far * 256) / 65536 + 1
  | none => 0

/-- The triggers of a port whose groups have still to be analysed: those of posted groups, of groups in progress, and those that a group may yet take (R419, R441). -/
def pendingTrigs (s : State) (c : Nat) : List CamTrig :=
  let p := s.camPort c
  p.waiting.filterMap (fun w => w.trig) ++ p.groups.filterMap (fun g => g.trig)
    ++ p.trigs.filter fun t => (s.now : Int) ≤ t.time + 1000 * s.get CAM_CFG.TRIG_WIN c

/-- The exposure time of a trigger's group (R444). -/
def expoOf (s : State) (c : Nat) (t : CamTrig) : Int := (t.time : Int) + s.get NHA_CAM_EXP.EXP_DELAY c

/-- The print position at a trigger's exposure (R444). -/
def expoPos (s : State) (c : Nat) (t : CamTrig) : Int := posQ16 s t.obs (expoOf s c t)

/-- Rows of a page that count as read back for a local port. -/
def localRows (s : State) (p : Page) (c : Nat) : Int :=
  (pendingTrigs s c).foldl (fun m t => min m (rowsPassed p (expoPos s c t) (farLine s c)))
    (rowsPassed p (posQ16 s s.pos.last s.now) (farLine s c))

/-- Rows of a page that count as read back for a remote source. -/
def remoteRows (s : State) (p : Page) (r : Nat) : Int := ((mapGet 0 s.nha.passed r : Nat) : Int) - p.base

/-- Rows of a page that count as read back for a source. -/
def sourceRows (s : State) (p : Page) (c : Nat) : Int := if c < 4 then localRows s p c else remoteRows s p (c - 4)

/-- A page with its rows read back as far as they are; a page that no source serves any more is no longer analysed. -/
def pageRead (s : State) (p : Page) : Page :=
  if p.unread ∨ p.stage = 0 then p
  else match pageSources s p.reverse with
    | [] => { p with unread := true }
    | c :: cs =>
      let n := cs.foldl (fun m c => min m (sourceRows s p c)) (sourceRows s p c)
      { p with readTo := max p.readTo (clampI n 0 p.rows).toNat }

/-- Rows that count as read back now, and their slots where that releases them. -/
def nhaReadBack (s : State) : State := readBack (pageRead s) s

/-- Ring row q has been read back, or belongs to no page (R450). A page that has not started has still to be read where INSPECT is set. -/
def rowReadBack (s : State) (q : Nat) : Bool :=
  match pageOfRow s q with
  | none => true
  | some p => if p.stage = 0 then !p.inspect else p.unread || q < p.base + p.readTo

end Sys2Proof.Machine
end

