-- ==== Sys2Proof/Machine/Fire.lean ====
section
/-! DEFINITION. The decision of a fire and the fire itself: which rows fall due, fetches, oversped rows, fire packets, page starts and ends, override packets and takeover (R223, R254, R301, R328 to R337, R352 to R356, R374 to R377, R482, R486). -/

namespace Sys2Proof.Machine

/-! ### Which rows fall due (R328, R329) -/

/-- FIRE_ALIGN for a direction. -/
def alignOf (s : State) (rev : Bool) : Int := if rev then s.getS FIRE_ALIGN.REV else s.getS FIRE_ALIGN.FWD

/-- target of R328: where the medium stands when row r of a page is due at slot group g. -/
def rowTarget (s : State) (g : Nat) (p : Page) (r : Nat) : Int :=
  p.origin.getD 0 + pageSense p * ((r : Int) * 65536 + ((tblD256 s (liveBase s) (g / 4) (g % 4) p.reverse : Int) + alignOf s p.reverse) * 256)

/-- The number of a page's rows whose target the midpoint m has reached: targets lie 65,536 apart, so they are rows 0 to this number less 1. -/
def rowsReached (s : State) (g : Nat) (p : Page) (m : Int) : Nat :=
  (max 0 (pageSense p * (m - rowTarget s g p 0) / 65536 + 1)).toNat

/-- The ring rows of slot group g that fall due at midpoint m, from its next row on, through the pages in their start order up to one whose origin is not fixed (R329). -/
def dueRows (s : State) (g : Nat) (m : Int) : List Page → Nat → List Nat
  | [], _ => []
  | p :: ps, next =>
    match p.origin with
    | none => []
    | some _ =>
      let first := next - p.base
      let last := min p.rows (rowsReached s g p m)
      let mine := (List.range (last - first)).map fun i => p.base + first + i
      if last < p.rows then mine else mine ++ dueRows s g m ps (max next (p.base + p.rows))

/-- Every slot group with rows due, in ascending order. -/
def dueAll (s : State) (m : Int) : List (Nat × List Nat) :=
  ((liveGroups s).map fun g => (g, dueRows s g m (printing s) (mapGet 0 s.fire.decidedTo g))).filter fun e => !e.2.isEmpty

/-! ### Fetches (R223, R254, R301, R330) -/

/-- The planar row in the slot of a ring row as the fetch reads it, with the columns that it lost (R245). -/
def ringRow (s : State) (q : Nat) : List Byte := s.bytes (slotAddr s q) (rowBytes (columns s))

/-- Columns whose code a plane's byte holds are lost where some plane's byte is. -/
def columnLost (s : State) (q c : Nat) : Bool :=
  [0, 1, 2].any fun p => eccLost s (slotAddr s q + p * planeBytes (columns s) + c / 8)

/-- The codes of the nozzles of the enabled heads for a ring row, through the live bank (R295). -/
def rowLine (s : State) (p : Page) (q : Nat) : List (Nat × List Nat) :=
  let cols := columns s
  let row := ringRow s q
  let bad := eccBad s (slotAddr s q) (rowBytes cols)
  let img (c : Nat) : Nat := if bad && columnLost s q c then 0 else rowCode cols row c
  (liveHeads s).map fun h => (h, (List.range 2048).map fun i =>
    codeOf s (liveBase s) cols p.pass p.passes img (2048 * h + i) (q - p.base))

/-- A ring row is fetched for the first time: its codes, or code 0 for a row that underruns. -/
def fetchRow (q : Nat) (s : State) : State :=
  match pageOfRow s q with
  | none => s
  | some p =>
    let put (l : List (Nat × List Nat)) (s : State) : State :=
      { s with fire := { s.fire with lines := mapPut q l s.fire.lines, fetchTop := max s.fire.fetchTop (q + 1) } }
    if landed p ((q - p.base) / p.stripRows) then
      let n := rowBytes (columns s)
      let line := rowLine s p q
      let s := onlyIf (eccBad s (slotAddr s q) n) (mapPage p.id fun p => { p with defective := true }) s
      put line (eccRead (slotAddr s q) n s)
    else put [] (underrunRow p.id (q - p.base) s)

/-- Rows in ascending order without repeats. -/
def sortRows (l : List Nat) : List Nat := l.foldl (fun m q => mapPut q () m) ([] : List (Nat × Unit)) |>.map Prod.fst

/-- The fetches of a fire: every row due that has not been fetched, in ascending order. -/
def fetchDue (due : List (Nat × List Nat)) (s : State) : State :=
  each fetchRow ((sortRows ((due.map Prod.snd).flatten)).filter fun q => !s.fire.lines.any fun e => e.1 = q) s

/-- The code of nozzle i of head h in a fetched row; 0 where it is not held. -/
def lineCode (s : State) (q h i : Nat) : Nat := (mapGet [] (mapGet [] s.fire.lines q) h).getD i 0

/-! ### Oversped rows (R333, R334) -/

/-- The POLICY of the page of a ring row. -/
def rowPolicy (s : State) (q : Nat) : Nat := match pageOfRow s q with | some p => p.policy | none => 0

/-- Count ring rows once each as oversped, mark their slots, and mark their pages defective. -/
def markOversped (q : Nat) (s : State) : State :=
  let s := match pageOfRow s q with | some p => markDefective p.id s | none => s
  if s.fire.oversped.contains q then s
  else { s.count FIRE_OVERSPED_ROWS.COUNT with fire := { s.fire with oversped := s.fire.oversped ++ [q] } }

/-- What becomes of the rows due at a fire. -/
structure Verdict where
  /-- HALT applies to the whole fire. -/
  halt : Bool
  /-- The rows that the fire carries by slot group. -/
  carried : List (Nat × List Nat)
  /-- The rows that fall due, those that SKIP discards included. -/
  due : List (Nat × List Nat)
  /-- The first oversped slot group: its page, its number and its rows due. -/
  first : Option (Nat × Nat × Nat)
  /-- The rows of the oversped slot groups. -/
  excess : List Nat
  deriving DecidableEq, Repr

/-- Apply the policies (Table 11.4). A slot group that the nozzle engine cannot serve in time (R95) takes the same path: HALT stops the bar, SKIP discards its rows, and MERGE leaves them due with their successors. -/
def judgeFire (s : State) (unserved : List Nat) (due : List (Nat × List Nat)) : Verdict :=
  let excess := due.filter fun e => 1 < e.2.length || unserved.contains e.1
  let halt := excess.any fun e => e.2.any fun q => rowPolicy s q = 2
  let policy (e : Nat × List Nat) : Nat := rowPolicy s (e.2.headD 0)
  let late (e : Nat × List Nat) : Bool := unserved.contains e.1
  let stays := due.filter fun e => !(late e && policy e = 0)
  let carry := stays.filterMap fun e =>
    if late e then none else if 1 < e.2.length ∧ policy e = 1 then some (e.1, e.2.take 1) else some e
  { halt := halt
    carried := if halt then [] else carry
    due := if halt then [] else stays
    first := excess.head?.map fun e => (((pageOfRow s (e.2.headD 0)).map Page.id).getD 0xFFFF, e.1, e.2.length)
    excess := sortRows ((excess.map Prod.snd).flatten) }

/-! ### Fire packets (R352 to R356) -/

/-- The rows that slot i of head h carries. -/
def slotRows (carried : List (Nat × List Nat)) (h i : Nat) : List Nat := mapGet [] carried (4 * h + i)

/-- The codes of a head: per nozzle the highest among the rows carried; 0 for a slot that carries none. -/
def packetCodes (s : State) (carried : List (Nat × List Nat)) (h : Nat) : List Nat :=
  (List.range 2048).map fun i => (slotRows carried h (i / 512)).foldl (fun m q => max m (lineCode s q h i)) 0

/-- The packet of head h with the state at the decision. -/
def firePacket (s : State) (carried : List (Nat × List Nat)) (h : Nat) : FirePacket :=
  let due (i : Nat) : Bool := !(slotRows carried h i).isEmpty
  let mode := s.get HL_WF_CFG.WHEY_MODE h
  let whey (i : Nat) : Bool := ((mode = 1 || mode = 2) && !due i) || (mode = 2 && due i)
  let mask (f : Nat → Bool) : Nat := b2n (f 0) + 2 * b2n (f 1) + 4 * b2n (f 2) + 8 * b2n (f 3)
  { head := h, due := mask due, whey := mask whey, wsel := s.get HL_WF_STATE.LIVE h, tsel := s.get HL_WF_STATE.TSEL h
    tap := s.get HL_FIRE_DELAY.TAP h, codes := packetCodes s carried h }

/-! ### The decision -/

/-- The travel w of a fire and its warning (R335). -/
def travel (p0 p1 : Int) (s : State) : State :=
  let rev : Bool := match printing s with | p :: _ => p.reverse | [] => s.is POS_STATUS.DIR (printChan s)
  let w := if rev then p0 - p1 else p1 - p0
  let s := (s.putS FIRE_TRAVEL.W w).putS FIRE_POS.P p0
  let warn := s.get FIRE_CFG.WARN
  if s.is FIRE_STATUS.OVER_WARN then
    if warn = 0 ∨ w < ((warn : Int) - 8) * 256 then s.put FIRE_STATUS.OVER_WARN 0 else s
  else if warn ≠ 0 ∧ (warn : Int) * 256 ≤ w then
    raise FIRE_OVERSPEED_WARN (wrap 24 w) (s.put FIRE_STATUS.OVER_WARN 1)
  else s

/-- Advance the pointers of the slot groups past the rows that fell due. -/
def advance (due : List (Nat × List Nat)) (m : List (Nat × Nat)) : List (Nat × Nat) :=
  due.foldl (fun m e => mapPut e.1 (e.2.getLast?.getD 0 + 1) m) m

/-- A print position is to be had (R337). -/
def placed (s : State) : Bool := s.pos.last.valid && nowI s - s.pos.last.t ≤ 10000

/-- Put a decision on the queue of fires, with its record. -/
def putDecided (k : Nat) (p0 : Int) (v : Verdict) (s : State) : State :=
  let t := (gridTime s k).toNat
  let packets := (liveHeads s).map (firePacket s v.carried)
  let d : Decided := { k := k, t := t, due := v.due, carried := v.carried, oversped := v.first, packets := packets }
  let past : Past := { k := k, t := t, p0 := p0, due := v.due }
  { s with fire := { s.fire with
    next := k + 1, decided := s.fire.decided ++ [d], history := (past :: s.fire.history).take 1024
    decidedTo := advance v.due s.fire.decidedTo } }

/-- The slot groups that the nozzle engine cannot serve: none while the grid is within the ceiling of the level in force (R95). -/
def lateGroups (s : State) (unserved : List Nat) : List Nat :=
  if withinCeiling (gridPeriod s) (s.get SYS_PL.IN_FORCE) (tblN s (liveBase s)) then [] else unserved

/-- The decision of a fire for which there is no print position (R337): it carries no row and is the last. -/
def decideLost (k : Nat) (s : State) : State :=
  fireStop 3 (putDecided k 0 { halt := false, carried := [], due := [], first := none, excess := [] } s)

/-- The decision of a fire at a known print position (R329). -/
def decidePlaced (k : Nat) (unserved : List Nat) (s : State) : State :=
  let p0 := landing s (gridTime s k)
  let p1 := landing s (gridTime s (k + 1))
  let s := travel p0 p1 s
  let due := dueAll s (p0 + tdiv (p1 - p0) 2)
  let s := fetchDue due s
  let v := judgeFire s (lateGroups s unserved) due
  let s := putDecided k p0 v (each markOversped v.excess s)
  let s := onlyIf (!due.isEmpty) (fun s => s.put FIRE_STATUS.STALLED 0) s
  let s := onlyIf (s.is FIRE_STATUS.AGAINST && !due.isEmpty) (fun s => s.put FIRE_STATUS.AGAINST 0) s
  if v.halt then fireStop 2 s else s

/-- R483: a waiting PAIR_SWAP releases at the first decision at which no started page has unfired rows. -/
def swapRelease (s : State) : State :=
  if s.is PAIR_STATUS.SWAP_WAIT ∧ ¬(printing s).any (pageUnfired s) then giveUp 2 s else s

/-- FIRE_DECISION: d_k of the next fire. -/
def fireDecide (unserved : List Nat) (s : State) : State :=
  if armed s ∧ s.fire.stop = none then
    let s := nhaReadBack s
    let s := startPages s.fire.next (placed s) s
    let k := s.fire.next
    let s := wfTakeEffect k (nmapTakeEffect s)
    swapRelease (noteState (if placed s then decidePlaced k unserved s else decideLost k s))
  else s

/-! ### The fire packet on the link (R374 to R376) -/

/-- One bit into the CRC-16/CCITT register. -/
def crc16Bit (c : Nat) (b : Bool) : Nat :=
  if bit c 15 ≠ b then (c * 2 % 65536) ^^^ 0x1021 else c * 2 % 65536

/-- The n bits of a number into the register, most significant first. -/
def crc16Bits : Nat → Nat → Nat → Nat
  | 0, _, c => c
  | n + 1, v, c => crc16Bits n v (crc16Bit c (bit v n))

/-- The 36 header bits that HCRC covers: FSEQ, KIND, DUE, WHEY, WSEL, TSEL, TAP. -/
def headerBits (k kind : Nat) (p : FirePacket) : Nat :=
  k % 65536 * 2 ^ 20 + kind * 2 ^ 18 + p.due * 2 ^ 14 + p.whey * 2 ^ 10 + p.wsel * 2 ^ 9 + p.tsel * 2 ^ 8 + p.tap

/-- HCRC (Table 12.4). -/
def hcrc (k kind : Nat) (p : FirePacket) : Nat :=
  p.codes.foldl (fun c v => crc16Bits 3 v c) (crc16Bits 36 (headerBits k kind p) 0xFFFF)

/-- The codes as one number, nozzle 0 in the highest three bits. -/
def codeField (codes : List Nat) : Nat := codes.foldl (fun v c => v * 8 + c % 8) 0

/-- The 98 blocks of a fire packet (R374). -/
def packetBlocks (k kind : Nat) (p : FirePacket) : List Nat :=
  let h := headerBits k kind p * 2 ^ 84 + hcrc k kind p
  let f := codeField p.codes
  [h / 2 ^ 64, h % 2 ^ 64] ++ (List.range 96).map fun j => f / 2 ^ (6080 - 64 * j) % 2 ^ 64

/-- The MARK of a fire (R376): how long before t_k it leaves is a free value, in 1/4 ns. -/
def markBlock (h k : Nat) (s : State) : Nat × State :=
  let (lead, s) := s.draw 16
  let dly := wrap 16 ((4 * (lead : Int) - s.get HL_DELAY.DELAY h + 2) / 4)
  (beVal (beBytes 1 0x2D ++ beBytes 2 k ++ beBytes 2 dly ++ zeros 3), s)

/-- Send a packet and its MARK, which the head is to acknowledge. -/
def sendPacket (k kind : Nat) (rows : List Nat) (p : FirePacket) (s : State) : State :=
  let (mark, s) := markBlock p.head k s
  let s := s.emit (.head p.head (packetBlocks k kind p ++ [mark]))
  { s with
    fire := { s.fire with unacked := s.fire.unacked ++ [(p.head, k, rows)] }
    pair := { s.pair with lastSel := (s.pair.lastSel.filter fun e => e.1 ≠ p.head) ++ [(p.head, p.wsel, p.tsel, p.tap)] } }

/-- The ring rows that a head's packet carries. -/
def headRows (carried : List (Nat × List Nat)) (h : Nat) : List Nat :=
  sortRows (([0, 1, 2, 3].map (slotRows carried h)).flatten)

/-! ### Takeover (R481, R482) -/

/-- The fires that a new owner treats as lost before t_k1. -/
def lostFires (s : State) (released hold t1 : Nat) : List Past :=
  s.fire.history.filter fun e => ((released : Int) - 600 - 10000 * hold) * 2 ^ 24 ≤ e.t && e.t < t1

/-- A row due to a slot group at a lost fire. -/
def loseRow (q : Nat) (s : State) : State :=
  each (fun h s => markNotFired h [q] s) allHeads (s.count PAIR_LOST_ROWS.COUNT)

/-- PAIR_TAKEOVER with the first fire carried (R482). -/
def takeoverFire (t1 : Nat) (s : State) : State :=
  match s.fire.takeover with
  | none => s
  | some (released, hold, auto_) =>
    let lost := lostFires s released hold t1
    let s := each (fun e s => each loseRow ((e.due.map Prod.snd).flatten) s) lost s
    let s := { s with fire := { s.fire with takeover := none } }
    raise PAIR_TAKEOVER (min 65535 lost.length + 65536 * b2n auto_ + 131072) (s.put PAIR_LAST_GAP.FIRES (min 65535 lost.length))

/-- A fire at t leaves: a device with links in HOLD sends nothing, and after HOLD a packet must start after the IDLE blocks and leave its last block by t_k - 900 ns (Table 17.5). -/
def fireLeaves (s : State) (t : Nat) : Bool :=
  s.fire.takeover.isNone || ((s.fire.idleEnd + 2517) * 2 ^ 24 ≤ t && (liveHeads s).any fun h => hlState s h = 6)

/-! ### The fire (R315, R327) -/

/-- Pages of which a fire carries the first row. -/
def pageBegins (carried : List (Nat × List Nat)) (s : State) : State :=
  each (fun p s =>
    if ¬p.begun ∧ (carried.any fun e => e.2.any fun q => p.base ≤ q && q < p.base + p.rows) then
      raise FIRE_PAGE_START (p.id + 65536 * b2n p.late + 131072 * b2n p.early + 262144 * b2n p.rebase + 524288 * b2n p.reverse)
        (mapPage p.id (fun p => { p with begun := true }) s)
    else s) (printing s) s

/-- Pages whose last unfired row the fire carried end (R327). -/
def pageEnds (s : State) : State :=
  each (fun p s => if pageUnfired s p then s else endPage p.id (raisePageEnd p false s)) (printing s) s

/-- Fetched rows that every slot group has fired are dropped from the line buffers. -/
def dropLines (s : State) : State :=
  { s with fire := { s.fire with lines := s.fire.lines.filter fun e => firedBelow s ≤ e.1 } }

/-- R339: with AT_END, the bar stops when every started page has ended. -/
def endStop (s : State) : State := if s.fire.atEnd ∧ (printing s).isEmpty then fireStop 1 s else s

/-- The oldest decided fire takes place. -/
def fireGo (d : Decided) (s : State) : State :=
  let s := s.put FIRE_NUM.K d.k
  let s := if fireLeaves s d.t then
      let s := each (fun p s => if hlState s p.head = 6 then sendPacket d.k 0 (headRows d.carried p.head) p s else s) d.packets s
      takeoverFire d.t s
    else s
  let s := pageBegins d.carried s
  let s := match d.oversped with
    | some (id, g, n) => raiseAt FIRE_OVERSPED_ROW (id + 65536 * g + 2 ^ 24 * min 255 n) (d.t / 2 ^ 24) s
    | none => s
  let s := { s with fire := { s.fire with firedTo := advance d.due s.fire.firedTo } }
  endStop (dropLines (pageEnds s))

/-- An override packet of the Hoop (R486): WHEY_ONLY or SILENT, with the selections last in force. -/
def overridePacket (s : State) (h : Nat) : FirePacket :=
  let (w, t, tap) := match s.pair.lastSel.find? fun e => e.1 = h with
    | some e => e.2
    | none => (s.get HL_WF_STATE.LIVE h, s.get HL_WF_STATE.TSEL h, s.get HL_FIRE_DELAY.TAP h)
  { head := h, due := 0, whey := 0, wsel := w, tsel := t, tap := tap, codes := List.replicate 2048 0 }

/-- A fire of override packets, while this device holds the claim. -/
def overrideGo (s : State) : State :=
  if s.is HOOP_STATUS.OVERRIDE ∧ claimed s then
    let k := s.pair.overrideNext
    let kind := if s.is HOOP_CFG.STOP_KIND then 2 else 1
    let s := { s.put FIRE_NUM.K k with pair := { s.pair with overrideNext := k + 1 } }
    each (fun h s => if hlState s h = 4 ∨ hlState s h = 6 then sendPacket k kind [] (overridePacket s h) s else s) (liveHeads s) s
  else s

/-- FIRE_INSTANT: t_k of the oldest fire decided, or of an override packet. -/
def fireInstant (s : State) : State :=
  match s.fire.decided with
  | d :: ds => fireGo d { s with fire := { s.fire with decided := ds } }
  | [] => overrideGo s

/-- FIRE_STALL (R336): no row has fallen due for STALL ms while a page with unfired rows prints. -/
def fireStall (s : State) : State :=
  match printing s with
  | p :: _ =>
    if armed s ∧ ¬s.is FIRE_STATUS.STALLED ∧ (printing s).any (pageUnfired s) then
      raise EV_FIRE_STALL p.id (s.put FIRE_STATUS.STALLED 1)
    else s
  | [] => s

/-- FIRE_DECISION (R317, R329). -/
def execFireDecision (unserved : List (Fin 256)) (s : State) : Host.Outcome State Fault Refusal :=
  .next (fireDecide (unserved.map fun g => g.val) s)

/-- FIRE_INSTANT (R315). -/
def execFireInstant (s : State) : Host.Outcome State Fault Refusal := .next (fireInstant s)

/-- FIRE_STALL (R336). -/
def execFireStall (s : State) : Host.Outcome State Fault Refusal := .next (fireStall s)

end Sys2Proof.Machine
end

