-- ==== Sys2Proof/Machine/Pair.lean ====
section
/-! DEFINITION. The redundant pair: the peer's claim, guard and conflict, PAIR_SYNC cells, the standby's step, and handing over (R470 to R483). -/

namespace Sys2Proof.Machine

/-! ### STATE cells (R474, R478) -/

/-- WF_CRC (R478). -/
def wfCrc (s : State) : Nat :=
  crc32c (((liveHeads s).map fun h => ((List.range 32).map fun j => leBytes 4 (s.get HL_WF.WORD h (32 * wfLive s h + j))).flatten).flatten)

/-- Bytes 4 to 37 as they are to be sent or compared: those of the last decision while armed. -/
def stateNow (s : State) : List Byte :=
  let b := if armed s ∧ s.pair.body ≠ [] then s.pair.body else stateBody s
  b.take 12 ++ beBytes 4 (wfCrc s) ++ b.drop 16

/-- The STATE payload (Table 17.3). -/
def statePayload (s : State) : List Byte :=
  beBytes 1 1
    ++ beBytes 1 (role s + 8 * b2n (armed s) + 16 * s.get PAIR_STATUS.IN_STEP + 32 * b2n s.pair.reqBank + 64 * b2n (claimed s))
    ++ beBytes 1 (s.get HOOP_CFG.HOLD) ++ zeros 1 ++ stateNow s ++ zeros 10

/-- HB_LOSS in ns. -/
def hbLoss (s : State) : Nat := max 1 (s.get PAIR_TIMING.HB_LOSS) * 10000

/-- A STATE has arrived within HB_LOSS. -/
def heardLately (s : State) : Bool := match s.pair.heard with | some t => s.time.raw ≤ t + hbLoss s | none => false

/-- The decision among the last 16 whose instant the peer's STATE gives. -/
def sameFire (s : State) (b : List Byte) : Option Past :=
  (s.fire.history.take 16).find? fun e => e.t / 2 ^ 24 % 2 ^ 48 = beAt b 20 6 && e.t % 2 ^ 24 = beAt b 26 3

/-- The out-of-step conditions of a standby (Table 17.4). With no STATE to compare, only HB and HEADS are judged. -/
def oosNow (s : State) : Nat :=
  let b := s.pair.peer
  let mine := zeros 4 ++ stateNow s
  let differs (off n : Nat) : Bool := beAt b off n ≠ beAt mine off n
  let known := b ≠ []
  let grid : Bool := known && armed s && (sameFire s b).isNone
  let pos : Bool := known && match sameFire s b with
    | some e => s.get PAIR_TIMING.POS_TOL < (sext 64 (beAt b 30 8) - e.p0).natAbs
    | none => false
  let heads : Bool := (liveHeads s).any (fun h => hlState s h ≠ 7 || !s.is HL_STATUS.ID_OK h) || posState s (printChan s) ≠ 1
  b2n (!heardLately s) + 2 * b2n (known && (differs 4 1 || differs 5 1)) + 4 * b2n (known && (differs 8 4 || differs 12 4))
    + 8 * b2n (known && differs 16 4)
    + 16 * b2n (known && (bit (beAt b 1 1) 3 ≠ armed s || differs 6 2 || differs 29 1))
    + 32 * b2n grid + 64 * b2n (pos && armed s) + 128 * b2n heads

/-- IN_STEP is evaluated (R475). -/
def evalStep (s : State) : State :=
  if isStandby s then
    let was := s.is PAIR_STATUS.IN_STEP
    let old := s.get PAIR_STATUS.OOS
    let now := oosNow s
    let s := (s.put PAIR_STATUS.OOS now).putB PAIR_STATUS.IN_STEP (now = 0)
    if now = 0 ∧ ¬was then raise PAIR_RESYNC_DONE old s else s
  else s

/-- PAIR_HB_SEND. -/
def hbSend (s : State) : State :=
  evalStep (if s.on 1 ∧ hasPeer s then fabOriginate 8 (s.get PAIR_PEER.NODE) (statePayload s) s else s)

/-- PAIR_HB_LOSS (R475, R480). -/
def hbLost (s : State) : State :=
  let s := evalStep (s.put PAIR_STATUS.PEER_IN_STEP 0)
  if (role s = 1 ∨ role s = 3) ∧ ¬s.pair.lost ∧ s.on 1 then
    raise PAIR_PEER_LOST (2 + 256 * s.pair.oosAt) { s with pair := { s.pair with lost := true } }
  else s

/-! ### PAIR_SYNC cells (R473, R477, R479) -/

/-- A STATE arrives. -/
def rxState (b : List Byte) (s : State) : State :=
  let s := { s with pair := { s.pair with heard := some s.time.raw, peer := b, lost := false } }
  let s := evalStep s
  let s := { s with pair := { s.pair with oosAt := s.get PAIR_STATUS.OOS, stepAt := isStandby s && s.is PAIR_STATUS.IN_STEP } }
  let s := s.put PAIR_STATUS.PEER_IN_STEP (if role s = 3 then bits (beAt b 1 1) 4 4 else 0)
  if bit (beAt b 1 1) 5 then sendBank s else s

/-- A SEGMENT arrives: a standby takes the owner's stream as one raster source. -/
def rxSegment (gap : Bool) (seg : List Byte) (s : State) : State :=
  if isStandby s then rasterItem 4096 (some seg) (onlyIf gap (rasterItem 4096 none) s) else s

/-- A bank transfer ends without success. -/
def bankFails (s : State) : State :=
  let s := onlyIf s.pair.bankIn.isSome (fun s => s.put NMAP_STATUS.SPARE 0) s
  { s with pair := { s.pair with bankIn := none, reqBank := true } }

/-- The last byte of a bank has landed. -/
def bankDone (s : State) : State :=
  if s.le (spareBase s + 0x1C) 4 = bankCrc s (spareBase s) then
    { s.put NMAP_STATUS.SPARE 3 with
      nmap := { s.nmap with internal := true }, pair := { s.pair with bankIn := none, reqBank := false } }
  else bankFails s

/-- A BANK cell arrives at a standby with TABLE_SYNC (R479): the next one of the transfer in progress, or the first of one. -/
def rxBank (gap : Bool) (b : List Byte) (s : State) : State :=
  if isStandby s ∧ s.is PAIR_CTL.TABLE_SYNC then
    let off := beAt b 4 4
    let data := b.drop 8
    let s := onlyIf gap (fun s => if s.pair.bankIn.isSome then bankFails s else s) s
    let s := if off = 0 ∧ spare s = 0 then { s.put NMAP_STATUS.SPARE 2 with pair := { s.pair with bankIn := some 0 } } else s
    match s.pair.bankIn with
    | none => { s with pair := { s.pair with reqBank := true } }
    | some n =>
      if off = n ∧ off + data.length ≤ 0x100000 then
        let s := s.setBytes (spareBase s + off) data
        let s := { s with pair := { s.pair with bankIn := some (n + data.length) } }
        if n + data.length = 0x100000 then bankDone s else s
      else bankFails s
  else s

/-- A PAIR_SYNC cell arrives for this node (R473). -/
def pairSync (src seq : Nat) (b : List Byte) (s : State) : State :=
  let kind := beAt b 0 1
  if src ≠ s.get PAIR_PEER.NODE ∨ kind = 0 ∨ 3 < kind then s.count PAIR_SYNC_ERR.COUNT
  else
    let gap : Bool := match s.pair.seq with | some e => e ≠ seq | none => false
    let s := { s with pair := { s.pair with seq := some ((seq + 1) % 65536) } }
    if kind = 1 then rxState b s else if kind = 2 then rxSegment gap (b.drop 4) s else rxBank gap b s

/-- PAIR_SYNC_RX: a whole cell. -/
def pairSyncRx (cell : List Byte) (s : State) : State :=
  if s.on 1 then pairSync (beAt cell 2 2 % 1024) (beAt cell 6 2) (cell.drop 8) s else s

/-! ### Claims (R470, R472, R480, R481) -/

/-- The guard has passed: the device claims the bar. -/
def guardPass (s : State) : State :=
  if role s = 2 ∧ ¬s.pair.peerLow then
    let s := (setRole 3 s).put PAIR_STATUS.OWN_CLAIM 1
    let s := (s.count PAIR_TAKEOVERS.COUNT).put PAIR_LAST_TAKE.T s.now
    let s := pairEntry 3 0 s
    if armed s then
      { s with fire := { s.fire with
        standby := false, takeover := some (s.pair.releasedAt, beAt s.pair.peer 2 1, s.pair.guardAuto) } }
    else raise PAIR_TAKEOVER (65536 * b2n s.pair.guardAuto) (s.put PAIR_LAST_GAP.FIRES 0)
  else s

/-- Both claims are asserted (R472). -/
def conflict (s : State) : State :=
  if s.is PAIR_CTL.MEMBER then giveUp 3 (raise PAIR_CONFLICT 1 s) else raise PAIR_CONFLICT 0 s

/-- PAIR_CONFLICT_TIMEOUT: member 0 still sees the peer's claim. -/
def conflictTimeout (s : State) : State :=
  if role s = 3 ∧ s.pair.peerLow ∧ ¬s.is PAIR_CTL.MEMBER then giveUp 3 (raise PAIR_CONFLICT 3 s) else s

/-- OWN_PEER_N is asserted. -/
def peerAsserted (s : State) : State :=
  if role s = 2 then raise PAIR_CONFLICT 4 (setRole s.pair.guardFrom s)
  else if role s = 3 then conflict s
  else s

/-- OWN_PEER_N is released: a standby may begin a takeover (R480). -/
def peerReleased (s : State) : State :=
  let s := { s with pair := { s.pair with releasedAt := s.now } }
  if role s = 1 then
    let go : Bool := s.is PAIR_CTL.AUTO && s.is PAIR_STATUS.WATCH && heardLately s && s.pair.stepAt
    let s := raise PAIR_PEER_LOST (1 + 4 * b2n go + 256 * s.pair.oosAt) (s.put PAIR_STATUS.WATCH 0)
    if go then setRole 2 { s with pair := { s.pair with guardFrom := 1, guardAuto := true } } else s
  else s

/-- OWN_PEER_N_CHANGE: the filtered level of the pin. -/
def peerChange (low : Bool) (s : State) : State :=
  if low = s.pair.peerLow then s
  else
    let s := { s with pair := { s.pair with peerLow := low } }
    if s.on 1 then
      let s := s.putB PAIR_STATUS.PEER_CLAIM low
      if low then peerAsserted s else peerReleased s
    else s

/-- PAIR_WATCH_START: the claim has stood for 1 ms. -/
def watchStart (s : State) : State := if role s = 1 ∧ s.pair.peerLow then s.put PAIR_STATUS.WATCH 1 else s

/-! ### PAIR_SWAP (R483) -/

/-- PAIR_SWAP at step 10. -/
def swapOk (ps : List Byte) : Bool := ps.length = 4 && beAt ps 0 4 < 4

/-- PAIR_SWAP at step 13. -/
def pairSwap (ps : List Byte) (s : State) : Res :=
  let f := beAt ps 0 4
  if role s ≠ 3 then no stNotOwner s
  else if s.is PAIR_STATUS.SWAP_WAIT ∨ (¬s.is PAIR_STATUS.PEER_IN_STEP ∧ ¬bit f 1) then no stBusy s
  else if bit f 0 ∨ ¬armed s then ok (giveUp 2 s)
  else ok (s.put PAIR_STATUS.SWAP_WAIT 1)

/-! ### The commands of chapter 17 -/

/-- PAIR_GUARD_PASS (R468, R481). -/
def execPairGuardPass (s : State) : Host.Outcome State Fault Refusal := .next (guardPass s)

/-- OWN_PEER_N_CHANGE (R470, R472, R480). -/
def execOwnPeerNChange (low : Bool) (s : State) : Host.Outcome State Fault Refusal := .next (peerChange low s)

/-- PAIR_WATCH_START (R480). -/
def execPairWatchStart (s : State) : Host.Outcome State Fault Refusal := .next (watchStart s)

/-- PAIR_CONFLICT_TIMEOUT (R472). -/
def execPairConflictTimeout (s : State) : Host.Outcome State Fault Refusal := .next (conflictTimeout s)

/-- PAIR_HB_SEND (R474, R475). -/
def execPairHbSend (s : State) : Host.Outcome State Fault Refusal := .next (hbSend s)

/-- PAIR_HB_LOSS (R475, R480). -/
def execPairHbLoss (s : State) : Host.Outcome State Fault Refusal := .next (hbLost s)

/-- PAIR_SYNC_RX (R473). -/
def execPairSyncRx (cell : List Byte) (s : State) : Host.Outcome State Fault Refusal := .next (pairSyncRx cell s)

end Sys2Proof.Machine
end

