-- ==== Sys2Proof/Machine/Dram.lean ====
section
/-! DEFINITION. The DRAM controllers: capacity, training and retraining, in-line ECC and the address decode (R232 to R246). -/

namespace Sys2Proof.Machine

/-- The DRAM window's first address. -/
def dramBase : Nat := 0x1000000000

/-- DRAM_STATUS.STATE of a controller (Table 8.4): 0 OFF, 1 TRAINING, 2 TRAINED, 3 SELF_REFRESH, 4 FAILED. -/
def dramState (s : State) (m : Nat) : Nat := s.get DRAM_STATUS.STATE m

/-- C in MiB (R234): twice the capacity of one controller, once both have completed training since EN was last written 1. -/
def dramInstalled (s : State) : Nat :=
  if s.dram.ready = 3 then 2 * 2048 * 2 ^ (mapGet (0, 0) s.dram.fit 0).1 else 0

/-- Show U (R234). -/
def dramShow (s : State) : State :=
  let c := dramInstalled s
  s.put DRAM_USABLE.MIB (if s.is DRAM_MEM_CFG.ECC_EN then c * 15 / 16 else c)

/-- Note whether a controller has completed training since EN was last written 1. -/
def dramReady (m : Nat) (b : Bool) (s : State) : State :=
  dramShow { s with dram := { s.dram with ready := insertBits s.dram.ready m 1 (b2n b) } }

/-- Training starts: from OFF, for a retrain, or for a wake (R240). -/
def dramTrain (m : Nat) (s : State) : State := (s.put DRAM_STATUS.STATE 1 m).put DRAM_STATUS.DUE 0 m

/-- The reading of the sensor nearest a controller, in 1/16 degree (R242). -/
def dramTemp (s : State) (m : Nat) : Int := s.pow.temps.getD (Config.dramSensor m % 8) 0

/-- A DMA channel has EN 1. -/
def dmaAnyOn (s : State) : Bool := (List.range 32).any fun c => s.is DMA_CTL.EN c

/-- A training run ends in failure (R240, R241). -/
def dramFail (m channels phase : Nat) (s : State) : State :=
  let s := ((s.put DRAM_STATUS.STATE 4 m).put DRAM_STATUS.FAIL_CH channels m).put DRAM_STATUS.FAIL_PHASE phase m
  raise DRAM_TRAIN_FAIL (m + 16 * channels + 256 * phase) (dramReady m false s)

/-- R233: the other controller has completed training with another density or rank count. -/
def dramDiffers (s : State) (m : Nat) (fit : Nat × Nat) : Bool :=
  bit s.dram.ready (1 - m) && mapGet (0, 0) s.dram.fit (1 - m) ≠ fit

/-- A training run ends in success: the sensor is recorded and the devices' fit is shown (R233, R240, R242). -/
def dramTrained (m density ranks : Nat) (s : State) : State :=
  if dramDiffers s m (density, ranks) then dramFail m 0xF 1 s
  else
    let s := ((s.put DRAM_STATUS.STATE 2 m).put DRAM_STATUS.DENSITY density m).put DRAM_STATUS.RANKS ranks m
    let s := s.putS DRAM_STATUS.TRAIN_TEMP (asr (dramTemp s m) 4) m
    dramReady m true { s with dram := { s.dram with fit := mapPut m (density, ranks) s.dram.fit } }

/-- DRAM_TRAINING_END (R241): only a controller in TRAINING ends a run. -/
def dramTrainingEnd (m : Nat) (o : TrainOutcome) (s : State) : State :=
  if dramState s m = 1 then
    match o with
    | .trained d two => dramTrained m d.toNat (if two then 2 else 1) s
    | .failed ch ph => dramFail m ch.toNat ph.toNat s
  else s

/-- A retrain falls due (R242): it is deferred while armed, and starts at once otherwise. -/
def dramDue (m : Nat) (s : State) : State :=
  let s := raise DRAM_TEMP (m + 256 * b2n (armed s)) s
  if armed s then s.put DRAM_STATUS.DUE 1 m else dramTrain m s

/-- DRAM_TEMP_CHECK (R242): the sensor differs from the recorded value by more than 10 degrees, for the first time. -/
def dramTempCheck (m : Nat) (s : State) : State :=
  let d := dramTemp s m - 16 * s.getS DRAM_STATUS.TRAIN_TEMP m
  if dramState s m = 2 ∧ ¬s.is DRAM_STATUS.DUE m ∧ 160 < d.natAbs then dramDue m s else s

/-- DRAM_MR4_CHANGE (R232, R242): the refresh rate follows the devices' field. -/
def dramMr4 (m rate : Nat) (s : State) : State :=
  if dramState s m = 2 ∧ mapGet 0 s.dram.rates m ≠ rate then
    raise DRAM_TEMP (m + 512) { s with dram := { s.dram with rates := mapSet 0 m rate s.dram.rates } }
  else s

/-- A write of EN (R240): 1 starts training from OFF, 0 stops the controller with its devices in self-refresh. -/
def dramEnable (m : Nat) (en : Bool) (s : State) : State :=
  let was := s.is DRAM_CTL.EN m
  let s := s.putB DRAM_CTL.EN en m
  if en then (if was then s else dramReady m false (dramTrain m s))
  else dramReady m false ((s.put DRAM_STATUS.STATE 0 m).put DRAM_STATUS.DUE 0 m)

/-- A write of DRAM_CTL (R240, R242): the status and the state. -/
def dramCtlWrite (m value : Nat) (s : State) : Nat × State :=
  if bit value 1 then
    if armed s ∨ dramState s m ≠ 2 then (stBusy, s)
    else (stOk, let t := dramDue m s; if bit value 0 = s.is DRAM_CTL.EN m then t else dramEnable m (bit value 0) t)
  else (stOk, if bit value 0 = s.is DRAM_CTL.EN m then s else dramEnable m (bit value 0) s)

/-- What is stored in the DRAM window below an offset is forgotten. -/
def dramForget (lo hi : Nat) (s : State) : State := s.forget (dramBase + lo) (dramBase + hi)

/-- A change of ECC_EN (R244): setting it writes 0 to every usable byte, clearing it leaves the released top sixteenth undefined. -/
def eccSwitch (en : Bool) (s : State) : State :=
  let c := dramInstalled s * 2 ^ 20
  let s := dramShow (s.putB DRAM_MEM_CFG.ECC_EN en)
  if en then
    let s := { s with cmd := { s.cmd with ecc := s.cmd.ecc.filter fun e => !isDram e.1 } }
    (dramForget 0 c s).put DRAM_MEM_CFG.ECC_INIT 1
  else dramForget (c / 16 * 15) c s

/-- R244: a change of ECC_EN is refused. -/
def eccLocked (s : State) : Bool :=
  dramState s 0 ≠ 2 || dramState s 1 ≠ 2 || s.is FIRE_ING_JOB.OPEN || dmaAnyOn s || s.is DRAM_MEM_CFG.ECC_INIT

/-- A write of DRAM_MEM_CFG (R243, R244). -/
def memCfgWrite (value : Nat) (s : State) : Nat × State :=
  let t := s.put DRAM_MEM_CFG.PASR_KEEP (value / 256)
  if bit value 0 = s.is DRAM_MEM_CFG.ECC_EN then (stOk, t)
  else if eccLocked s then (stBusy, s)
  else (stOk, eccSwitch (bit value 0) t)

/-- The bits of A that the seven select bits have as their home (Table 8.2). -/
def homeBits : List Nat := [6, 7, 8, 14, 15, 16, 17]

/-- R237: a mask has its own home bit and no other. -/
def maskOk (x mask : Nat) : Bool :=
  homeBits.all fun b => bit mask (b - 6) = (homeBits.getD x 0 = b)

/-- The seven select bits of an offset, under masks (R236). -/
def selects (masks : Nat → Nat) (a : Nat) : List Nat := (List.range 7).map fun x => parity 29 (a / 64 &&& masks x)

/-- The offset at which the new masks find what the old masks put at an offset: the other bits are taken directly, and each home bit is solved from its select bit (R236, R237). -/
def remapOffset (old new : Nat → Nat) (a : Nat) : Nat :=
  (List.range 7).foldl (fun v x =>
    let b := homeBits.getD x 0
    let rest := insertBits (a / 64 &&& new x) (b - 6) 1 0
    insertBits v b 1 ((selects old a).getD x 0 + parity 29 rest)) a

/-- Move every stored byte to its new address after a change of the map. -/
def remapCells (old new : Nat → Nat) (s : State) : State :=
  let place (a : Nat) : Nat := if isDram a then dramBase + remapOffset old new (a - dramBase) else a
  let cells := s.mem.filter fun c => isDram c.1
  let t := { s with
    mem := s.mem.filter fun c => !isDram c.1
    cmd := { s.cmd with ecc := s.cmd.ecc.map fun e => (place e.1, e.2) } }
  each (fun c s => s.setByte (place c.1) c.2) cells t

/-- A write of DRAM_MAPx (R237). -/
def dramMapWrite (x value : Nat) (s : State) : Nat × State :=
  let mask := value % 2 ^ 29
  if !maskOk x mask then (stBadParam, s)
  else if mask = s.get DRAM_MAP.MASK x then (stOk, s)
  else if s.is FIRE_ING_JOB.OPEN ∨ dmaAnyOn s then (stBusy, s)
  else
    let t := s.put DRAM_MAP.MASK mask x
    (stOk, remapCells (fun y => s.get DRAM_MAP.MASK y) (fun y => t.get DRAM_MAP.MASK y) t)

/-! ### Domains that addresses lie in -/

/-- The domains of DRAM that a range touches (R236): PD_DRAM0 or PD_DRAM1 for each of its 64-byte blocks. -/
def dramDomains (s : State) (a n : Nat) : List Nat :=
  ((List.range ((a + n - 1) / 64 + 1 - a / 64)).map fun k => 4 + dramCtrl s ((a / 64 + k) * 64)).eraseDups

/-- The domains that hold an address range (Table 1.2): a range of registers, of the Vat, of DRAM or of the Cave. -/
def rangeDomains (s : State) (a n : Nat) : List Nat :=
  if isDram a then dramDomains s a n
  else if isVat a then [3]
  else ((List.range ((n + 3) / 4)).map fun k => regDomain (a + 4 * k)).eraseDups

/-! ### Going to sleep and waking (R240, R242) -/

/-- A controller's devices go to self-refresh with its domain. -/
def dramSleep (m : Nat) (s : State) : State := if dramState s m = 2 then s.put DRAM_STATUS.STATE 3 m else s

/-- A wake from SELF_REFRESH: trained values restored, or training afresh where a retrain is due or the image was lost. -/
def dramWake (m : Nat) (lost : Bool) (s : State) : State :=
  if dramState s m = 3 then
    if lost ∨ s.is DRAM_STATUS.DUE m then dramTrain m s else s.put DRAM_STATUS.STATE 2 m
  else s

/-- A controller loses its power or its clock: it is OFF, and what training gave is gone. -/
def dramLost (m : Nat) (s : State) : State := dramReady m false s

/-! ### The events of this chapter -/

/-- DRAM_TEMP_CHECK (R242). -/
def execDramTempCheck (ctrl : Fin 2) (s : State) : Host.Outcome State Fault Refusal := .next (dramTempCheck ctrl.val s)

/-- DRAM_WCK_TRACKING (R242): tracking holds the margins, and nothing that software can read changes. -/
def execDramWckTracking (_ctrl : Fin 2) (s : State) : Host.Outcome State Fault Refusal := .next s

/-- DRAM_MR4_CHANGE (R242). -/
def execDramMr4Change (ctrl : Fin 2) (rate : BitVec 5) (s : State) : Host.Outcome State Fault Refusal :=
  .next (dramMr4 ctrl.val rate.toNat s)

/-- DRAM_ECC_INIT_DONE (R244). -/
def execDramEccInitDone (s : State) : Host.Outcome State Fault Refusal := .next (s.put DRAM_MEM_CFG.ECC_INIT 0)

end Sys2Proof.Machine
end

