-- ==== Sys2Proof/Machine/Dma.lean ====
section
/-! DEFINITION. The DMA channels: descriptors, the shadow set, errors and the registers' rules (R247 to R253, R255, R256). What a running descriptor moves stands in DmaMove.lean. -/

namespace Sys2Proof.Machine

/-! ### Descriptors (Table 8.7) -/

/-- A descriptor as the active or the shadow set holds it. -/
structure Desc where
  /-- SRC, all 64 bits. -/
  src : Nat
  /-- DST, all 64 bits. -/
  dst : Nat
  /-- LEN. -/
  len : Nat
  /-- CFG. -/
  cfg : Nat
  /-- NEXT, all 64 bits. -/
  next : Nat
  /-- PSTRIDE. -/
  pstride : Nat
  /-- The reserved word at 0x24. -/
  rsv : Nat
  /-- REMAP, all 64 bits. -/
  remap : Nat
  deriving DecidableEq, Repr

/-- The descriptor whose word at offset 4i is w i. -/
def descOf (w : Nat → Nat) : Desc :=
  { src := w 0 + w 1 * 2 ^ 32, dst := w 2 + w 3 * 2 ^ 32, len := w 4, cfg := w 5, next := w 6 + w 7 * 2 ^ 32
    pstride := w 8, rsv := w 9, remap := w 10 + w 11 * 2 ^ 32 }

/-- The active descriptor of a channel. -/
def activeDesc (s : State) (c : Nat) : Desc := descOf fun i => s.get DMA_ACT.WORD c i

/-- The source's access width in bytes. -/
def Desc.sw (d : Desc) : Nat := 2 ^ (d.cfg % 8)

/-- The destination's access width in bytes. -/
def Desc.dw (d : Desc) : Nat := 2 ^ (d.cfg / 16 % 8)

/-- MODE (Table 8.8). -/
def Desc.mode (d : Desc) : Nat := bits d.cfg 9 8

/-- IRQ. -/
def Desc.irq (d : Desc) : Bool := bit d.cfg 16

/-- Bytes of one plane of LEN codes. -/
def Desc.plane (d : Desc) : Nat := (d.len + 7) / 8

/-- Bytes of LEN codes in the packed form (R249). -/
def Desc.packed (d : Desc) : Nat := (3 * d.len + 7) / 8

/-- Bytes from the first of plane 0 to the last of plane 2. -/
def Desc.planes (d : Desc) : Nat := 2 * d.pstride + d.plane

/-- Bytes of the source range. A remap column may be any below 8 x PSTRIDE (R249). -/
def Desc.srcLen (d : Desc) : Nat :=
  if d.mode = 0 then d.len else if d.mode = 1 then d.planes else if d.mode = 2 then d.packed else 3 * d.pstride

/-- Bytes of the destination range. -/
def Desc.dstLen (d : Desc) : Nat := if d.mode = 0 then d.len else if d.mode = 2 then d.planes else d.packed

/-- Destination bytes that the transfer writes. -/
def Desc.total (d : Desc) : Nat := if d.mode = 0 then d.len else if d.mode = 2 then 3 * d.plane else d.packed

/-- The address lies in a register block. -/
def isReg (a : Nat) : Bool := (regBlock a).isSome

/-! ### Checks (R247, R248, Table 8.9) -/

/-- Reason 0x6: a reserved field is set, or NEXT is not 64-byte aligned. tail says that bytes 0x30 to 0x3F held one. -/
def descReserved (d : Desc) (tail : Bool) : Bool :=
  tail || d.src ≥ 2 ^ 40 || d.dst ≥ 2 ^ 40 || d.next ≥ 2 ^ 40 || d.remap ≥ 2 ^ 40 || d.rsv ≠ 0
    || bit d.cfg 3 || bit d.cfg 7 || bits d.cfg 15 10 ≠ 0 || d.cfg ≥ 2 ^ 17 || d.next % 64 ≠ 0

/-- Reason 0x3: an alignment, width, length or mode rule of R248 and Tables 8.7 and 8.8. -/
def descAlign (d : Desc) : Bool :=
  d.cfg % 8 = 7 || d.cfg / 16 % 8 = 7 || d.src % d.sw ≠ 0 || d.dst % d.dw ≠ 0
    || (isReg d.src && d.sw ≠ 4) || (isReg d.dst && d.dw ≠ 4)
    || (if d.mode = 0 then d.len = 0 || d.len % max d.sw d.dw ≠ 0
      else d.sw ≠ 64 || d.dw ≠ 64 || d.src % 64 ≠ 0 || d.dst % 64 ≠ 0 || d.len = 0 || d.len > 131072
        || d.pstride % 64 ≠ 0 || d.pstride < d.plane || (d.mode = 3 && !isVat d.src))

/-- Every word of a register range is assigned (R9). -/
def regsAssigned (a n : Nat) : Bool := (List.range ((n + 3) / 4)).all fun k => (rowAt (a + 4 * k)).isSome || isCave (a + 4 * k)

/-- A range that DMA may reach: within one space of R107, usable, assigned, and not region 9 (R9, R26, R234). -/
def dmaRangeOk (s : State) (a n : Nat) : Bool :=
  oneSpace s a n && (if isDram a then dramOk s a n else if isVat a then vatRegion a ≠ 9 else regsAssigned a n)

/-- Reason 0x4. -/
def descRange (s : State) (d : Desc) : Bool :=
  !dmaRangeOk s d.src d.srcLen || !dmaRangeOk s d.dst d.dstLen || (d.mode = 3 && !dmaRangeOk s d.remap (4 * d.len))

/-- Reason 0x1: the refusal by an access table (R128). -/
def descViol (s : State) (d : Desc) : Option Viol :=
  match rangeViol s 4 0 0 0 d.src d.srcLen with
  | some v => some v
  | none => match rangeViol s 4 1 1 0 d.dst d.dstLen with
    | some v => some v
    | none => if d.mode = 3 then rangeViol s 4 0 0 0 d.remap (4 * d.len) else none

/-- Some domain of a range is in NAP or OFF (R87). -/
def rangeAsleep (s : State) (a n : Nat) : Bool := (rangeDomains s a n).any fun d => !s.on d

/-- Reason 0x2 (R87). -/
def descAsleep (s : State) (d : Desc) : Bool :=
  rangeAsleep s d.src d.srcLen || rangeAsleep s d.dst d.dstLen || (d.mode = 3 && rangeAsleep s d.remap (4 * d.len))

/-- What the checks of a new active descriptor find (R247, R248, R87, R128): a reason, with the refusal by an access table. -/
def descCheck (s : State) (d : Desc) (tail : Bool) : Option (Nat × Option Viol) :=
  if descReserved d tail then some (6, none)
  else if descAlign d then some (3, none)
  else if descRange s d then some (4, none)
  else match descViol s d with
    | some v => some (1, some v)
    | none => if descAsleep s d then some (2, none) else none

/-! ### Channels -/

/-- DMA_STATUS.STATE: 0 IDLE, 1 WAIT, 2 RUNNING, 3 ERROR, 4 STOPPING, 5 PRINT. -/
def dmaState (s : State) (c : Nat) : Nat := s.get DMA_STATUS.STATE c

/-- SHADOW: 0 EMPTY, 1 LOADING, 2 VALID. -/
def dmaShadow (s : State) (c : Nat) : Nat := s.get DMA_STATUS.SHADOW c

/-- Set SHADOW; SHADOW_VALID reads 1 while the set is VALID. -/
def setShadow (v c : Nat) (s : State) : State := (s.put DMA_STATUS.SHADOW v c).putB DMA_CTL.SHADOW_VALID (v = 2) c

/-- Set or clear the mark of a shadow set that came with a reserved tail. -/
def setTail (c : Nat) (b : Bool) (s : State) : State :=
  { s with dmaTails := if b then c :: s.dmaTails.filter (fun x => x ≠ c) else s.dmaTails.filter fun x => x ≠ c }

/-- A channel meets an error (R255). -/
def dmaError (c reason : Nat) (s : State) : State :=
  let s := setTail c false (setShadow 0 c (s.put DMA_STATUS.STATE 3 c))
  raise DMA_ERROR (c + 256 * reason) (s.put DMA_STATUS.ERR reason c)

/-- An error with its refusal by an access table, where there is one. -/
def dmaFails (c : Nat) (f : Nat × Option Viol) (s : State) : State :=
  dmaError c f.1 (match f.2 with | some v => violate v s | none => s)

/-- Copy the shadow set to the active set. -/
def copyShadow (c : Nat) (s : State) : State :=
  each (fun i s => s.put DMA_ACT.WORD (s.get DMA_SH.WORD c i) c i) (List.range 12) s

/-- Take the shadow set (R251), if EN is 1, the set VALID and no descriptor active. -/
def dmaTake (c : Nat) (s : State) : State :=
  if s.is DMA_CTL.EN c ∧ dmaShadow s c = 2 ∧ (dmaState s c = 0 ∨ dmaState s c = 1) then
    let tail := s.dmaTails.contains c
    let s := setTail c false (setShadow 0 c (copyShadow c s))
    let s := raise DMA_SHADOW_TAKEN c (s.put DMA_DONE_BYTES.BYTES 0 c)
    let d := activeDesc s c
    match descCheck s d tail with
    | some f => dmaFails c f s
    | none =>
      let s := s.put DMA_STATUS.STATE 2 c
      if d.next ≠ 0 then setShadow 1 c s else s
  else s

/-- What a descriptor fetch at NEXT meets (R251): not a usable place, no X, a domain asleep, or an uncorrectable error. -/
def fetchCheck (s : State) (a : Nat) : Option (Nat × Option Viol) :=
  if isReg a ∨ !dmaRangeOk s a 64 then some (4, none)
  else match rangeViol s 4 2 3 0 a 64 with
    | some v => some (1, some v)
    | none => if rangeAsleep s a 64 then some (2, none) else if eccBad s a 64 then some (5, none) else none

/-- DMA_DESC_FETCHED (R251): the descriptor has arrived in the shadow set, and is taken if no descriptor is active. -/
def dmaFetched (c : Nat) (s : State) : State :=
  if dmaShadow s c = 1 then
    let a := (activeDesc s c).next
    match fetchCheck s a with
    | some f => dmaFails c f (if f.1 = 5 then eccRead a 64 s else s)
    | none =>
      let s := eccRead a 64 s
      let s := each (fun i s => s.put DMA_SH.WORD (s.le (a + 4 * i) 4) c i) (List.range 12) s
      dmaTake c (setShadow 2 c (setTail c (s.le (a + 48) 16 ≠ 0) s))
  else s

/-- The active descriptor of a channel is complete (R252): DESC_COUNT advances, and the chain goes on or ends. -/
def dmaCompleted (c : Nat) (s : State) : State :=
  let d := activeDesc s c
  let s := (s.put DMA_DONE_BYTES.BYTES d.total c).count DMA_DESC_COUNT.COUNT c
  let s := s.put DMA_STATUS.STATE 1 c
  let ended : Bool := dmaShadow s c = 0
  let info := c + 256 * b2n ended + 65536 * (s.get DMA_DESC_COUNT.COUNT c % 65536)
  dmaTake c (if d.irq ∨ ended then raise DMA_DONE info s else s)

/-! ### What a transfer writes (Table 8.8, R249) -/

/-- The number of destination accesses of a transfer: modes 0, 1 and 3 write the destination in ascending order, mode 2 writes 512 codes at a time into plane 0, 1 and 2. -/
def accCount (d : Desc) : Nat :=
  if d.mode = 0 then d.len / d.dw else if d.mode = 2 then 3 * ((d.plane + 63) / 64) else (d.packed + 63) / 64

/-- Where access k writes. -/
def accDst (d : Desc) (k : Nat) : Nat :=
  if d.mode = 0 then d.dst + k * d.dw else if d.mode = 2 then d.dst + k % 3 * d.pstride + k / 3 * 64 else d.dst + 64 * k

/-- How many bytes access k writes. -/
def accLen (d : Desc) (k : Nat) : Nat :=
  if d.mode = 0 then d.dw else if d.mode = 2 then min 64 (d.plane - k / 3 * 64) else min 64 (d.packed - 64 * k)

/-- Entry j of the remap list (Table 8.8). -/
def remapEntry (rd : Nat → Byte) (d : Desc) (j : Nat) : Nat := leVal ((List.range 4).map fun i => rd (d.remap + 4 * j + i))

/-- The source column of output code j, none for ZERO. -/
def srcColumn (rd : Nat → Byte) (d : Desc) (j : Nat) : Option Nat :=
  if d.mode = 3 then (if bit (remapEntry rd d j) 31 then none else some (remapEntry rd d j % 2 ^ 17)) else some j

/-- Stream bit b of the packed form of a planar source (R249). -/
def packedBit (rd : Nat → Byte) (d : Desc) (b : Nat) : Bool :=
  b / 3 < d.len && match srcColumn rd d (b / 3) with
  | some c => bit (rd (d.src + b % 3 * d.pstride + c / 8)).toNat (c % 8)
  | none => false

/-- The bytes that access k writes. -/
def accData (rd : Nat → Byte) (d : Desc) (k : Nat) : List Byte :=
  (List.range (accLen d k)).map fun y =>
    if d.mode = 0 then rd (d.src + k * d.dw + y)
    else if d.mode = 2 then packByte fun i =>
      let j := 512 * (k / 3) + 8 * y + i
      j < d.len && bit (rd (d.src + (3 * j + k % 3) / 8)).toNat ((3 * j + k % 3) % 8)
    else packByte fun i => packedBit rd d (8 * (64 * k + y) + i)

/-- The codes that access k of modes 1 and 3 needs. -/
def accCodes (d : Desc) (k : Nat) : List Nat :=
  (List.range d.len).filter fun j => 512 * k < 3 * j + 3 ∧ 3 * j < 512 * k + 8 * accLen d k

/-- The source ranges that access k needs, remap entries first. -/
def accNeeds (rd : Nat → Byte) (d : Desc) (k : Nat) : List (Nat × Nat) :=
  if d.mode = 0 then
    if d.dw ≤ d.sw then [(d.src + k * d.dw / d.sw * d.sw, d.sw)] else [(d.src + k * d.dw, d.dw)]
  else if d.mode = 2 then [(d.src + 192 * (k / 3), min 192 (d.packed - 192 * (k / 3)))]
  else ((accCodes d k).map fun j =>
    (if d.mode = 3 then [(d.remap + 4 * j, 4)] else []) ++ match srcColumn rd d j with
      | some c => [0, 1, 2].map fun p => (d.src + p * d.pstride + c / 8, 1)
      | none => []).flatten

/-- A remap column at or beyond 8 x PSTRIDE (R249). -/
def accBeyond (rd : Nat → Byte) (d : Desc) (k : Nat) : Bool :=
  d.mode = 3 && (accCodes d k).any fun j => match srcColumn rd d j with | some c => 8 * d.pstride ≤ c | none => false

/-- A byte of the stored contents at any address. -/
def rawByte (s : State) (a : Nat) : Byte :=
  if isReg a && !isScratch a then BitVec.ofNat 8 (s.word (a / 4 * 4) / 256 ^ (a % 4)) else s.byte a

/-- Store the part of a written word that a slot shows. -/
def Slot.store (t : Slot) (w : Nat) (s : State) (i j : Nat) : State :=
  s.put t.fld (insertBits (s.get t.fld i j) t.off (t.hi + 1 - t.lo) (w / 2 ^ t.lo)) i j

/-- Store a word into the fields of a register that hold what is written. -/
def rawWord (a w : Nat) (s : State) : State :=
  match rowAt a with
  | some (r, i, j) => r.slots.foldl (fun s t => if t.acc = .rw ∨ t.acc = .rwc then t.store w s i j else s) s
  | none => s

/-- R256: each byte of a destination access may or may not have been written, in register space each word. -/
def partialAccess (a : Nat) (bs : List Byte) (s : State) : State :=
  if isReg a && !isScratch a then
    let (b, s) := s.draw 1
    if b = 1 then rawWord a (leVal bs) s else s
  else each (fun e s => let (b, s) := s.draw 1; if b = 1 then s.setByte (a + e.1) e.2 else s)
    ((List.range bs.length).zip bs) s

/-- What a stopped transfer leaves in its destination range (R256). -/
def dmaPartial (c : Nat) (s : State) : State :=
  let d := activeDesc s c
  each (fun k t => partialAccess (accDst d k) (accData (rawByte s) d k) t) (List.range (accCount d)) s

/-! ### Register writes -/

/-- R253: a write to a register of a print fetch channel is refused. -/
def dmaPrinting (s : State) (c : Nat) : Bool := c < 16 && s.is FIRE_ING_JOB.OPEN

/-- A channel goes to STOPPING (R256): DONE_BYTES, DESC_COUNT and the destination of a running descriptor are undefined from here. -/
def dmaStop (c : Nat) (s : State) : State :=
  let s := if dmaState s c = 2 then dmaPartial c s else s
  let s := setTail c false (setShadow 0 c ((s.put DMA_CTL.EN 0 c).put DMA_STATUS.STATE 4 c))
  let (a, s) := s.draw 32
  let (b, s) := s.draw 32
  (s.put DMA_DONE_BYTES.BYTES a c).put DMA_DESC_COUNT.COUNT b c

/-- Write 1 to SHADOW_VALID (R250). -/
def shadowValid (c : Nat) (s : State) : State := setShadow 2 c (setTail c false s)

/-- DMA_STOP_DONE (R256): the channel reaches IDLE, and goes on at once if EN has been written 1 meanwhile. -/
def dmaStopDone (c : Nat) (s : State) : State :=
  if dmaState s c = 4 then dmaTake c (s.put DMA_STATUS.STATE (b2n (s.is DMA_CTL.EN c)) c) else s

/-- EN written 1: the channel waits for a shadow set, or takes the one that is VALID (R251). -/
def dmaStart (c : Nat) (s : State) : State :=
  let s := s.put DMA_CTL.EN 1 c
  if dmaState s c = 0 then dmaTake c (s.put DMA_STATUS.STATE 1 c) else s

/-- The channel owned by FIRE while a job is open (R253): PREEMPTED if it was on. -/
def dmaToPrint (c : Nat) (s : State) : State :=
  let was := s.is DMA_CTL.EN c
  let s := if was then dmaStop c s else s
  let s := (setTail c false (setShadow 0 c s)).put DMA_STATUS.STATE 5 c
  if was then raise DMA_ERROR (c + 256 * 8) (s.put DMA_STATUS.ERR 8 c) else s

/-- A channel returns from FIRE at JOB_CLOSE (R253). -/
def dmaFromPrint (c : Nat) (s : State) : State :=
  setTail c false (setShadow 0 c ((s.put DMA_CTL.EN 0 c).put DMA_STATUS.STATE 0 c))

/-- DMA_ERR_SUMMARY (R258). -/
def dmaSummary (s : State) : Nat :=
  (List.range 32).foldl (fun v c => v + b2n (dmaState s c = 3) * 2 ^ c) 0

/-- DMA_STOP_DONE (R256). -/
def execDmaStopDone (channel : Fin 32) (s : State) : Host.Outcome State Fault Refusal := .next (dmaStopDone channel.val s)

/-- DMA_SHADOW_TAKE (R251). -/
def execDmaShadowTake (channel : Fin 32) (s : State) : Host.Outcome State Fault Refusal := .next (dmaTake channel.val s)

/-- DMA_DESC_FETCHED (R251). -/
def execDmaDescFetched (channel : Fin 32) (s : State) : Host.Outcome State Fault Refusal := .next (dmaFetched channel.val s)

end Sys2Proof.Machine
end

