-- ==== Sys2Proof/Machine/Encode.lean ====
section
/-! DEFINITION. The compressor and its chained output buffers (R225 to R229), and waiting strips that go on (R208). -/

namespace Sys2Proof.Machine

/-! ### Writes by the block's own engines -/

/-- A write by one of the block's engines does not land at an address where a rule refuses every write, or where nothing is (R26, R27, R234, R303). -/
def engineMay (s : State) (a : Nat) : Bool :=
  if isDram a then dramOk s a 1
  else isVat a && vatRegion a ≠ 9 && !(armed s && lockedWhileArmed a) && !bankLocked s a

/-- Bytes that an engine writes from an address on. -/
def engineWrite (a : Nat) (bs : List Byte) (s : State) : State :=
  each (fun e s => if engineMay s (a + e.1) then s.setByte (a + e.1) e.2 else s) ((List.range bs.length).zip bs) s

/-- A memory range that an engine can be pointed at: within one space of R107, and there. -/
def memoryRange (s : State) (a n : Nat) : Bool :=
  (isVat a || isDram a) && oneSpace s a n && (if isDram a then dramOk s a n else vatRegion a ≠ 9)

/-! ### The job (R226 to R229) -/

/-- Bytes of the source: planar rows, or a byte buffer. -/
def encSrcLen (s : State) (linear : Bool) : Nat :=
  if linear then s.get CODEC_ENC_LEN.LEN else s.get CODEC_ENC_LEN.LEN * rowBytes (s.get CODEC_ENC_COLUMNS.COLUMNS)

/-- ADDR and SIZE of a chain entry (R225). -/
def chainEntry (s : State) (i : Nat) : Nat × Nat :=
  let a := s.get CODEC_ENC_CHAIN.ADDR + 16 * i
  (s.le a 8, s.le (a + 8) 4)

/-- The chain's entries. -/
def chainEntries (s : State) : List (Nat × Nat) := (List.range (s.get CODEC_ENC_CHAIN_CFG.ENTRIES)).map (chainEntry s)

/-- The ranges that GO checks against the DMA class entries: range and right, the source, the chain list and every buffer (R226). -/
def encRanges (s : State) (linear : Bool) : List (Nat × Nat × Nat) :=
  let c := s.get CODEC_ENC_CHAIN.ADDR
  let n := 16 * s.get CODEC_ENC_CHAIN_CFG.ENTRIES
  [(s.get CODEC_ENC_SRC.SRC, encSrcLen s linear, 0), (c, n, 0), (c, n, 1)] ++ (chainEntries s).map fun e => (e.1, e.2, 1)

/-- Of two refusals, the one at the lower address. -/
def lowerViol (a b : Option Viol) : Option Viol :=
  match a, b with
  | some v, some w => some (if w.addr < v.addr then w else v)
  | some v, none => some v
  | none, w => w

/-- The refusal of a compressor job by the DMA class entries (R226, R128): the lowest address that lacks a right. -/
def encViol (opcode : Nat) (linear : Bool) (s : State) : Option Viol :=
  (encRanges s linear).foldl (fun v r => if r.2.1 = 0 then v else lowerViol v (rangeViol s 4 r.2.2 1 opcode r.1 r.2.1)) none

/-- What R226 refuses with BAD_PARAM, and ranges where no memory is. -/
def encBad (s : State) (linear : Bool) : Bool :=
  let len := s.get CODEC_ENC_LEN.LEN
  let n := s.get CODEC_ENC_CHAIN_CFG.ENTRIES
  let r := s.get CODEC_ENC_STRIP_ROWS.STRIP_ROWS
  len = 0 || n = 0 || n > 16 || (!linear && (r = 0 || r > 4096)) || (linear && len % 3 ≠ 0)
    || (encRanges s linear).any fun x => x.2.1 ≠ 0 && !memoryRange s x.1 x.2.1

/-- The stream of strips that the job writes (R229). A reader that is not named sees zeros for what memory has lost (R71, R245). -/
def encStream (linear : Bool) (s : State) : List Byte :=
  let a := s.get CODEC_ENC_SRC.SRC
  if linear then codeLinear (eccBytes s a (s.get CODEC_ENC_LEN.LEN))
  else
    let n := rowBytes (s.get CODEC_ENC_COLUMNS.COLUMNS)
    codeRows (s.get CODEC_ENC_COLUMNS.COLUMNS) (s.get CODEC_ENC_LEN.LEN) (s.get CODEC_ENC_STRIP_ROWS.STRIP_ROWS)
      fun r => eccBytes s (a + r * n) n

/-- Set the job's state and show whether it runs. -/
def encState (v : Nat) (s : State) : State := (s.put CODEC_ENC_RESULT.STATE v).putB CODEC_STATUS.ENC_BUSY (v = 1)

/-- An accepted GO starts the job. -/
def encStart (linear : Bool) (s : State) : State :=
  let job : EncJob := { left := encStream linear s, chain := s.get CODEC_ENC_CHAIN.ADDR, buffers := chainEntries s }
  let s := eccRead (s.get CODEC_ENC_SRC.SRC) (encSrcLen s linear) s
  encState 1 (((({ s with ing := { s.ing with enc := some job } }).put CODEC_ENC_OUT.OUT 0).put CODEC_ENC_RESULT.ENTRY 0))

/-- The buffer in use: its number, ADDR and SIZE. -/
def encBuffer (s : State) (j : EncJob) : Nat × Nat × Nat :=
  let i := s.get CODEC_ENC_RESULT.ENTRY
  let e := j.buffers.getD i (0, 0)
  (i, e.1, e.2)

/-- Write the next n bytes of the stream into the buffer in use. -/
def encPut (j : EncJob) (n : Nat) (s : State) : State :=
  let (_, a, _) := encBuffer s j
  let s := engineWrite a (j.left.take n) s
  (s.add CODEC_ENC_OUT.OUT (j.left.take n).length)

/-- Write USED of an entry. -/
def encUsed (j : EncJob) (i n : Nat) (s : State) : State := engineWrite (j.chain + 16 * i + 12) (leBytes 4 n) s

/-- The job ends. -/
def encEnd (v : Nat) (s : State) : State := encState v { s with ing := { s.ing with enc := none } }

/-- A write of 1 to ABORT (R228): how many bytes had been written is a free value. -/
def encAbort (s : State) : State :=
  match s.ing.enc with
  | some j =>
    let (m, s) := s.draw 32
    let (_, _, size) := encBuffer s j
    encEnd 4 (encPut j (m % (min size j.left.length + 1)) s)
  | none => s

/-- A write of CODEC_ENC_CTL (R226, R228): the status and the state. -/
def encCtlWrite (value : Nat) (s : State) : Nat × State :=
  let linear := bit value 0
  let t := onlyIf (bit value 30) encAbort (s.putB CODEC_ENC_CTL.MODE linear)
  if bit value 31 then
    if t.ing.enc.isSome then (stBusy, s)
    else if encBad t linear then (stBadParam, s)
    else if (encViol 0 linear t).isSome then (stDenied, s)
    else (stOk, encStart linear t)
  else (stOk, t)

/-- CODEC_CHAINED (R227): the buffer in use is full and more is to come. -/
def codecChained (s : State) : State :=
  match s.ing.enc with
  | none => s
  | some j =>
    let (i, _, size) := encBuffer s j
    if j.left.length ≤ size then s
    else
      let s := encUsed j i size (encPut j size s)
      if i + 1 < j.buffers.length then
        let s := { s with ing := { s.ing with enc := some { j with left := j.left.drop size } } }
        raise EV_CODEC_CHAINED (i + 1) (s.put CODEC_ENC_RESULT.ENTRY (i + 1))
      else
        let s := encEnd 3 s
        raise CODEC_CHAIN_EXHAUSTED (s.get CODEC_ENC_OUT.OUT) s

/-- CODEC_ENC_DONE (R227): what is left fits the buffer in use. -/
def codecDone (s : State) : State :=
  match s.ing.enc with
  | none => s
  | some j =>
    let (i, _, size) := encBuffer s j
    if j.left.length ≤ size then encEnd 2 (encUsed j i j.left.length (encPut j j.left.length s)) else s

/-- CODEC_CHAINED (R227). -/
def execCodecChained (s : State) : Host.Outcome State Fault Refusal := .next (codecChained s)

/-- CODEC_ENC_DONE (R227). -/
def execCodecEncDone (s : State) : Host.Outcome State Fault Refusal := .next (codecDone s)

/-- STRIP_RING_WRITE_RESUME (R208). -/
def execStripRingWriteResume (s : State) : Host.Outcome State Fault Refusal := .next (ingestPump s)

end Sys2Proof.Machine
end

