-- ==== Sys2Proof/Machine/Isp.lean ====
section
/-! DEFINITION. The image pipeline's arithmetic: linearisation, merge, defects, mosaic reconstruction, colour matrix and outputs (R423 to R431). -/

namespace Sys2Proof.Machine

/-- A field of a parameter set of port c. -/
def setGet (set : List (Nat × Nat)) (c : Nat) (F : Fld) (j : Nat := 0) : Nat := mapGet (F.rst c j) set (F.key c j)

/-- A signed field of a parameter set. -/
def setGetS (set : List (Nat × Nat)) (c : Nat) (F : Fld) (j : Nat := 0) : Int := sext F.len (setGet set c F j)

/-- A parameter set with its port. -/
structure IspSet where
  /-- The port. -/
  port : Nat
  /-- The fields that differ from reset. -/
  set : List (Nat × Nat)

/-- A field of the set. -/
def IspSet.get (p : IspSet) (F : Fld) (j : Nat := 0) : Nat := setGet p.set p.port F j

/-- WIDTH. -/
def IspSet.width (p : IspSet) : Nat := p.get ISP_GEOM.WIDTH
/-- HEIGHT. -/
def IspSet.height (p : IspSet) : Nat := p.get ISP_GEOM.HEIGHT
/-- EXPOSURES. -/
def IspSet.exposures (p : IspSet) : Nat := p.get ISP_FRAME.EXPOSURES
/-- The block size of DISP: 1, 2, 4 or 8. -/
def IspSet.ds (p : IspSet) : Nat := 2 ^ p.get ISP_OUT.DS
/-- Slots of the rings. -/
def IspSet.slots (p : IspSet) : Nat := p.get ISP_OUT.SLOTS + 1

/-! ### Merging (R423) -/

/-- lin() of R423. -/
def linPixel (p : IspSet) (raw : Nat) : Nat :=
  let i := raw / 16 % 4096
  let f := raw % 16
  let a := p.get ISP_LUT.ENTRY i
  let b := if i < 4095 then p.get ISP_LUT.ENTRY (i + 1) else a
  (a * (16 - f) + b * f + 8) / 16

/-- The longest exposure, of those up to e, not above SAT. -/
def mergePick (sat : Nat) (l : List Nat) : Nat → Nat
  | 0 => 0
  | e + 1 => if sat < l.getD (e + 1) 0 then mergePick sat l e else e + 1

/-- merge() of R423 over the linearised values of a pixel's exposures. -/
def mergePixel (p : IspSet) (l : List Nat) : Nat :=
  let e := mergePick (p.get ISP_MERGE.SAT) l (p.exposures - 1)
  let ratio := if e = 0 then 16 else if e = 1 then p.get ISP_RATIO.RATIO1 else p.get ISP_RATIO.RATIO2
  l.getD e 0 * 256 / ratio

/-- One merged line from the raw lines of its exposures. -/
def mergeLine (p : IspSet) (raws : List (List Nat)) : List Nat :=
  (List.range p.width).map fun x => mergePixel p (raws.map fun r => linPixel p (r.getD x 0))

/-! ### Defects and mosaic (R425 to R427) -/

/-- The width of the mosaic pattern (Table 15.4). -/
def mosaicW (p : IspSet) : Nat :=
  match p.get ISP_PATTERN.PATTERN with
  | 0 => 1 | 1 => 2 | 2 => 4 | _ => p.get ISP_PATTERN.UW + 1

/-- The height of the mosaic pattern. -/
def mosaicH (p : IspSet) : Nat :=
  match p.get ISP_PATTERN.PATTERN with
  | 0 => 1 | 1 => 2 | 2 => 4 | _ => p.get ISP_PATTERN.UH + 1

/-- The colour of a cell: 0 R, 1 G, 2 B, 3 C, 4 IR (Table 15.4). -/
def mosaicCell (p : IspSet) (y x : Nat) : Nat :=
  match p.get ISP_PATTERN.PATTERN with
  | 0 => 0
  | 1 => [0, 1, 3, 2].getD (2 * y + x) 0
  | 2 => [2, 1, 0, 1, 1, 4, 1, 4, 0, 1, 2, 1, 1, 4, 1, 4].getD (4 * y + x) 0
  | _ => p.get ISP_USER.CELLS / 16 ^ (4 * y + x) % 16

/-- The colour of a sensor pixel (R426). -/
def pixelColour (p : IspSet) (y x : Nat) : Nat :=
  mosaicCell p ((y + p.get ISP_PATTERN.PHASE_Y) % mosaicH p) ((x + p.get ISP_PATTERN.PHASE_X) % mosaicW p)

/-- The colours that appear in the pattern. -/
def mosaicHas (p : IspSet) (k : Nat) : Bool :=
  (List.range (mosaicH p)).any fun y => (List.range (mosaicW p)).any fun x => mosaicCell p y x = k

/-- Entry d of the defect list. -/
def defectAt (p : IspSet) (d : Nat) : Nat × Nat := (p.get ISP_DEFECT.X d, p.get ISP_DEFECT.Y d)

/-- The defect list. -/
def defects (p : IspSet) : List (Nat × Nat) := (List.range (p.get ISP_DEFECTS.COUNT)).map (defectAt p)

/-- A merged line y with its listed pixels replaced (R425). -/
def fixDefects (p : IspSet) (y : Nat) (line : List Nat) : List Nat :=
  let ds := (defects p).filter fun d => d.2 = y
  line.mapIdx fun x v =>
    if ds.any fun d => d.1 = x then
      let w := mosaicW p
      let ok (i : Nat) : Bool := i < p.width && !(ds.any fun d => d.1 = i)
      let l := if w ≤ x && ok (x - w) then [line.getD (x - w) 0] else []
      let r := if ok (x + w) then [line.getD (x + w) 0] else []
      match l ++ r with
      | [a, b] => (a + b + 1) / 2
      | [a] => a
      | _ => v
    else v

/-- A coordinate mirrored about the edge pixels of n. -/
def mirror (n : Nat) (v : Int) : Nat :=
  let once (v : Int) : Int := if v < 0 then -v else if (n : Int) ≤ v then 2 * ((n : Int) - 1) - v else v
  (once (once v)).toNat

/-- The offsets at a Chebyshev distance. -/
def ringOffsets (d : Int) : List (Int × Int) :=
  let r : List Int := [-2, -1, 0, 1, 2]
  ((r.map fun dy => r.map fun dx => (dy, dx)).flatten).filter fun o => max o.1.natAbs o.2.natAbs = d.natAbs

/-- The pixels of a colour at a distance. -/
def colourAt (p : IspSet) (lines : List (List Nat)) (y x k : Nat) (d : Int) : List Nat :=
  (ringOffsets d).filterMap fun o =>
    let yy := mirror p.height (y + o.1)
    let xx := mirror p.width (x + o.2)
    if pixelColour p yy xx = k then some ((lines.getD yy []).getD xx 0) else none

/-- The rounded mean of values. -/
def roundMean (l : List Nat) : Nat := (l.sum + l.length / 2) / l.length

/-- The reconstructed value of channel k at a pixel (R427). -/
def rebuilt (p : IspSet) (lines : List (List Nat)) (y x k : Nat) : Nat :=
  let own := (lines.getD y []).getD x 0
  if p.get ISP_PATTERN.PATTERN = 0 then own
  else if !mosaicHas p k then 0
  else if pixelColour p y x = k then own
  else match colourAt p lines y x k 1 with
    | [] => roundMean (colourAt p lines y x k 2)
    | l => roundMean l

/-! ### Colour matrix and outputs (R428 to R431) -/

/-- out() of R428 for output i. -/
def matrixOut (p : IspSet) (ins : List Nat) (i : Nat) : Nat :=
  let sum : Int := (List.range 5).foldl (fun t j => t + setGetS p.set p.port ISP_CM.COEF (5 * i + j) * (ins.getD j 0 : Int)) 0
  (clampI (asr sum 16 + setGetS p.set p.port ISP_CM_OFS.OFS i) 0 65535).toNat

/-- The five matrix outputs of line y, by pixel. -/
def outLine (p : IspSet) (lines : List (List Nat)) (y : Nat) : List (List Nat) :=
  (List.range p.width).map fun x =>
    let ins := (List.range 5).map (rebuilt p lines y x)
    (List.range 5).map (matrixOut p ins)

/-- R429: the 8-bit code k or more results from u = v / 65535: the exact comparison of 255 e with k - 1/2, for k from 1. -/
def srgbAtLeast (v k : Nat) : Bool :=
  if v * 10000000 ≤ 31308 * 65535 then (2 * k - 1) * 100 * 65535 ≤ 2 * 255 * 1292 * v
  else ((2 * k - 1) * 1000 + 55 * 510) ^ 12 * 65535 ^ 5 ≤ v ^ 5 * (510 * 1055) ^ 12

/-- The 8-bit sRGB code of a linear value (R429), bit by bit from the highest. -/
def srgb8 (v : Nat) : Nat :=
  [128, 64, 32, 16, 8, 4, 2, 1].foldl (fun d b => if srgbAtLeast v (d + b) then d + b else d) 0

/-- The display code of a matrix output (R429). -/
def dispCode (p : IspSet) (v : Nat) : Nat := srgb8 (min 65535 (v * p.get ISP_DISP_GAIN.GAIN / 256))

/-- The bytes of one DISP line: rows holds the matrix outputs of its DS sensor lines. -/
def dispBytes (p : IspSet) (rows : List (List (List Nat))) : List Byte :=
  ((List.range (p.width / p.ds)).map fun bx => [0, 1, 2].map fun k =>
    BitVec.ofNat 8 (dispCode p (roundMean ((rows.map fun row =>
      (List.range p.ds).map fun i => (row.getD (p.ds * bx + i) []).getD k 0).flatten)))).flatten

/-- R', G' and B' of a pixel with DS 1 (R430). -/
def rgb8 (p : IspSet) (px : List Nat) : Nat × Nat × Nat :=
  (dispCode p (px.getD 0 0), dispCode p (px.getD 1 0), dispCode p (px.getD 2 0))

/-- 10,000 Y' of R430. -/
def lumaQ (c : Nat × Nat × Nat) : Int := 2126 * c.1 + 7152 * c.2.1 + 722 * c.2.2

/-- n / d rounded to nearest. -/
def roundDiv (n d : Int) : Int := (2 * n + d) / (2 * d)

/-- Y of a pixel, exact and rounded. -/
def codeY (c : Nat × Nat × Nat) : Int := 16 + roundDiv (219 * lumaQ c) (255 * 10000)

/-- The chroma mean of pixels for the colour that pick names, over the divisor scale of R430 in 1/10,000. -/
def codeC (pick : Nat × Nat × Nat → Nat) (scale : Int) (cs : List (Nat × Nat × Nat)) : Int :=
  let sum : Int := cs.foldl (fun t c => t + (10000 * (pick c : Int) - lumaQ c)) 0
  128 + roundDiv (224 * sum) (scale * 255 * cs.length)

/-- R430: a value lies within 1 of the exact one; which, is a free value. -/
def nearCode (v : Int) (s : State) : Byte × State :=
  let (r, s) := s.draw 8
  (BitVec.ofNat 8 (clampI (v + (r % 3 : Int) - 1) 0 255).toNat, s)

/-- Values of a line, each within 1 of the exact one. -/
def nearCodes : List Int → State → List Byte × State
  | [], s => ([], s)
  | v :: vs, s =>
    let (b, s) := nearCode v s
    let (bs, s) := nearCodes vs s
    (b :: bs, s)

/-- The bytes that a slot of output o holds (R429 to R433). -/
def slotSize (p : IspSet) (o : Nat) : Nat :=
  if o = 0 then p.width / p.ds * (p.height / p.ds) * 3
  else if o = 1 then p.width * p.height * 3 / 2
  else if o = 2 then 2 * p.width * p.height * ones 5 (p.get ISP_OUT.MV_PLANES)
  else 64

/-- The output is enabled; DESC always is. -/
def outputOn (p : IspSet) (o : Nat) : Bool :=
  if o = 0 then p.get ISP_OUT.DISP_EN = 1 else if o = 1 then p.get ISP_OUT.CODE_EN = 1
  else if o = 2 then p.get ISP_OUT.MV_PLANES ≠ 0 else true

/-- The address of slot n of ring o (R432). -/
def slotStart (p : IspSet) (o n : Nat) : Nat := p.get ISP_RING.BASE o + n * p.get ISP_RING_SLOT.SLOT_BYTES o

/-- The place of plane j among the MV planes. -/
def mvIndex (p : IspSet) (j : Nat) : Nat := ones j (p.get ISP_OUT.MV_PLANES)

/-- Write the MV lines of line y (R431). -/
def putMv (p : IspSet) (n y : Nat) (row : List (List Nat)) (s : State) : State :=
  each (fun j s =>
    if bit (p.get ISP_OUT.MV_PLANES) j then
      engineWrite (slotStart p 2 n + 2 * p.width * (mvIndex p j * p.height + y))
        ((row.map fun px => leBytes 2 (px.getD j 0)).flatten) s
    else s) (List.range 5) s

/-- Write the CODE lines of line y (R430): luma, and with every second line the chroma of the two. -/
def putCode (p : IspSet) (n y : Nat) (above row : List (List Nat)) (s : State) : State :=
  let a := slotStart p 1 n
  let mine := row.map (rgb8 p)
  let (ys, s) := nearCodes (mine.map codeY) s
  let s := engineWrite (a + p.width * y) ys s
  if y % 2 = 1 then
    let up := above.map (rgb8 p)
    let four (x : Nat) : List (Nat × Nat × Nat) :=
      [up.getD (2 * x) (0, 0, 0), up.getD (2 * x + 1) (0, 0, 0), mine.getD (2 * x) (0, 0, 0), mine.getD (2 * x + 1) (0, 0, 0)]
    let blocks := (List.range (p.width / 2)).map four
    let at_ := a + p.width * p.height + p.width / 2 * (y / 2)
    let (cb, s) := nearCodes (blocks.map (codeC (fun c => c.2.2) 18556)) s
    let s := engineWrite at_ cb s
    let (cr, s) := nearCodes (blocks.map (codeC (fun c => c.1) 15748)) s
    engineWrite (at_ + p.width / 2 * (p.height / 2)) cr s
  else s

/-- Write what line y gives to each enabled output (R429 to R432). -/
def putLine (p : IspSet) (n : Nat) (lines : List (List Nat)) (y : Nat) (s : State) : State :=
  let row := outLine p lines y
  let s := putMv p n y row s
  let s := if outputOn p 1 then putCode p n y (outLine p lines (y - 1)) row s else s
  if outputOn p 0 ∧ (y + 1) % p.ds = 0 then
    let rows := (List.range p.ds).map fun i => outLine p lines (y + 1 - p.ds + i)
    engineWrite (slotStart p 0 n + p.width / p.ds * 3 * (y / p.ds)) (dispBytes p rows) s
  else s

end Sys2Proof.Machine
end

