-- ==== Sys2Proof/Machine/Cam.lean ====
section
/-! DEFINITION. The camera ports: frame groups, the frame checker, triggers, the FIFO, the pipeline's turns, posting and parameter sets (R412 to R422, R424, R432 to R439). -/

namespace Sys2Proof.Machine

/-- The four camera ports. -/
def camPorts : List Nat := [0, 1, 2, 3]

/-- The active parameter set of a port. -/
def activeSet (s : State) (c : Nat) : IspSet := { port := c, set := (s.camPort c).active }

/-- The parameter set of a group. -/
def groupSet (c : Nat) (g : CamGroup) : IspSet := { port := c, set := g.set }

/-- The line bytes of a parameter set (R414): one byte for a RAW8 pixel, two for any other. -/
def lineBytes (s : State) (p : IspSet) : Nat := p.width * (if s.get CAM_CTL.DT p.port = 0x2A then 1 else 2)

/-- The bits of a raw pixel by data type (Table 15.1), 0 for a type not taken. -/
def rawBits (dt : Nat) : Nat := if 0x2A ≤ dt ∧ dt ≤ 0x2E then 8 + 2 * (dt - 0x2A) else 0

/-- Bytes in a port's FIFO. -/
def fifoFill (s : State) (c : Nat) : Nat :=
  (s.camPort c).groups.foldl (fun m g => m + g.fifo.length * lineBytes s (groupSet c g)) 0

/-- Every exposure's frame of the group has ended (R415). -/
def groupEnded (g : CamGroup) : Bool := g.exps.all fun e => e.ended

/-- The frame of exposure e is in progress. -/
def frameOpen (g : CamGroup) (e : Nat) : Bool := match g.exps[e]? with | some x => x.started && !x.ended | none => false

/-- Change one exposure of a group. -/
def setExp (e : Nat) (f : CamExp → CamExp) (g : CamGroup) : CamGroup :=
  { g with exps := g.exps.mapIdx fun i x => if i = e then f x else x }

/-- The exposure of a group. -/
def groupExp (g : CamGroup) (e : Nat) : CamExp := g.exps.getD e {}

/-- Show the port's STATE, LEVEL, PEAK and SETS2 (Table 15.8). -/
def camShow (c : Nat) (s : State) : State :=
  let p := s.camPort c
  let st := if ¬s.is CAM_CTL.EN c then 0 else if p.dropped ≠ [] then 3 else if p.groups ≠ [] then 2 else 1
  let level := (fifoFill s c + 63) / 64
  let s := (s.put CAM_STATUS.STATE st c).put CAM_STATUS.LEVEL level c
  let s := s.put CAM_FIFO_PEAK.PEAK (max level (s.get CAM_FIFO_PEAK.PEAK c)) c
  s.putB CAM_STATUS.SETS2 (p.groups.any fun g => g.setNo ≠ p.setNo) c

/-- Replace a group of a port. -/
def putGroup (c : Nat) (g : CamGroup) (s : State) : State :=
  let p := s.camPort c
  s.setCamPort c { p with groups := p.groups.map fun x => if x.frame = g.frame then g else x }

/-- Replace a dropped group, which goes once its last Frame End has come. -/
def putDropped (c : Nat) (g : CamGroup) (s : State) : State :=
  let p := s.camPort c
  s.setCamPort c { p with dropped := (p.dropped.map fun x => if x.frame = g.frame then g else x).filter fun x => !groupEnded x }

/-! ### Parameter sets (R434, R435) -/

/-- The bit address lies among the shadowed parameters of a port: offsets 0x100 to 0x2FF, the LUT and the defect list (R438). -/
def shadowed (c k : Nat) : Bool :=
  let b := 0xC00000 + 0x4000 * c
  let a := k / 8
  (b + 0x100 ≤ a && a < b + 0x300) || (b + 0x1000 ≤ a && a < b + 0x4000)

/-- Taking a set (R435); first is FRAME of the first group that uses it. -/
def takeSet (c first : Nat) (s : State) : State :=
  let s := (s.put ISP_COMMIT.COMMIT 0 c).count ISP_COMMITS.COUNT c
  let p := s.camPort c
  let s := s.setCamPort c { p with
    active := s.regs.filter (fun e => shadowed c e.1), setNo := s.get ISP_COMMITS.COUNT c, taken := true }
  raise EV_ISP_SHADOW_TAKEN (c + 65536 * (first % 65536)) s

/-- Two active sets are in use: a commit that falls due waits (R435). -/
def twoSets (s : State) (c : Nat) : Bool := (s.camPort c).groups.any fun g => g.setNo ≠ (s.camPort c).setNo

/-- Check 0x5: the defect list is sorted by Y and then X, without duplicates, and within the frame. -/
def defectsOk (p : IspSet) : Bool :=
  let n := p.get ISP_DEFECTS.COUNT
  n ≤ 1024 && (List.range n).all fun d =>
    let (x, y) := defectAt p d
    x < p.width && y < p.height
      && (d = 0 || let (x', y') := defectAt p (d - 1); y' < y || (y' = y && x' < x))

/-- The range of ring o. -/
def ringRange (p : IspSet) (o : Nat) : Nat × Nat := (p.get ISP_RING.BASE o, p.slots * p.get ISP_RING_SLOT.SLOT_BYTES o)

/-- Check 0x6 of one ring. -/
def ringOk (s : State) (p : IspSet) (o : Nat) : Bool :=
  let (b, n) := ringRange p o
  let size := p.get ISP_RING_SLOT.SLOT_BYTES o
  b % 64 = 0 && (if o = 3 then size = 64 else slotSize p o ≤ size) && memoryRange s b n

/-- The rings in use. -/
def ringsOn (p : IspSet) : List Nat := [0, 1, 2, 3].filter (outputOn p)

/-- The refusal of the rings by the DMA class entries: check 0x7. -/
def ispViol (opcode : Nat) (p : IspSet) (s : State) : Option Viol :=
  (ringsOn p).foldl (fun v o => lowerViol v (rangeViol s 4 1 1 opcode (ringRange p o).1 (ringRange p o).2)) none

/-- The shadow set of a port as it stands. -/
def shadowSet (s : State) (c : Nat) : IspSet := { port := c, set := s.regs.filter fun e => shadowed c e.1 }

/-- The first check of Table 15.7 that fails: its reason, or 0. -/
def commitReason (s : State) (c : Nat) : Nat :=
  let p := shadowSet s c
  let w := p.width
  let h := p.height
  let code := outputOn p 1
  let e := p.exposures
  if w < 16 ∨ 8192 < w ∨ w % 4 ≠ 0 ∨ w % p.ds ≠ 0 ∨ h < 2 ∨ 16384 < h ∨ h % p.ds ≠ 0 ∨ (code ∧ (w % 2 ≠ 0 ∨ h % 2 ≠ 0)) then 1
  else if e = 0 ∨ p.get ISP_RATIO.RATIO1 < 16 ∨ (e = 3 ∧ p.get ISP_RATIO.RATIO2 < p.get ISP_RATIO.RATIO1)
      ∨ 15 < s.get CAM_CTL.VC c + e - 1 ∨ 64 < p.get ISP_MERGE.STAGGER then 2
  else if 262144 < (p.get ISP_MERGE.STAGGER + 2) * e * lineBytes s p then 3
  else if p.get ISP_PATTERN.PATTERN = 3 ∧ (List.range (mosaicH p)).any (fun y => (List.range (mosaicW p)).any fun x => 4 < mosaicCell p y x) then 4
  else if !defectsOk p then 5
  else if (ringsOn p).any fun o => !ringOk s p o then 6
  else if (ispViol 0 p s).isSome then 7
  else 0

/-- A write of ISP_COMMIT (R434): the status and the state. -/
def ispCommitWrite (c value : Nat) (s : State) : Nat × State :=
  if s.is ISP_COMMIT.COMMIT c then (stBusy, s)
  else if bit value 31 then
    let r := commitReason s c
    if r = 0 then (stOk, s.put ISP_COMMIT.COMMIT 1 c) else (if r = 7 then stDenied else stBadParam, s)
  else (stOk, s)

/-- ISP_SHADOW_TAKEN with EN 0 (R435): a committed set is taken within 10 us. -/
def shadowTaken (c : Nat) (s : State) : State :=
  if s.is ISP_COMMIT.COMMIT c ∧ ¬s.is CAM_CTL.EN c then takeSet c 0 s else s

/-! ### Posting (R432, R433) -/

/-- The bytes of the descriptor (Table 15.5). -/
def groupDesc (g : CamGroup) (slot fe : Nat) : List Byte :=
  let lines (e : Nat) := (groupExp g e).lines
  leBytes 4 g.frame ++ leBytes 2 g.fn ++ leBytes 2 g.flags ++ leBytes 8 g.fs ++ leBytes 8 fe
    ++ leBytes 8 (match g.trig with | some t => t.time | none => 0)
    ++ leBytes 1 (match g.trig with | some t => 128 + t.unit | none => 0)
    ++ leBytes 1 slot ++ leBytes 1 g.exps.length ++ zeros 1
    ++ leBytes 2 (lines 0) ++ leBytes 2 (lines 1) ++ leBytes 2 (lines 2) ++ zeros 2 ++ leBytes 4 g.setNo ++ zeros 16

/-- Post a group (R433): FE_TIME is a free value where no Frame End ever passed. -/
def postGroup (c : Nat) (g : CamGroup) (s : State) : State :=
  let set := groupSet c g
  let p := s.camPort c
  let slot := p.posted % set.slots
  let (fe, s) : Nat × State := match g.fe with | some t => (t, s) | none => s.draw 64
  let s := engineWrite (slotStart set 3 slot) (groupDesc g slot fe) s
  let post : CamPost := { frame := g.frame, flags := g.flags, set := g.set, slot := slot, trig := g.trig, at_ := s.time.raw }
  let keep : Bool := s.is NHA_CTL.EN && s.is NHA_CAM_CFG.EN c
  let s := s.setCamPort c { p with
    groups := p.groups.filter (fun x => x.frame ≠ g.frame), posted := p.posted + 1
    waiting := if keep then p.waiting ++ [post] else p.waiting }
  raise (CAM0_FRAME + c) (g.frame % 65536 + 65536 * slot + 2 ^ 24 * (g.flags % 256)) (s.count CAM_FRAMES.COUNT c)

/-- Post the oldest group once its last line has left the pipeline and it has ended. -/
def tryPost (c : Nat) (s : State) : State :=
  match (s.camPort c).groups with
  | g :: _ => if groupEnded g ∧ g.merged.length = (groupSet c g).height then camShow c (postGroup c g s) else s
  | [] => s

/-! ### The frame checker (R416, R417) -/

/-- A line of FILL. -/
def fillLine (p : IspSet) : List Nat := List.replicate p.width (p.get ISP_FRAME.FILL)

/-- A time at the port's balls as it is recorded: within 20 ns of the true passage (R420). -/
def stampNow (s : State) : Nat × State :=
  let (r, s) := s.draw 8
  (wrap 64 ((s.now : Int) + (r % 41 : Int) - 20), s)

/-- The frame of exposure e of a group ends (Table 15.2): missing lines are appended as FILL. -/
def endFrame (c e : Nat) (byEnd : Bool) (g : CamGroup) (s : State) : State :=
  let p := groupSet c g
  let n := (groupExp g e).lines
  let short : Bool := n < p.height
  let rest := (List.range p.height).filter fun i => n ≤ i && !g.missing.contains (e, i)
  let flags := g.flags ||| (if short then 1 else 0) ||| (if byEnd then 0 else 16)
  let g' := setExp e (fun x => { x with ended := true }) { g with
    flags := flags, fifo := g.fifo ++ rest.map fun i => (e, i, fillLine p) }
  let (fe, s) : Option Nat × State := if byEnd then ((stampNow s).1, (stampNow s).2) else (g'.fe, s)
  let s := putGroup c { g' with fe := fe } s
  let s := if short then raise CAM_FRAME_SHORT (c + 4 * e + 65536 * (n % 65536)) s else s
  tryPost c s

/-- The group, of a list, whose frame of exposure e is in progress. -/
def openGroup (gs : List CamGroup) (e : Nat) : Option CamGroup := gs.find? fun g => frameOpen g e

/-- The frame of exposure e in progress on a port ends; none leaves the state as it is. -/
def endOpen (c e : Nat) (byEnd : Bool) (s : State) : State :=
  match openGroup (s.camPort c).groups e with
  | some g => endFrame c e byEnd g s
  | none => match openGroup (s.camPort c).dropped e with
    | some g => putDropped c (setExp e (fun x => { x with ended := true }) g) s
    | none => s

/-- A frame of exposure e is in progress on the port. -/
def channelOpen (s : State) (c e : Nat) : Bool :=
  (openGroup (s.camPort c).groups e).isSome || (openGroup (s.camPort c).dropped e).isSome

/-- Count a discarded packet. -/
def camDiscard (c : Nat) (s : State) : State := s.count CAM_DISCARD.COUNT c

/-- R419: the trigger that a group takes at its Frame Start: entries older than the window are discarded, later ones stay. -/
def pickTrigger (c : Nat) (s : State) : Option CamTrig × State :=
  let p := s.camPort c
  let now : Int := s.now
  let old (t : CamTrig) : Bool := (t.time : Int) < now - 1000 * s.get CAM_CFG.TRIG_WIN c
  let gone := p.trigs.filter old
  let rest := p.trigs.filter fun t => !old t
  let s := s.add CAM_TRIG_DISCARD.COUNT gone.length c
  match rest.find? fun t => (t.time : Int) ≤ now with
  | some t => (some t, s.setCamPort c { p with trigs := rest.erase t })
  | none => (none, s.setCamPort c { p with trigs := rest })

/-- Frame Start of exposure 0: a new group (R415), with a committed set where one is due (R435). -/
def startGroup (c fn : Nat) (s : State) : State :=
  let s := endOpen c 0 false s
  let s := if s.is ISP_COMMIT.COMMIT c ∧ !twoSets s c then takeSet c (s.camPort c).nextFrame s else s
  let (trig, s) := pickTrigger c s
  let (fs, s) := stampNow s
  let p := s.camPort c
  let n := (activeSet s c).exposures
  let g : CamGroup := {
    frame := p.nextFrame, set := p.active, setNo := p.setNo, fn := fn, fs := fs, born := s.time.raw, trig := trig
    exps := (List.range n).map fun e => { started := e = 0 } }
  s.setCamPort c { p with groups := p.groups ++ [g], nextFrame := (p.nextFrame + 1) % 2 ^ 32 }

/-- The newest group, of a list, that has not had exposure e. -/
def joinable (gs : List CamGroup) (e : Nat) : Option CamGroup :=
  (gs.filter fun g => match g.exps[e]? with | some x => !x.started | none => false).getLast?

/-- Frame Start of another exposure: it joins the group in progress (R415). -/
def joinGroup (c e : Nat) (s : State) : State :=
  let s := endOpen c e false s
  let p := s.camPort c
  let start (g : CamGroup) : CamGroup := setExp e (fun x => { x with started := true }) g
  match joinable p.groups e, joinable p.dropped e with
  | some g, some d => if d.frame < g.frame then putGroup c (start g) s else putDropped c (start d) s
  | some g, none => putGroup c (start g) s
  | none, some d => putDropped c (start d) s
  | none, none => camDiscard c s

/-! ### The FIFO (R422) -/

/-- The group in progress whose first Frame Start arrived last, of all ports; ties go to the higher port. -/
def newestGroup (s : State) : Option (Nat × CamGroup) :=
  camPorts.foldl (fun best c => (s.camPort c).groups.foldl (fun best g =>
    match best with
    | some (_, b) => if b.born ≤ g.born then some (c, g) else best
    | none => some (c, g)) best) none

/-- Drop one group whole for room in port `full`'s FIFO. -/
def dropGroup (full : Nat) (s : State) : State :=
  match newestGroup s with
  | none => s
  | some (c, g) =>
    let p := s.camPort c
    let gone := if groupEnded g then [] else [{ g with fifo := [], merged := [] }]
    let s := s.setCamPort c { p with groups := p.groups.filter (fun x => x.frame ≠ g.frame), dropped := p.dropped ++ gone }
    let s := camShow c (s.count CAM_DROPS.COUNT c)
    raise CAM_FRAME_DROPPED (c + 16 * full + 65536 * (g.frame % 65536)) s

/-- Storing a line of a group would leave the port's FIFO with less free space than its reserve. -/
def fifoTight (s : State) (c : Nat) (g : CamGroup) : Bool :=
  let p := groupSet c g
  524288 < fifoFill s c + lineBytes s p + 2 * lineBytes s p * p.exposures

/-- Drop groups until the line fits, the number of groups as fuel. -/
def makeRoom (c : Nat) (g : CamGroup) : Nat → State → State
  | 0, s => s
  | n + 1, s => if fifoTight s c g then makeRoom c g n (dropGroup c s) else s

/-- Groups in progress on all ports. -/
def groupTotal (s : State) : Nat := camPorts.foldl (fun m c => m + (s.camPort c).groups.length) 0

/-- R424: what the pipeline goes on without once exposure 0 has delivered line l: line l - STAGGER - 1 of the other exposures. -/
def staggered (p : IspSet) (g : CamGroup) (l : Nat) : List (Nat × Nat) :=
  let lag := p.get ISP_MERGE.STAGGER + 1
  if l < lag then []
  else ((List.range g.exps.length).filter fun e => 0 < e && (groupExp g e).lines ≤ l - lag && !(groupExp g e).ended).map fun e => (e, l - lag)

/-- Store a checked line of exposure e in the group's FIFO. -/
def storeLine (c e : Nat) (g : CamGroup) (line : List Nat) (s : State) : State :=
  let l := (groupExp g e).lines
  let p := groupSet c g
  let given : Bool := g.missing.contains (e, l)
  let s := if given then s else makeRoom c g (groupTotal s) s
  match (s.camPort c).groups.find? fun x => x.frame = g.frame with
  | none => s
  | some _ =>
    let g := setExp e (fun x => { x with lines := x.lines + 1 }) g
    let g := if given then g else { g with fifo := g.fifo ++ [(e, l, line)] }
    let lost := if e = 0 then (staggered p g l).filter fun m => !g.missing.contains m else []
    let g := if lost.isEmpty then g else { g with missing := g.missing ++ lost, flags := g.flags ||| 32 }
    putGroup c g s

/-- A long packet of exposure e: a line of the frame in progress (R414, R416, R417). -/
def takeLine (c e : Nat) (px : List Nat) (crcOk : Bool) (g : CamGroup) (s : State) : State :=
  let p := groupSet c g
  let l := (groupExp g e).lines
  if p.height ≤ l then
    let g' := setExp e (fun x => { x with lines := x.lines + 1 }) { g with flags := g.flags ||| 2 }
    let s := putGroup c g' s
    if l = p.height then raise CAM_FRAME_LONG (c + 4 * e + 65536 * (g.frame % 65536)) s else s
  else
    let fill := p.get ISP_FRAME.FILL
    let odd : Bool := px.length ≠ p.width
    let s := onlyIf odd (fun s => s.count CAM_LINE_ERR.COUNT c) (onlyIf (!crcOk) (fun s => s.count CAM_CRC_ERR.COUNT c) s)
    let line := (List.range p.width).map fun x =>
      match px[x]? with
      | some v => if crcOk then v * 2 ^ (16 - rawBits (s.get CAM_CTL.DT c)) % 65536 else fill
      | none => fill
    let g := { g with flags := g.flags ||| (if odd then 4 else 0) ||| (if crcOk then 0 else 8) }
    storeLine c e g line (putGroup c g s)

/-- CSI_PACKET_RX (R412 to R417). -/
def csiPacket (c : Nat) (pk : CsiPacket) (s : State) : State :=
  if ¬s.is CAM_CTL.EN c then s
  else
    let n := (activeSet s c).exposures
    let n := (s.camPort c).groups.foldl (fun m g => max m g.exps.length) n
    let vc := s.get CAM_CTL.VC c
    let taken (ch : Nat) : Bool := vc ≤ ch && ch < vc + n
    camShow c <| match pk with
    | .badHeader => s.count CAM_ECC_ERR.COUNT c
    | .short ch dt field =>
      let e := ch.toNat - vc
      if !taken ch.toNat then camDiscard c s
      else if dt = 0x00 then (if e = 0 then startGroup c field.toNat s else joinGroup c e s)
      else if dt = 0x01 then (if channelOpen s c e then endOpen c e true s else camDiscard c s)
      else if dt = 0x02 ∨ dt = 0x03 then s
      else camDiscard c s
    | .long ch dt px crcOk =>
      let e := ch.toNat - vc
      if !taken ch.toNat ∨ dt.toNat ≠ s.get CAM_CTL.DT c then camDiscard c s
      else match openGroup (s.camPort c).groups e with
        | some g => takeLine c e (px.map fun v => v.toNat) crcOk g s
        | none => if (openGroup (s.camPort c).dropped e).isSome then s else camDiscard c s

/-- CAM_FRAME_TIMEOUT (Table 15.2): no packet on the channel for FRAME_TO ms. -/
def frameTimeout (c e : Nat) (s : State) : State :=
  if s.is CAM_CTL.EN c then camShow c (endOpen c e false s) else s

/-! ### The pipeline's turn (R421, R423, R424) -/

/-- The raw lines i of a group's exposures, if each is in the FIFO or given up. -/
def readyLine (c : Nat) (g : CamGroup) : Option (List (List Nat)) :=
  let i := g.merged.length
  let p := groupSet c g
  let line (e : Nat) : Option (List Nat) :=
    if g.missing.contains (e, i) then some (fillLine p)
    else (g.fifo.find? fun f => f.1 = e && f.2.1 = i).map fun f => f.2.2
  if i < p.height then (List.range g.exps.length).mapM line else none

/-- The port that the round robin serves next, with its group and the raw lines. -/
def nextReady (s : State) : Option (Nat × CamGroup × List (List Nat)) :=
  let order := [1, 2, 3, 4].map fun d => (s.cam.turn + d) % 4
  order.findSome? fun c => match (s.camPort c).groups with
    | g :: _ => (readyLine c g).map fun r => (c, g, r)
    | [] => none

/-- Slots that a group of the port begins to write hold no posted group any more (R432). -/
def overwriteSlot (c slot : Nat) (s : State) : State :=
  let p := s.camPort c
  s.setCamPort c { p with waiting := p.waiting.map fun w => if w.slot = slot then { w with late := true } else w }

/-- ISP_LINE_PROCESSED (R421): one merged line, and what leaves reconstruction with it. -/
def ispLine (s : State) : State :=
  match nextReady s with
  | none => s
  | some (c, g, raws) =>
    let p := groupSet c g
    let i := g.merged.length
    let g := { g with
      merged := g.merged ++ [fixDefects p i (mergeLine p raws)]
      fifo := g.fifo.filter fun f => f.2.1 ≠ i }
    let s := putGroup c g { s with cam := { s.cam with turn := c } }
    let slot := (s.camPort c).posted % p.slots
    let outs := if i + 1 = p.height then (if p.height = 2 then [0, 1] else [i - 2, i - 1, i]) else if 2 ≤ i then [i - 2] else []
    let s := if outs.contains 0 then overwriteSlot c slot s else s
    camShow c (tryPost c (each (putLine p slot g.merged) outs s))

/-! ### CAM_CTL (R413, R436) -/

/-- A write of CAM_CTL (R413, R436): the status and the state. -/
def camCtlWrite (c value : Nat) (s : State) : Nat × State :=
  let dt := bits value 21 16
  let en := s.is CAM_CTL.EN c
  let moved : Bool := dt ≠ s.get CAM_CTL.DT c || bits value 15 12 ≠ s.get CAM_CTL.VC c
    || bits value 11 8 ≠ s.get CAM_CTL.LANE_INV c || bits value 2 1 ≠ s.get CAM_CTL.LANES c
  if rawBits dt = 0 ∨ bits value 2 1 = 2 then (stBadParam, s)
  else if (en && moved) ∨ (bit value 0 ∧ !(s.camPort c).taken) then (stBusy, s)
  else
    let s := ((((s.put CAM_CTL.DT dt c).put CAM_CTL.VC (bits value 15 12) c).put CAM_CTL.LANE_INV (bits value 11 8) c).put
      CAM_CTL.LANES (bits value 2 1) c).putB CAM_CTL.EN (bit value 0) c
    let p := s.camPort c
    let s := if bit value 0 then
        (if en then s else s.setCamPort c { p with nextFrame := 0, posted := 0 })
      else (s.setCamPort c { p with groups := [], dropped := [], trigs := [] }).put CAM_STATUS.ULPS 0 c
    (stOk, camShow c s)

/-- A camera link enters or leaves ULPS (R412). -/
def camUlps (c : Nat) (ulps : Bool) (s : State) : State := if s.is CAM_CTL.EN c then s.putB CAM_STATUS.ULPS ulps c else s

/-- PD_ISP goes to NAP or OFF (R436): sets, groups and triggers are lost. -/
def camerasLost (s : State) : State := { s with cam := {} }

/-! ### The events of this chapter -/

/-- CSI_PACKET_RX (R417). -/
def execCsiPacketRx (port : Fin 4) (pk : CsiPacket) (s : State) : Host.Outcome State Fault Refusal :=
  .next (csiPacket port.val pk s)

/-- CAM_FRAME_TIMEOUT (R417). -/
def execCamFrameTimeout (port : Fin 4) (e : Fin 3) (s : State) : Host.Outcome State Fault Refusal :=
  .next (frameTimeout port.val e.val s)

/-- ISP_LINE_PROCESSED (R421). -/
def execIspLineProcessed (s : State) : Host.Outcome State Fault Refusal := .next (ispLine s)

/-- ISP_SHADOW_TAKEN (R435). -/
def execIspShadowTaken (port : Fin 4) (s : State) : Host.Outcome State Fault Refusal := .next (shadowTaken port.val s)

/-- CAM_ULPS_CHANGE (R412). -/
def execCamUlpsChange (port : Fin 4) (ulps : Bool) (s : State) : Host.Outcome State Fault Refusal :=
  .next (camUlps port.val ulps s)

end Sys2Proof.Machine
end

