-- ==== Sys2Proof/Machine/Nha.lean ====
section
/-! DEFINITION. The nozzle-health analyser: placing samples on rows, expected drops, separating the bars, windows, classes, masks, the baseline and reports (R440 to R465). -/

namespace Sys2Proof.Machine

/-! ### Geometry of the sources (R442, R449, R463) -/

/-- Entry x of a source's geometry table: VALID, SKEW and COL. -/
def geomEntry (s : State) (c x : Nat) : Bool × Int × Nat :=
  if c < 4 then (s.is NHA_GEOM.VALID c x, s.getS NHA_GEOM.SKEW c x, s.get NHA_GEOM.COL c x)
  else (s.is NHA_RGEOM.VALID (c - 4) x, s.getS NHA_RGEOM.SKEW (c - 4) x, s.get NHA_RGEOM.COL (c - 4) x)

/-- Every entry of a geometry table. -/
def geomColumns : List Nat := List.range 8192

/-- A source maps an image column. -/
def mapsColumn (s : State) (c col : Nat) : Bool := geomColumns.any fun x => let e := geomEntry s c x; e.1 && e.2.2 = col

/-- The one source that a column's nozzle takes samples from (R449). -/
def columnSource (s : State) (col : Nat) : Option Nat := nhaSources.find? fun c => srcOn s c && mapsColumn s c col

/-- The source of a nozzle: that of the column it prints. -/
def nozzleSource (s : State) (n : Nat) : Option Nat := columnSource s (nzCol (nz s (liveBase s) n))

/-- CAM_DIST of a source. -/
def srcDist (s : State) (c : Nat) : Nat := if c < 4 then s.get NHA_CAM_DIST.CAM_DIST c else s.get NHA_RSRC_DIST.CAM_DIST (c - 4)

/-- LPITCH of a source. -/
def srcPitch (s : State) (c : Nat) : Int := if c < 4 then s.getS NHA_CAM_CFG.LPITCH c else s.getS NHA_RSRC_CFG.LPITCH (c - 4)

/-! ### Placing a sample (R444, R445, R446) -/

/-- seen_at_ref of R444, with the sense of the source's DIR. -/
def seenAtRef (s : State) (c : Nat) (xe : Int) (y : Nat) (skew : Int) : Int :=
  let d : Int := srcDist s c + srcPitch s c * y + skew * 16
  xe - (if srcRev s c then -1 else 1) * d * 256

/-- row_of of R444. -/
def rowOf (p : Page) (x : Int) : Int := asr (pageSense p * (x - p.origin.getD 0) + 32768) 16

/-- The page of the source's DIR that a position falls in, with its row: its origin is fixed, and the row is still held. -/
def pageUnder (s : State) (c : Nat) (x : Int) : Option (Page × Nat) :=
  s.ing.pages.findSome? fun p =>
    let r := rowOf p x
    if p.origin.isSome ∧ p.reverse = srcRev s c ∧ 0 ≤ r ∧ r < p.rows ∧ rowHeld s p r.toNat then some (p, r.toNat) else none

/-- The bank with which a ring row was fetched (R446), and whether it still holds that table. -/
def rowBank (s : State) (q : Nat) : Nat × Bool :=
  if q < s.get NMAP_SWAP_ROW.ROW then (spareBase s, spare s = 0) else (liveBase s, true)

/-- The column lies within COL_LO - 2 to COL_HI + 2 of a head. -/
def nearHead (s : State) (b h col : Nat) : Bool :=
  s.le (recAt b h + 0x0C) 4 ≤ col + 2 && col ≤ s.le (recAt b h + 0x10) 4 + 2

/-- The printing nozzle of a column in a page row (R295). -/
def printingNozzle (s : State) (b col r : Nat) : Option Nat :=
  allNozzles.find? fun n => nzCol (nz s b n) = col && prints s b (columns s) n r

/-- The code that a column's printing nozzle fires in a page row (R295, R446); 0 where none prints. -/
def expectedCode (s : State) (p : Page) (b col r : Nat) : Nat :=
  match printingNozzle s b col r with
  | some n => codeOf s b (columns s) p.pass p.passes (rowCode (columns s) (ringRow s (p.base + r))) n r
  | none => 0

/-- A slot group had not fired a ring row when a stop ended its page (R340). -/
def stopped (p : Page) (g q : Nat) : Bool := match p.stopAt with | some m => mapGet 0 m g ≤ q | none => false

/-- The head that serves a column did not fire the ring row (R377, R445). -/
def headMissed (s : State) (b q col : Nat) : Bool :=
  s.fire.notFired.any fun e => e.1 = q && allHeads.any fun h => bit e.2 h && nearHead s b h col

/-- Why a sample on a held row is excluded (Table 16.1), 0 for none. -/
def exclusion (s : State) (p : Page) (r col : Nat) : Nat :=
  let q := p.base + r
  let (b, same) := rowBank s q
  if p.unread ∨ r < p.readTo then 7
  else if p.underrun.contains r then 1
  else if s.fire.oversped.contains q then 2
  else if headMissed s b q col then 3
  else if eccBad s (slotAddr s q) (rowBytes (columns s)) then 4
  else if (match printingNozzle s b col r with | some n => stopped p (n / 512) q | none => false) then 5
  else if !same then 6
  else 0

/-- A sample is excluded (R445). -/
def exclude (cause : Nat) (s : State) : State := (s.count NHA_EXCL.COUNT).put NHA_EXCL_REASON.LAST cause

/-- Where sample (x, y) falls: ignored (none), excluded with a cause, or on a row of a page. -/
inductive Spot where
  /-- The column's nozzle takes its samples from another source (R449). -/
  | ignored
  /-- A cause of Table 16.1. -/
  | excluded (cause : Nat)
  /-- Row r of a page, and the image column. -/
  | row (p : Page) (r col : Nat)
  deriving DecidableEq, Repr

/-- Place a sample of camera column x and line y, exposed with the print position xe. -/
def placeSample (s : State) (c : Nat) (xe : Int) (x y : Nat) : Spot :=
  let (valid, skew, col) := geomEntry s c x
  if !valid then .excluded 8
  else if columnSource s col ≠ some c then .ignored
  else match pageUnder s c (seenAtRef s c xe y skew) with
    | none => .excluded 7
    | some (p, r) => match exclusion s p r col with
      | 0 => .row p r col
      | e => .excluded e

/-! ### Measured amounts (R447, R448) -/

/-- MV plane j of a posted group at a sample; 0 for a plane that MV does not hold. -/
def mvAt (s : State) (set : IspSet) (slot j x y : Nat) : Nat :=
  if bit (set.get ISP_OUT.MV_PLANES) j then
    s.le (slotStart set 2 slot + 2 * (set.width * (mvIndex set j * set.height + y) + x)) 2
  else 0

/-- UNMIX of bar b and plane j. -/
def unmix (s : State) (c b j : Nat) : Int := s.getS NHA_CAM_UNMIX.COEF c (5 * b + j)

/-- dark[b] of R448. -/
def darkOf (s : State) (c b : Nat) (mv : Nat → Nat) : Nat :=
  let t : Int := (List.range 5).foldl (fun t j =>
    let w := s.get NHA_CAM_WHITE.W c j
    t + unmix s c b j * ((w - mv j : Nat) : Int)) 0
  (clampI (asr t 12) 0 65535).toNat

/-- The expected amount of a code (R447). -/
def volume (s : State) (code : Nat) : Nat := if code = 0 then 0 else s.get NHA_VOL.VOL code

/-! ### Sums (R451) -/

/-- Add to a nozzle's sums of the window of a ring row. -/
def addSums (n q : Nat) (f : NhaSum → NhaSum) (s : State) : State :=
  let k := 131072 * (q / 512) + n
  { s with nha := { s.nha with sums := mapSet {} k (f (mapGet {} s.nha.sums k)) s.nha.sums } }

/-- The camera column whose geometry maps an image column. -/
def cameraColumn (s : State) (c col : Nat) : Option Nat :=
  geomColumns.find? fun x => let e := geomEntry s c x; e.1 && e.2.2 = col

/-- One sample of a local port adds to its nozzle's sums (R451). dark gives dark[SELF] by camera column. -/
def addSample (c : Nat) (dark : Nat → Nat) (p : Page) (r col x : Nat) (s : State) : State :=
  let q := p.base + r
  let b := (rowBank s q).1
  match printingNozzle s b col r with
  | none => s
  | some n =>
    let code := expectedCode s p b col r
    let beside (col : Nat) : Nat := match cameraColumn s c col with | some x => dark x | none => 0
    let alone : Bool := code ≠ 0 && (col = 0 || expectedCode s p b (col - 1) r = 0) && expectedCode s p b (col + 1) r = 0
    let left := if col = 0 then 0 else beside (col - 1)
    addSums n q (fun t => { t with
      se := t.se + volume s code, sm := t.sm + dark x, nd := t.nd + b2n (code ≠ 0)
      ni := t.ni + b2n alone, dl := t.dl + (if alone then left else 0), dc := t.dc + (if alone then dark x else 0)
      dr := t.dr + (if alone then beside (col + 1) else 0) }) s

/-- Take one sample of a local port. -/
def takeSample (c : Nat) (xe : Int) (dark : Nat → Nat) (x y : Nat) (s : State) : State :=
  match placeSample s c xe x y with
  | .ignored => s
  | .excluded e => exclude e s
  | .row p r col => addSample c dark p r col x s

/-! ### Reports (R458) -/

/-- The runs of neighbouring VALID columns below a width, cut at 112: first column and length. -/
def reportRuns (s : State) (c width : Nat) : List (Nat × Nat) :=
  let step (acc : List (Nat × Nat)) (x : Nat) : List (Nat × Nat) :=
    if (geomEntry s c x).1 then
      match acc with
      | (x0, n) :: l => if x0 + n = x ∧ n < 112 then (x0, n + 1) :: l else (x, 1) :: acc
      | [] => [(x, 1)]
    else acc
  ((List.range width).foldl step []).reverse

/-- The cells of a block, in order (Table 16.2). -/
def reportCells (s : State) (c b bseq expo frame line0 lines width : Nat) (mean : Nat → Nat) : List (List Byte) :=
  let runs := reportRuns s c width
  runs.mapIdx fun i r =>
    beBytes 1 1 ++ beBytes 1 (c + 16 * b) ++ beBytes 2 bseq ++ beBytes 6 expo ++ beBytes 4 frame ++ beBytes 2 line0
      ++ beBytes 1 lines ++ beBytes 1 (i % 128 + 128 * b2n (i + 1 = runs.length)) ++ beBytes 2 r.1 ++ beBytes 1 r.2 ++ zeros 3
      ++ ((List.range r.2).map fun k => beBytes 2 (mean (r.1 + k))).flatten

/-- Send one block of a group for bar b. -/
def sendBlock (c b : Nat) (w : CamPost) (expo line0 : Nat) (s : State) : State :=
  let set : IspSet := { port := c, set := w.set }
  let node := s.get NHA_CAM_NODE.NODE c b
  let lines := min 64 (set.height - line0)
  let key := 1024 * c + node
  let bseq := mapGet 0 s.nha.bseqs key
  let mean (x : Nat) : Nat :=
    roundMean ((List.range lines).map fun i => darkOf s c b fun j => mvAt s set w.slot j x (line0 + i))
  let cells := reportCells s c b bseq expo w.frame line0 lines set.width mean
  let s := { s with nha := { s.nha with bseqs := mapSet 0 key ((bseq + 1) % 65536) s.nha.bseqs } }
  if node = 0x3FF then s else each (fun d s => fabOriginate 7 node d s) cells s

/-- The bars that a port lists beside its own (R448). -/
def otherBars (s : State) (c : Nat) : List Nat :=
  (List.range (s.get NHA_CAM_BARS.NBARS c + 1)).filter fun b => b ≠ s.get NHA_CAM_BARS.SELF c

/-- Send the measurements of a group for every other bar. -/
def sendReports (c : Nat) (w : CamPost) (expo : Nat) (s : State) : State :=
  let set : IspSet := { port := c, set := w.set }
  let n := (set.height + 63) / 64
  each (fun b s =>
    let s := each (fun i s => sendBlock c b w expo (64 * i) s) (List.range n) s
    raise NHA_REPORT_SENT (c + 16 * b + 256 * (n % 256) + 65536 * (w.frame % 65536)) s) (otherBars s c) s

/-! ### A posted group (R443) -/

/-- MV holds every plane with a coefficient that is not 0 for some bar of the port. -/
def planesHeld (s : State) (c : Nat) (set : IspSet) : Bool :=
  (List.range 5).all fun j => bit (set.get ISP_OUT.MV_PLANES) j
    || (List.range (s.get NHA_CAM_BARS.NBARS c + 1)).all fun b => unmix s c b j = 0

/-- Show LAG (R461): a posted group has waited more than 10 ms. -/
def nhaLag (s : State) : State :=
  s.putB NHA_STATUS.LAG (camPorts.any fun c => (s.camPort c).waiting.any fun w => w.at_ + 10000000 < s.time.raw)

/-- Analyse a group that is not set aside. -/
def analyseGroup (c : Nat) (w : CamPost) (t : CamTrig) (s : State) : State :=
  let set : IspSet := { port := c, set := w.set }
  let xe := expoPos s c t
  let self := s.get NHA_CAM_BARS.SELF c
  let s0 := s
  let s := each (fun y s => each (fun x s =>
    takeSample c xe (fun x => darkOf s0 c self fun j => mvAt s0 set w.slot j x y) x y s) (List.range set.width) s) (List.range set.height) s
  sendReports c w (wrap 48 (expoOf s c t)) s

/-- NHA_GROUP_ANALYSE: the oldest posted group of a port is analysed or set aside (R443). -/
def groupAnalyse (c : Nat) (s : State) : State :=
  let port := s.camPort c
  match port.waiting with
  | [] => s
  | w :: rest =>
    let set : IspSet := { port := c, set := w.set }
    let s := s.setCamPort c { port with waiting := rest }
    let start := slotStart set 2 w.slot
    let size := slotSize set 2
    nhaReadBack <| nhaLag <|
      match w.trig with
      | none => s.count NHA_SKIPPED.COUNT
      | some t =>
        if w.flags % 256 ≠ 0 ∨ !planesHeld s c set then s.count NHA_SKIPPED.COUNT
        else if w.late then s.count NHA_LATE.COUNT
        else match rangeViol s 5 0 0 0 start size with
          | some v => (violate v s).count NHA_SKIPPED.COUNT
          | none => analyseGroup c w t s

/-! ### Windows (R450 to R454) -/

/-- The sums of a nozzle in a window. -/
def sumsOf (s : State) (w n : Nat) : NhaSum := mapGet {} s.nha.sums (131072 * w + n)

/-- MIN_DROPS, where 0 acts as 1. -/
def minDrops (s : State) : Nat := max 1 (s.get NHA_MIN.MIN_DROPS)

/-- The nozzles with sums in a window. -/
def windowNozzles (s : State) (w : Nat) : List Nat :=
  (s.nha.sums.filter fun e => e.1 / 131072 = w).map fun e => e.1 % 131072

/-- The gain of a source in a window (R451): none where no nozzle qualifies. -/
def sourceGain (s : State) (w c : Nat) : Option Nat :=
  let ns := (windowNozzles s w).filter fun n => minDrops s ≤ (sumsOf s w n).nd && nozzleSource s n = some c
  let se := ns.foldl (fun m n => m + (sumsOf s w n).se) 0
  let sm := ns.foldl (fun m n => m + (sumsOf s w n).sm) 0
  if ns.isEmpty then none else some (sm * 65536 / max 1 se % 2 ^ 32)

/-- ratio_q8 of R452. -/
def ratioQ8 (sm se g b0 : Nat) : Nat :=
  let den := se * g * b0 % 2 ^ 64
  if den = 0 then 0 else min 65535 (sm * 2 ^ 32 % 2 ^ 64 / den)

/-- The classes of Table 16.7. -/
def clsUnseen : Nat := 0
/-- HEALTHY. -/
def clsHealthy : Nat := 1
/-- MISSING. -/
def clsMissing : Nat := 2
/-- WEAK. -/
def clsWeak : Nat := 3
/-- DEVIATED. -/
def clsDeviated : Nat := 4

/-- d of R452. -/
def deviation (t : NhaSum) : Int := tdiv (sext 32 (wrap 32 (256 * ((t.dr : Int) - t.dl)))) (max 1 (t.dl + t.dc + t.dr) : Nat)

/-- A class with its margin, before confidence (R452). -/
def classMargin (s : State) (t : NhaSum) (r : Nat) : Nat × Nat :=
  let miss := s.get NHA_TH.MISS_TH
  let weak := s.get NHA_TH.WEAK_TH
  if r < miss then (clsMissing, miss - r)
  else if r < weak then (clsWeak, min (r - miss) (weak - r))
  else
    let d := deviation t
    if max 1 (s.get NHA_MIN.MIN_ISO) ≤ t.ni ∧ s.get NHA_TH.DEV_TH < d.natAbs then (clsDeviated, d.natAbs - s.get NHA_TH.DEV_TH)
    else (clsHealthy, r - weak)

/-- classify of R452: class and confidence. -/
def classify (s : State) (t : NhaSum) (r : Nat) : Nat × Nat :=
  if t.nd < minDrops s then (clsUnseen, 0)
  else
    let (cls, margin) := classMargin s t r
    let conf := min 255 (t.nd * margin / 256)
    if conf < s.get NHA_CTL.CONF_MIN then (clsUnseen, conf) else (cls, conf)

/-- The baseline b0 of a nozzle (R456). -/
def baselineOf (s : State) (n : Nat) : Nat := mapGet 256 s.nha.own n

/-- A class that adds to STREAK (R453). -/
def failing (s : State) (cls : Nat) : Bool :=
  cls = clsMissing || (cls = clsWeak && s.is NHA_CTL.MASK_WEAK) || (cls = clsDeviated && s.is NHA_CTL.MASK_DEV)

/-- STREAK moves (R453). -/
def moveStreak (n cls conf : Nat) (s : State) : State :=
  let old := s.get NHA_NOZ.STREAK n
  if cls = clsUnseen then s
  else if failing s cls then
    let s := s.count NHA_NOZ.STREAK n
    if old = 0 then raise NHA_SUSPECT (n + 2 ^ 17 * cls + 2 ^ 20 * conf) s else s
  else s.put NHA_NOZ.STREAK 0 n

/-- The analyser may queue a mask for a nozzle now (R440, R454, R456). -/
def mayMask (s : State) (n : Nat) : Bool :=
  max 1 (s.get NHA_CTL.CONFIRM) ≤ s.get NHA_NOZ.STREAK n && s.is NHA_STATUS.BASELINE && !s.is NHA_CTL.NOMASK
    && s.bitOf NHA_HEAD_MASK.MASK (n / 2048) && !s.nha.queued.contains n

/-- Queue a mask (R454). -/
def nhaMask (n : Nat) (remote : Bool) (s : State) : State :=
  if mayMask s n then
    let s := queueMask n 2 { s with nha := { s.nha with queued := s.nha.queued ++ [n] } }
    raise EV_NHA_MASKED (n + 2 ^ 17 * s.get NHA_NOZ.CLASS n + 2 ^ 20 * b2n remote + 2 ^ 24 * s.get NHA_NOZ.CONF n)
      (s.count NHA_MASKS.COUNT)
  else s

/-- The window adds to a nozzle's baseline period (R456). -/
def addBase (n cls g : Nat) (t : NhaSum) (s : State) : State :=
  if s.is NHA_STATUS.BASELINE then s
  else
    let b := mapGet {} s.nha.base n
    let b := { b with sm := b.sm + t.sm, seg := b.seg + t.se * g, nd := b.nd + t.nd
                      bad := b.bad || (cls ≠ clsUnseen && cls ≠ clsHealthy) }
    { s with nha := { s.nha with base := mapPut n b s.nha.base } }

/-- The verdict of a window on a nozzle, with its source's gain. -/
def judgeNozzle (w n c g : Nat) (s : State) : State :=
  let t := sumsOf s w n
  let r := ratioQ8 t.sm t.se g (baselineOf s n)
  let (cls, conf) := classify s t r
  let s := if t.nd < minDrops s then s else s.put NHA_NOZ.RATIO r n
  let s := s.put NHA_NOZ.CLASS cls n
  let s := if cls = clsUnseen then s else s.put NHA_NOZ.CONF conf n
  nhaMask n (4 ≤ c) (moveStreak n cls conf (addBase n cls g t s))

/-- A nozzle that may get a verdict: its source has a gain, and it is not masked in the live table. -/
def windowVerdict (w : Nat) (gains : List (Nat × Nat)) (n : Nat) (s : State) : State :=
  if nzMasked (nz s (liveBase s) n) then s
  else match nozzleSource s n with
    | none => s
    | some c => match gains.find? fun e => e.1 = c with
      | some e => judgeNozzle w n c e.2 s
      | none => s

/-- Pages of the baseline period whose windows have closed. -/
def pagesSeen (s : State) : Nat := (s.nha.inspected.filter fun q => q ≤ 512 * s.nha.next).length

/-- The own baseline that a period gives a nozzle (R456). -/
def ownBaseline (s : State) (b : NhaBase) : Option Nat :=
  if 2 * minDrops s ≤ b.nd ∧ ¬b.bad ∧ b.seg ≠ 0 then some (max 128 (min 512 (256 * (b.sm * 65536) / b.seg))) else none

/-- The baseline period ends once enough inspected pages have ended and their windows have closed (R456). -/
def baselineEnd (s : State) : State :=
  let seen := min 15 (pagesSeen s)
  if s.is NHA_STATUS.BASELINE then s
  else
    let s := s.put NHA_STATUS.BASE_SEEN seen
    if seen < max 1 (s.get NHA_CTL.BASE_PAGES) then s
    else
      let own := s.nha.base.filterMap fun e => (ownBaseline s e.2).map fun v => (e.1, v)
      let s := each (fun e s => s.put NHA_NOZ.BASE_OWN 1 e.1) own s
      let s := { s with nha := { s.nha with own := own, base := [] } }
      raise NHA_BASELINE_READY (own.length + 2 ^ 28 * seen) (s.put NHA_STATUS.BASELINE 1)

/-- The next window may close (R450): every one of its rows has been read back, and some page has reached it. -/
def windowReady (s : State) : Bool :=
  let q := 512 * s.nha.next
  jobOpen s && q < s.ing.nextBase && (List.range 512).all fun i => rowReadBack s (q + i)

/-- Close the next window. -/
def closeWindow (s : State) : State :=
  let w := s.nha.next
  let gains := nhaSources.filterMap fun c => (sourceGain s w c).map fun g => (c, g)
  let s := if s.is NMAP_STATUS.TABLE ∧ s.is NHA_CTL.EN then each (windowVerdict w gains) allNozzles s else s
  let s := { s with nha := { s.nha with
    next := w + 1, sums := s.nha.sums.filter fun e => e.1 / 131072 ≠ w } }
  nhaSuspects (baselineEnd (s.count NHA_WINDOWS.COUNT))

/-- NHA_WINDOW_CLOSE (R450). -/
def windowClose (s : State) : State :=
  let s := nhaReadBack s
  if windowReady s then closeWindow s else s

/-! ### Remote sources (R441, R459) -/

/-- The enabled remote source of a block's node and port. -/
def remoteSource (s : State) (node port : Nat) : Option Nat :=
  [0, 1, 2, 3].find? fun r => s.is NHA_RSRC_CFG.EN r && s.get NHA_RSRC_CFG.NODE r = node && s.get NHA_RSRC_CFG.PORT r = port

/-- NHA_REPORT_RECEIVED of a source's group, once. -/
def tellGroup (r : Nat) (s : State) : State :=
  match s.nha.groups.find? fun e => e.1 = r with
  | some (_, g) =>
    if g.told then s
    else
      raise NHA_REPORT_RECEIVED (r + 4 * b2n g.bad + 256 * (g.kept % 256) + 65536 * (g.frame % 65536))
        { s with nha := { s.nha with groups := mapPut r { g with told := true } s.nha.groups } }
  | none => s

/-- A block of a frame of a source begins: the group before it is done. -/
def enterGroup (r frame : Nat) (s : State) : State :=
  match s.nha.groups.find? fun e => e.1 = r with
  | some (_, g) =>
    if g.frame = frame then s
    else
      let s := tellGroup r s
      { s with nha := { s.nha with
        groups := mapPut r { frame := frame } s.nha.groups
        blocks := s.nha.blocks.filter fun b => b.source ≠ r || b.frame = frame } }
  | none => { s with nha := { s.nha with groups := mapPut r { frame := frame } s.nha.groups } }

/-- Note a block of a group as kept or discarded. -/
def noteBlock (b : NhaBlock) (ok : Bool) (s : State) : State :=
  let g := (s.nha.groups.find? fun e => e.1 = b.source).map (fun e => e.2) |>.getD { frame := b.frame }
  let g := if ok then { g with kept := g.kept + 1 } else { g with bad := true }
  let s := { s with nha := { s.nha with groups := mapPut b.source g s.nha.groups } }
  -- the group's last line, by the source's SPAN, ends it
  if max 1 (s.get NHA_RSRC_SPAN.SPAN b.source) ≤ b.line0 + b.lines then tellGroup b.source s else s

/-- Replace a block. -/
def putBlock (b : NhaBlock) (s : State) : State :=
  { s with nha := { s.nha with blocks := (s.nha.blocks.filter fun x => ¬(x.source = b.source ∧ x.bseq = b.bseq)) ++ [b] } }

/-- Discard a block, counted in NHA_LATE (R459). -/
def dropBlock (b : NhaBlock) (s : State) : State :=
  noteBlock b false (putBlock { b with ended := true } (s.count NHA_LATE.COUNT))

/-- The print position at a corrected time, by linear interpolation in the history; none outside its span (R459). -/
def historyAt (s : State) (t : Nat) : Option Int :=
  let h := s.pos.history
  let later := (h.filter fun e => t ≤ e.1).getLast?
  let before := h.find? fun e => e.1 ≤ t
  match later, before with
  | some a, some b => if a.1 = b.1 then some a.2 else some (b.2 + tdiv ((a.2 - b.2) * ((t : Int) - b.1)) ((a.1 : Int) - b.1))
  | _, _ => none

/-- EXPO as a full corrected time, the one nearest to now. -/
def fullTime (s : State) (t48 : Nat) : Nat := wrap 64 ((s.now : Int) + s.until48 t48)

/-- The rows of a block's column that are not excluded: page, row and image column. -/
def blockRows' (s : State) (c : Nat) (xe : Int) (b : NhaBlock) (x : Nat) : List Spot :=
  (List.range b.lines).map fun i => placeSample s c xe x (b.line0 + i)

/-- Share the measured amount of a block's column among the printing nozzles of its rows (R459). -/
def shareColumn (c : Nat) (xe : Int) (b : NhaBlock) (x mean : Nat) (s : State) : State :=
  let spots := blockRows' s c xe b x
  let s := each (fun t s => match t with | .excluded e => exclude e s | _ => s) spots s
  -- nozzle, ring row and code of each row that some nozzle prints
  let rows := spots.filterMap fun t => match t with
    | .row p r col =>
      let bank := (rowBank s (p.base + r)).1
      (printingNozzle s bank col r).map fun n => (n, p.base + r, expectedCode s p bank col r)
    | _ => none
  let total := rows.foldl (fun m e => m + volume s e.2.2) 0
  let amount := mean * b.lines
  each (fun e s =>
    let v := volume s e.2.2
    let share := if total = 0 then amount / rows.length else amount * v / total
    addSums e.1 e.2.1 (fun t => { t with se := t.se + v, sm := t.sm + share, nd := t.nd + b2n (e.2.2 ≠ 0) }) s) rows s

/-- A complete block is placed and adds to its nozzles, or is discarded (R459). -/
def useBlock (b : NhaBlock) (s : State) : State :=
  match historyAt s (fullTime s b.expo) with
  | none => dropBlock b s
  | some xe =>
    let s := (putBlock { b with ended := true } s).count NHA_RSRC_BLOCKS.COUNT b.source
    let s := each (fun e s => each (fun i s => shareColumn (b.source + 4) xe b (e.2.1 + i) (e.2.2.getD i 0) s) (List.range e.2.2.length) s) b.cells s
    noteBlock b true s

/-- The block has every cell up to its last. -/
def blockWhole (b : NhaBlock) : Bool :=
  match b.last with
  | some n => (List.range (n + 1)).all fun i => b.cells.any fun e => e.1 = i
  | none => false

/-- A cell of a block joins it (Table 16.2). -/
def joinBlock (b : NhaBlock) (d : List Byte) (s : State) : State :=
  let part := beAt d 17 1
  let i := part % 128
  let count := beAt d 20 1
  if b.ended then s
  else if b.cells.any fun e => e.1 = i then dropBlock b s
  else
    let b := { b with
      cells := b.cells ++ [(i, beAt d 18 2, (List.range count).map fun k => beAt d (24 + 2 * k) 2)]
      last := if 128 ≤ part then some i else b.last }
    if blockWhole b then useBlock b s else putBlock b s

/-- NOZZLE_REPORT_RX (R459): the payload of a cell from a node. -/
def nozzleReport (src : Nat) (d : List Byte) (s : State) : State :=
  if beAt d 0 1 ≠ 1 ∨ ¬s.is NHA_CTL.EN then s
  else match remoteSource s src (beAt d 1 1 % 4) with
    | none => s
    | some r =>
      let s := enterGroup r (beAt d 10 4) s
      let b := (s.nha.blocks.find? fun b => b.source = r && b.bseq = beAt d 2 2).getD
        { source := r, bseq := beAt d 2 2, expo := beAt d 4 6, frame := beAt d 10 4, line0 := beAt d 14 2, lines := beAt d 16 1 }
      joinBlock b d s

/-- NHA_REPORT_TIMEOUT (R459): a block is not complete 1 ms after its first cell. -/
def reportTimeout (r bseq : Nat) (s : State) : State :=
  match s.nha.blocks.find? fun b => b.source = r && b.bseq = bseq && !b.ended with
  | some b => dropBlock b s
  | none => s

/-- NHA_RWAIT_EXPIRY (R441): NHA_RWAIT has passed since ring row q passed a remote source's far line. -/
def rwaitExpiry (r q : Nat) (s : State) : State :=
  let gone : Bool := match pageOfRow s q with
    | some p => (q - p.base : Int) < rowsPassed p (posQ16 s s.pos.last s.now) (farLine s (r + 4))
    | none => false
  if gone then
    nhaReadBack { s with nha := { s.nha with passed := mapSet 0 r (max (q + 1) (mapGet 0 s.nha.passed r)) s.nha.passed } }
  else s

/-! ### INSPECT_SET and the registers (R440, R456, R462, R463) -/

/-- INSPECT_SET at step 10. -/
def inspectOk (ps : List Byte) : Bool := ps.length = 12 && beAt ps 0 4 < 8

/-- INSPECT_SET at step 13 (R440). -/
def inspectSet (ps : List Byte) (s : State) : Res :=
  let f := beAt ps 0 4
  let s := ((s.putB NHA_CTL.EN (bit f 0)).putB NHA_CTL.NOMASK (bit f 1)).put NHA_HEAD_MASK.MASK (beAt ps 4 8)
  ok (onlyIf (bit f 2) nhaRestart s)

/-- A write of EN of a local port or a remote source (R456, R463): BUSY while armed. -/
def sourceEnable (c : Nat) (en : Bool) (s : State) : State :=
  let s := if c < 4 then s.putB NHA_CAM_CFG.EN en c else s.putB NHA_RSRC_CFG.EN en (c - 4)
  nhaRestart s

/-- PD_VAT is lost: statistics and geometry go with it. -/
def nhaLost (s : State) : State := { s with nha := {} }

/-! ### The commands of this chapter -/

/-- NHA_GROUP_ANALYSE (R443). -/
def execNhaGroupAnalyse (port : Fin 4) (s : State) : Host.Outcome State Fault Refusal := .next (groupAnalyse port.val s)

/-- NOZZLE_REPORT_RX (R459): a whole cell. -/
def execNozzleReportRx (cell : List Byte) (s : State) : Host.Outcome State Fault Refusal :=
  .next (nozzleReport (beAt cell 2 2 % 1024) (cell.drop 8) s)

/-- NHA_REPORT_TIMEOUT (R459). -/
def execNhaReportTimeout (source : Fin 4) (bseq : BitVec 16) (s : State) : Host.Outcome State Fault Refusal :=
  .next (reportTimeout source.val bseq.toNat s)

/-- NHA_RWAIT_EXPIRY (R441). -/
def execNhaRwaitExpiry (source : Fin 4) (q : BitVec 48) (s : State) : Host.Outcome State Fault Refusal :=
  .next (rwaitExpiry source.val q.toNat s)

/-- NHA_WINDOW_CLOSE (R450). -/
def execNhaWindowClose (s : State) : Host.Outcome State Fault Refusal := .next (windowClose s)

/-- NHA_LAG_TIMEOUT (R461). -/
def execNhaLagTimeout (s : State) : Host.Outcome State Fault Refusal :=
  .next (onlyIf (camPorts.any fun c => !(s.camPort c).waiting.isEmpty) (fun s => s.put NHA_STATUS.LAG 1) s)

end Sys2Proof.Machine
end

