-- ==== Sys2Proof/Machine/Cal.lean ====
section
/-! DEFINITION. Ripening: runs, what each item computes, the plausibility checks and how results are applied (chapter 14). -/

namespace Sys2Proof.Machine

/-! ### Falling due (R394) -/

/-- A SINCOS item exists for channel n (R393). -/
def calHasSincos (s : State) (n : Nat) : Bool := n < 4 && s.is POS_CTL.EN n && s.get POS_CTL.MODE n = 1

/-- The temperature of a channel's source: an NTC input, or the die. -/
def calSource (s : State) (n : Nat) : Int :=
  if s.get CAL_POS_CFG.SRC n < 8 then s.getS LAMP_NTC.TEMP (s.get CAL_POS_CFG.SRC n) else s.getS SYS_TEMP.MAX

/-- Two temperatures lie more than a threshold apart; a threshold of 0 acts as 1. -/
def calMoved (a b : Int) (limit : Nat) : Bool := max 1 limit < (a - b).natAbs

/-- The die has moved from a head's reference. -/
def calDieMoved (s : State) (h : Nat) : Bool := calMoved (s.getS SYS_TEMP.MAX) (s.getS CAL_HEAD_TREF.DIE h) (s.get CAL_THRESH.DIE)

/-- A head has moved from its references. -/
def calHeadMoved (s : State) (h : Nat) : Bool :=
  calMoved (headMean s h) (s.getS CAL_HEAD_TREF.HEAD h) (s.get CAL_THRESH.HEAD) || calDieMoved s h

/-- A channel's source has moved from its reference. -/
def calChanMoved (s : State) (n : Nat) : Bool := calMoved (calSource s n) (s.getS CAL_POS_CFG.TREF n) (s.get CAL_THRESH.ENC)

/-- Judge one head. -/
def calHeadCheck (h : Nat) (s : State) : State :=
  if calLink s h && calHeadMoved s h && !bit (s.get CAL_DUE.DUE) h then
    raise EV_CAL_DUE (h + 512 * b2n (calDieMoved s h)) (s.putBit CAL_DUE.DUE h true)
  else s

/-- Judge one channel. -/
def calChanCheck (n : Nat) (s : State) : State :=
  if calHasSincos s n && calChanMoved s n && !bit (s.get CAL_DUE_POS.DUE) n then
    raise EV_CAL_DUE (n + 256) (s.putBit CAL_DUE_POS.DUE n true)
  else s

/-- CAL_TEMP_CHECK. -/
def calTempCheck (s : State) : State := each calChanCheck allChans (each calHeadCheck allHeads s)

/-! ### The fields that show a run -/

/-- The item governs a register with a STALE flag: set or clear it (R404). -/
def calStale (code idx : Nat) (b : Bool) (s : State) : State :=
  match code with
  | 0 => s.putB HL_FIRE_DELAY.STALE b idx
  | 1 => s.putB HL_RX_PHASE.STALE b idx
  | 3 => s.putB POS_SC_PHASE.STALE b idx
  | _ => s

/-- CAL_STATUS. -/
def calShow (s : State) : State :=
  match s.cal.run with
  | none => ((s.put CAL_STATUS.LEFT 0).put CAL_STATUS.AUTO 0).put CAL_STATUS.RUNNING 0
  | some r => ((s.put CAL_STATUS.LEFT r.items.length).putB CAL_STATUS.AUTO (!r.byCmd)).put CAL_STATUS.RUNNING 1

/-- What is kept of a head's results. -/
def State.calView (s : State) (h : Nat) : CalView := mapGet {} s.cal.views h

/-- Replace what is kept of a head's results. -/
def State.setCalView (s : State) (h : Nat) (v : CalView) : State := { s with cal := { s.cal with views := mapSet {} h v s.cal.views } }

/-- CAL_HEADh_RES in the view that CAL_CTL.VIEW selects (R410). -/
def calShowHead (h : Nat) (s : State) : State :=
  let v := s.calView h
  let q := s.is CAL_CTL.VIEW
  ((s.put CAL_HEAD_RES.FIRE (if q then v.resid else v.tap) h).put CAL_HEAD_RES.PHASE (if q then v.eye else v.phase) h).put
    CAL_HEAD_RES.TRIM (if q then v.nominal else v.trim) h

/-- CAL_POSn_RES in the selected view. -/
def calShowChan (n : Nat) (s : State) : State :=
  let v := mapGet (0, 0) s.cal.chanViews n
  s.put CAL_POS_RES.VALUE (if s.is CAL_CTL.VIEW then v.2 else v.1) n

/-- A write of CAL_CTL changes the view. -/
def calShowAll (s : State) : State := each calShowChan allChans (each calShowHead allHeads s)

/-! ### The end of a run (R394, R398, R408) -/

/-- Record a covered head's references; it is no longer due. -/
def calCoverHead (h : Nat) (s : State) : State :=
  ((s.putS CAL_HEAD_TREF.HEAD (headMean s h) h).putS CAL_HEAD_TREF.DIE (s.getS SYS_TEMP.MAX) h).putBit CAL_DUE.DUE h false

/-- Record a covered channel's reference; it is no longer due unless its item was skipped. -/
def calCoverChan (skipped : List Nat) (n : Nat) (s : State) : State :=
  let s := s.putS CAL_POS_CFG.TREF (calSource s n) n
  if skipped.contains n then s else s.putBit CAL_DUE_POS.DUE n false

/-- Write a head's calibration record (Table 20.4). -/
def calStoreHead (h : Nat) (s : State) : State :=
  let serial := s.get HL_ID_SERIAL.SERIAL h
  nvmReplace 1 (fun r => nvmRecord s 1 r 4 8 = serial)
    (leBytes 8 serial ++ leBytes 1 (s.get CAL_HEAD_TAP.BASE h) ++ zeros 1 ++ leBytes 2 (s.get CAL_HEAD_TAP.T_BASE h)
      ++ leBytes 2 (s.get CAL_HEAD_MODEL.TC h) ++ leBytes 2 (s.get CAL_HEAD_MODEL.RNOM h) ++ zeros 12) s

/-- Write a channel's calibration record. -/
def calStoreChan (n : Nat) (s : State) : State :=
  if nvmRoom s then
    let q := nvmNext s 2
    let (os, oc, gs, gc, ph) := ((s.chan n).coef).getD (s.get POS_SC_OFS.OFS_S n, s.get POS_SC_OFS.OFS_C n,
      s.get POS_SC_GAIN.GAIN_S n, s.get POS_SC_GAIN.GAIN_C n, s.get POS_SC_PHASE.PHASE n)
    let body := leBytes 1 n ++ zeros 1 ++ leBytes 2 os ++ leBytes 2 oc ++ leBytes 2 gs ++ leBytes 2 gc ++ leBytes 2 ph ++ zeros 16
    nvmSetNext 2 (q + 1) (nvmPush (nvmJobAt (6528 * 64 + 32 * n) (leBytes 4 q ++ body)) s)
  else s.count NVM_DROPPED.COUNT

/-- The INFO of CAL_DONE (Table 14.5). -/
def calDoneInfo (r : CalRun) : Nat :=
  b2n r.byCmd + 2 * b2n r.forced.isSome + 256 * min 255 r.rejected + 65536 * min 255 r.skipped + 16777216 * min 255 r.overridden

/-- The run ends: CAL_DONE is raised once its last item has ended. -/
def calRunEnd (r : CalRun) (s : State) : State :=
  let s := calShow { s with cal := { s.cal with run := none } }
  let s := each (calCoverChan r.chansSkipped) r.chans (each calCoverHead r.heads s)
  let s := onlyIf (s.is CAL_CTL.STORE) (fun s => each calStoreChan r.chansDone (each calStoreHead r.headsDone s)) s
  raise CAL_DONE (calDoneInfo r) (s.count CAL_RUNS.COUNT)

/-! ### The start of a run (R395 to R398) -/

/-- The four readings of a head. -/
def calReadings (s : State) (h : Nat) : List Int := [0, 1, 2, 3].map fun i => slotTemp s h i

/-- The items of codes for a head. -/
def calHeadItems (s : State) (codes : List Nat) (forced : Bool) (h : Nat) : List CalItem :=
  (codes.filter fun c => c < 3).map fun c =>
    { code := c, idx := h, free := forced || (c = 2 && s.cal.after.contains h) }

/-- Start a run of item codes for heads and channels: the snapshot is taken and the STALE flags are set. -/
def calStart (byCmd : Bool) (forced : Option Nat) (codes heads chans : List Nat) (s : State) : State :=
  let hItems := (heads.map (calHeadItems s codes forced.isSome)).flatten
  let cItems : List CalItem := if codes.contains 3 then chans.map fun n => { code := 3, idx := n } else []
  let items := hItems ++ cItems
  let r : CalRun := { items := items, byCmd := byCmd, forced := forced, heads := if hItems = [] then [] else heads
                      chans := cItems.map CalItem.idx, temps := heads.map fun h => (h, calReadings s h) }
  let s := { s with cal := { s.cal with run := some r, after := s.cal.after.filter fun h => !r.heads.contains h } }
  let s := each (fun i s => calStale i.code i.idx true s) items s
  let s := each (fun i s => s.setChan i.idx { s.chan i.idx with samples := some [] }) cItems s
  if items = [] then calRunEnd r s else calShow s

/-- The item codes of a mask. -/
def calCodes (m : Nat) : List Nat := [0, 1, 2, 3].filter fun c => bit m c

/-- The heads that an automatic run covers. -/
def calAutoHeads (s : State) : List Nat :=
  if s.get CAL_CTL.AUTO_EN % 8 = 0 then [] else allHeads.filter fun h => bit (s.get CAL_DUE.DUE) h && calLink s h

/-- The channels that an automatic run covers. -/
def calAutoChans (s : State) : List Nat :=
  if bit (s.get CAL_CTL.AUTO_EN) 3 then
    allChans.filter fun n => bit (s.get CAL_DUE_POS.DUE) n && calHasSincos s n && mapGet 0 s.cal.notBefore n ≤ s.time.raw
  else []

/-- CAL_AUTO_RUN_START. -/
def calAutoRun (s : State) : State :=
  let hs := calAutoHeads s
  let cs := calAutoChans s
  if s.cal.run ≠ none ∨ (hs = [] ∧ cs = []) ∨ ¬s.on 1 then s
  else calStart false none (calCodes (s.get CAL_CTL.AUTO_EN)) hs cs s

/-- CAL_FORCED_RUN_START: the first head that waits. -/
def calForcedRun (s : State) : State :=
  match s.cal.forced with
  | [] => s
  | h :: rest =>
    if s.cal.run ≠ none ∨ ¬s.on 1 then s
    else calStart false (some h) [0, 1, 2] [h] [] { s with cal := { s.cal with forced := rest } }

/-- A named head or channel of CAL_RUN cannot run (R396). -/
def calRunBad (s : State) (heads chans items : Nat) : Bool :=
  items % 256 = 0 || (heads = 0 && chans = 0)
    || allHeads.any (fun h => bit heads h && !calLink s h)
    || (List.range 8).any (fun n => bit chans n && !calHasSincos s n)

/-- The action of CAL_RUN (R396). -/
def calRunCmd (_ : Env) (ps : List Byte) (s : State) : Res :=
  let heads := beAt ps 0 8
  let chans := beAt ps 8 1
  let items := beAt ps 9 1
  if s.cal.run ≠ none then no stBusy s
  else if calRunBad s heads chans items then no stBadParam s
  else ok (calStart true none (calCodes items) (allHeads.filter fun h => bit heads h) (allChans.filter fun n => bit chans n) s)

/-- The parameters of CAL_RUN: the reserved bytes are 0. -/
def calRunOk (ps : List Byte) : Bool := ps.length = 16 && beAt ps 10 6 = 0

/-! ### What each item computes (R399 to R402) -/

/-- tap_q8 of R399. -/
def tapQ8 (base t tBase tc : Int) : Int := base * 256 + tdiv (tc * (t - tBase)) 16

/-- The tap of R399, rounded to nearest. -/
def tapOf (q8 : Int) : Int := asr (q8 + 128) 8

/-- The residual of R399 in ps. -/
def tapResid (q8 : Int) : Nat := (q8 - tapOf q8 * 256).natAbs * 500 / 256

/-- trim_of of R401, for a nominal resistance other than 0. -/
def trimOf (res25 : Nat) (t tcr : Int) (rnom : Nat) : Int :=
  let rt := tdiv ((res25 : Int) * (16000000 + tcr * (t - 400)) + 8000000) 16000000
  tdiv (rt * 512 + rnom) (2 * rnom) - 256

/-- A nozzle's result at HL_MEAS_ADDR, where it is valid (R401). -/
def calResult (s : State) (n : Nat) : Option Nat :=
  let v := s.le (s.get HL_MEAS_ADDR.ADDR + 2 * n) 2
  if s.is CAL_CTL.USE_MEAS ∧ s.cal.measured.contains (n / 2048) ∧ ¬mapGet false s.cal.spoiled n ∧ 1 ≤ v ∧ v ≤ 0xFFFC then some v else none

/-- The nozzles of a head that TRIM computes: neither ZERO nor MASKED in the live table. -/
def calNozzles (s : State) (h : Nat) : List Nat :=
  if s.is NMAP_STATUS.TABLE then
    ((List.range 2048).map fun i => 2048 * h + i).filter fun n => !isZero s (liveBase s) n && !nzMasked (nz s (liveBase s) n)
  else []

/-- A nozzle's live trim. -/
def liveTrim (s : State) (n : Nat) : Int := sext 6 (s.le (liveBase s + 0x10000 + n) 1)

/-- The trims of nozzles from the snapshot. With RNOM 0 the spec states no quotient, and the value is free. -/
def calTrims (h : Nat) (temps : List Int) : List Nat → State → List (Nat × Int) × State
  | [], s => ([], s)
  | n :: ns, s =>
    let rnom := s.get CAL_HEAD_MODEL.RNOM h
    let tcr : Int := if factoryOk s h then sext 16 (idField s h 0x1C 2) else 0
    let t := temps.getD (n % 2048 / 512) 0
    let (v, s1) := if rnom = 0 then let (d, s') := s.draw 32; (sext 32 d, s')
      else (trimOf ((calResult s n).getD rnom) t tcr rnom, s)
    let (l, s2) := calTrims h temps ns s1
    ((n, v) :: l, s2)

/-- A sample with the index of its signal period, from the angles under the coefficients in force. -/
def calPeriods (s : State) (n : Nat) : List (Int × Int) → Option (Nat × Int) → List (Int × (Int × Int))
  | [], _ => []
  | x :: xs, last =>
    let p := posCorrect s n x.1 x.2
    let a := angle12 p.1 p.2
    let pos : Int := match last with
      | none => a
      | some (a0, p0) => p0 + narrow 12 ((a : Int) - a0)
    (pos / 4096, x) :: calPeriods s n xs (some (a, pos))

/-- The whole signal periods of the samples collected: those that lie between the lowest and the highest period reached. -/
def calWhole (l : List (Int × (Int × Int))) : List (List (Int × Int)) :=
  let ks := l.map Prod.fst
  let lo := ks.foldl min (ks.headD 0)
  let hi := ks.foldl max (ks.headD 0)
  let mid := (ks.filter fun k => lo < k && k < hi).eraseDups
  mid.map fun k => (l.filter fun e => e.1 = k).map Prod.snd

/-- The mean of a list, truncated toward zero. -/
def meanI (l : List Int) : Int := tdiv (l.foldl (· + ·) 0) l.length

/-- The largest of a list. -/
def maxI (l : List Int) : Int := l.foldl max (l.headD 0)

/-- The smallest of a list. -/
def minI (l : List Int) : Int := l.foldl min (l.headD 0)

/-- The mean over the whole periods of half the sum of the extremes. -/
def calOffset (f : Int × Int → Int) (ps : List (List (Int × Int))) : Int :=
  meanI (ps.map fun p => tdiv (maxI (p.map f) + minI (p.map f)) 2)

/-- The mean over the whole periods of half their difference. -/
def calAmplitude (f : Int × Int → Int) (ps : List (List (Int × Int))) : Int :=
  meanI (ps.map fun p => tdiv (maxI (p.map f) - minI (p.map f)) 2)

/-- A gain of R402, a u16; of an amplitude of 0 the spec states none, and the value is free. -/
def calGain (a : Int) (s : State) : Nat × State :=
  if a = 0 then s.draw 16 else (wrap 16 (tdiv ((20480 * 16384 : Nat) : Int) a), s)

/-- phi of R402; where every corrected sample is 0 the spec states none, and the value is free. -/
def calPhi (l : List (Int × Int)) (s : State) : Int × State :=
  let num := 2 * l.foldl (fun m p => m + p.1 * p.2) 0
  let den := l.foldl (fun m p => m + p.1 * p.1 + p.2 * p.2) 0
  if den = 0 then let (d, s) := s.draw 16; (sext 16 d, s) else (narrow 16 (asin15 (num * trigOne / den)), s)

/-- The radius of a corrected pair, in 2^-16. -/
def calRadius (p : Int × Int) : Nat := isqrt ((p.1 * p.1 + p.2 * p.2).toNat * 2 ^ 32)

/-- Q of R402 in 1/256 count: 42,722,829 is 4,096 x 256 / (2 pi) in 2^-8. A mean radius of 0 leaves it free. -/
def calQ (l : List (Int × Int)) (s : State) : Nat × State :=
  let rs := l.map calRadius
  let mean := rs.foldl (· + ·) 0 / max 1 rs.length
  if mean = 0 then s.draw 16
  else
    let var := rs.foldl (fun (m r : Nat) => m + ((r : Int) - (mean : Int)).natAbs ^ 2) 0 / max 1 rs.length
    (min 65535 (isqrt (var * 42722829 ^ 2) / (mean * 256)), s)

/-- What a SINCOS item has computed. -/
structure ScResult where
  /-- The offset of the sine. -/
  ofsS : Int
  /-- The offset of the cosine. -/
  ofsC : Int
  /-- The gain of the sine. -/
  gainS : Nat
  /-- The gain of the cosine. -/
  gainC : Nat
  /-- The phase correction. -/
  phi : Int
  /-- The quality figure. -/
  q : Nat
  deriving DecidableEq, Repr

/-- R402 over the whole periods of the window. -/
def calSincos (ps : List (List (Int × Int))) (s : State) : ScResult × State :=
  let os := narrow 16 (calOffset Prod.fst ps)
  let oc := narrow 16 (calOffset Prod.snd ps)
  let (gs, s) := calGain (calAmplitude Prod.fst ps) s
  let (gc, s) := calGain (calAmplitude Prod.snd ps) s
  let all := ps.flatten
  let (phi, s) := calPhi (all.map fun x => scCorrect x.1 x.2 os oc gs gc 0) s
  let (q, s) := calQ (all.map fun x => scCorrect x.1 x.2 os oc gs gc phi) s
  ({ ofsS := os, ofsC := oc, gainS := gs, gainC := gc, phi := phi, q := q }, s)

/-! ### Plausibility and applying (R403 to R406) -/

/-- No TEMP block from the head within 10 ms (Table 14.2). -/
def calNoTemp (s : State) (h : Nat) : Bool :=
  match (s.head h).tempAt with
  | some t => t + 10000000 < s.time.raw
  | none => true

/-- The result code of an item that has ended, in its register. -/
def calCode (i : CalItem) (code reason : Nat) (s : State) : State :=
  let s := match i.code with
    | 0 => s.put CAL_HEAD_RES.FIRE_R code i.idx
    | 1 => s.put CAL_HEAD_RES.PHASE_R code i.idx
    | 2 => s.put CAL_HEAD_RES.TRIM_R code i.idx
    | _ => s.put CAL_POS_RES.SC_R code i.idx
  if reason = 0 then s
  else if i.code < 3 then s.put CAL_HEAD_RES.REASON reason i.idx else s.put CAL_POS_RES.REASON reason i.idx

/-- Change the run in progress. -/
def calNote (f : CalRun → CalRun) (s : State) : State := { s with cal := { s.cal with run := s.cal.run.map f } }

/-- The INFO of CAL_REJECT (Table 14.5). -/
def calRejectInfo (i : CalItem) (reason : Nat) : Nat := i.idx + 256 * b2n (i.code = 3) + 512 * i.code + 4096 * reason

/-- A rejected item changes no output (R403). -/
def calReject (i : CalItem) (reason : Nat) (s : State) : State :=
  let s := calNote (fun r => { r with rejected := r.rejected + 1 }) (calCode i 2 reason s)
  raise CAL_REJECT (calRejectInfo i reason) (s.count CAL_REJECTS.COUNT)

/-- An accepted item is one that the run's end stores. -/
def calAccept (i : CalItem) (s : State) : State :=
  calNote (fun r => if i.code = 3 then { r with chansDone := r.chansDone ++ [i.idx] }
    else { r with headsDone := (r.headsDone ++ [i.idx]).eraseDups }) (calCode i 1 0 s)

/-- An overridden result is discarded (R405). -/
def calDiscard (i : CalItem) (s : State) : State :=
  calNote (fun r => { r with overridden := r.overridden + 1 }) (calCode i 3 0 s)

/-- How an item ends: discarded, rejected with its first failure, or accepted and applied. -/
def calFinish (i : CalItem) (reason : Nat) (apply : State → State) (s : State) : State :=
  if i.ended then calDiscard i s else if reason ≠ 0 then calReject i reason s else calAccept i (apply s)

/-- The snapshot of a head. -/
def calTemps (r : CalRun) (h : Nat) : List Int := mapGet [0, 0, 0, 0] r.temps h

/-- FIRE_TAP ends. -/
def calFire (i : CalItem) (temps : List Int) (s : State) : State :=
  let h := i.idx
  let t := tdiv (temps.foldl (· + ·) 0) 4
  let q8 := tapQ8 (s.get CAL_HEAD_TAP.BASE h) t (s.getS CAL_HEAD_TAP.T_BASE h) (s.getS CAL_HEAD_MODEL.TC h)
  let tap := tapOf q8
  let old : Int := s.get HL_FIRE_DELAY.TAP h
  let s := calShowHead h (s.setCalView h { s.calView h with tap := (clampI tap 0 255).toNat, resid := min 255 (tapResid q8 / 2) })
  let reason := if tap < 0 ∨ 255 < tap then 1
    else if ¬i.free ∧ s.get CAL_LIMIT_HEAD.TAP_STEP < (tap - old).natAbs then 2
    else if calNoTemp s h then 5 else 0
  calFinish i reason (fun s => s.putS HL_FIRE_DELAY.TAP tap h) s

/-- RX_PHASE ends, with the positions that showed no disagreement. -/
def calPhase (i : CalItem) (free : Nat) (s : State) : State :=
  let h := i.idx
  let run := longestRun free
  let (tap, s) := if run.2 = 0 then s.draw 6 else (run.1 + (run.2 - 1) / 2, s)
  let old : Int := s.get HL_RX_PHASE.TAP h
  let s := calShowHead h (s.setCalView h { s.calView h with phase := tap, eye := run.2 % 64 })
  let reason := if ¬i.free ∧ s.get CAL_LIMIT_HEAD.PHASE_STEP < ((tap : Int) - old).natAbs then 2
    else if run.2 < s.get CAL_LIMIT_HEAD.MIN_EYE then 3
    else if i.left then 5 else 0
  calFinish i reason (fun s => (s.put HL_RX_PHASE.TAP tap h).put HL_RX_PHASE.EYE run.2 h) s

/-- The trim bytes of a head with new trims in place. -/
def calImage (s : State) (h : Nat) (trims : List (Nat × Int)) : List Byte :=
  trims.foldl (fun l e => l.set (e.1 % 2048) (BitVec.ofNat 8 (wrap 6 e.2))) (s.bytes (liveBase s + 0x10000 + 2048 * h) 2048)

/-- TRIM ends: it is checked and applied for the head as a whole. -/
def calTrim (i : CalItem) (temps : List Int) (s : State) : State :=
  let h := i.idx
  let (trims, s) := calTrims h temps (calNozzles s h) s
  let most := trims.foldl (fun m e => max m e.2.natAbs) 0
  let nominal := (trims.filter fun e => (calResult s e.1).isNone).length
  let s := calShowHead h (s.setCalView h { s.calView h with trim := min 255 most, nominal := min 255 nominal })
  let live := s
  let reason := if trims.any fun e => e.2 < -32 || 31 < e.2 then 1
    else if ¬i.free ∧ (trims.any fun e => s.get CAL_LIMIT_HEAD.TRIM_STEP < (e.2 - liveTrim live e.1).natAbs) then 2
    else if calNoTemp s h then 5 else 0
  let changed : Bool := trims.any fun e => e.2 ≠ liveTrim live e.1
  calFinish i reason (fun s => onlyIf changed (queueTrims h (calImage live h trims)) s) s

/-- The sine/cosine coefficients break a range (Table 14.2). -/
def scRangeBad (r : ScResult) : Bool :=
  2048 < r.ofsS.natAbs || 2048 < r.ofsC.natAbs || r.gainS < 0x2000 || 0x8000 < r.gainS || r.gainC < 0x2000 || 0x8000 < r.gainC
    || 3277 < r.phi.natAbs

/-- The sine/cosine coefficients lie more than a step from those in force. -/
def scStepBad (s : State) (n : Nat) (r : ScResult) : Bool :=
  512 < (r.ofsS - s.getS POS_SC_OFS.OFS_S n).natAbs || 512 < (r.ofsC - s.getS POS_SC_OFS.OFS_C n).natAbs
    || 0x800 < ((r.gainS : Int) - s.get POS_SC_GAIN.GAIN_S n).natAbs || 0x800 < ((r.gainC : Int) - s.get POS_SC_GAIN.GAIN_C n).natAbs
    || 655 < (r.phi - s.getS POS_SC_PHASE.PHASE n).natAbs

/-- A SINCOS item is skipped: its channel stays due, and no automatic run for it starts within 1 s (R403). -/
def calSkip (i : CalItem) (s : State) : State :=
  let s := calNote (fun r => { r with skipped := r.skipped + 1, chansSkipped := r.chansSkipped ++ [i.idx] }) (calCode i 4 0 s)
  { s with cal := { s.cal with notBefore := mapSet 0 i.idx (s.time.raw + 1000000000) s.cal.notBefore } }

/-- Show what a SINCOS item has computed (Table 14.4). -/
def calShowSc (n : Nat) (r : ScResult) (s : State) : State :=
  let s := ((s.putS CAL_POS_OFS.OFS_S r.ofsS n).putS CAL_POS_OFS.OFS_C r.ofsC n).put CAL_POS_GAIN.GAIN_S r.gainS n
  let s := s.put CAL_POS_GAIN.GAIN_C r.gainC n
  calShowChan n { s with cal := { s.cal with chanViews := mapSet (0, 0) n (wrap 16 r.phi, r.q) s.cal.chanViews } }

/-- SINCOS ends with the samples of its window. -/
def calChan (i : CalItem) (s : State) : State :=
  let n := i.idx
  match (s.chan n).samples with
  | none => if i.ended then calDiscard i s else calSkip i s
  | some l =>
    let s := s.setChan n { s.chan n with samples := none }
    let ps := calWhole (calPeriods s n l.reverse none)
    if ps.length < s.get CAL_LIMIT_SC.MIN_PERIODS ∨ ps = [] then if i.ended then calDiscard i s else calSkip i s
    else
      let (r, s) := calSincos ps s
      let s := calShowSc n r s
      let reason := if scRangeBad r then 1 else if scStepBad s n r then 2 else if s.get CAL_LIMIT_SC.RES_MAX < r.q then 4 else 0
      calFinish i reason (fun s => s.setChan n { s.chan n with
        coef := some (wrap 16 r.ofsS, wrap 16 r.ofsC, r.gainS, r.gainC, wrap 16 r.phi) }) s

/-- FIRST becomes 1 once the items of a forced run have ended (R397). -/
def calFirst (r : CalRun) (s : State) : State :=
  match r.forced with
  | some h => if r.items.all fun i => i.idx ≠ h then s.putBit CAL_FIRST.FIRST h true else s
  | none => s

/-- CAL_ITEM_END: an item of the run in progress ends. -/
def calItemEnd (code idx agree : Nat) (s : State) : State :=
  match s.cal.run with
  | none => s
  | some r =>
    match r.items.find? fun i => i.code = code && i.idx = idx with
    | none => s
    | some i =>
      let s := calNote (fun r => { r with items := r.items.filter fun j => j.code ≠ code || j.idx ≠ idx }) s
      let s := onlyIf (!i.ended) (calStale code idx false) s
      let s := match code with
        | 0 => calFire i (calTemps r idx) s
        | 1 => calPhase i agree s
        | 2 => calTrim i (calTemps r idx) s
        | _ => calChan i s
      match s.cal.run with
      | none => s
      | some r =>
        let s := calFirst r s
        if r.items = [] then calRunEnd r s else calShow s

/-- R405: a host write to a governed field overrides the item of a run. -/
def calOverride (code idx : Nat) (s : State) : State :=
  match s.cal.run with
  | none => s
  | some r =>
    if r.items.any fun i => i.code = code && i.idx = idx && !i.ended then
      calStale code idx false (calNote (fun r => { r with items := r.items.map fun i => if i.code = code ∧ i.idx = idx then { i with ended := true } else i }) s)
    else s

/-- R407: DORMANT entry abandons a run in progress. -/
def calAbandon (s : State) : State :=
  let s := match s.cal.run with
    | none => s
    | some r => each (fun (i : CalItem) s => calStale i.code i.idx false
        (if i.code = 3 then s.setChan i.idx { s.chan i.idx with samples := none } else s)) r.items s
  calShow { s with cal := { s.cal with run := none, forced := [] } }

/-! ### The commands of chapter 14 -/

/-- CAL_TEMP_CHECK (R394). -/
def execCalTempCheck (s : State) : Host.Outcome State Fault Refusal := .next (if s.on 1 then calTempCheck s else s)

/-- CAL_AUTO_RUN_START (R395). -/
def execCalAutoRunStart (s : State) : Host.Outcome State Fault Refusal := .next (calAutoRun s)

/-- CAL_FORCED_RUN_START (R397). -/
def execCalForcedRunStart (s : State) : Host.Outcome State Fault Refusal := .next (calForcedRun s)

/-- CAL_ITEM_END (R403). -/
def execCalItemEnd (item : Fin 4) (index : Fin 64) (agree : BitVec 64) (s : State) : Host.Outcome State Fault Refusal :=
  .next (calItemEnd item.val index.val agree.toNat s)

end Sys2Proof.Machine
end

