-- ==== Sys2Proof/Machine/Chk.lean ====
section
/-! DEFINITION. The four check units (R532 to R538). -/

namespace Sys2Proof.Machine

/-! ### Algorithms (Table 20.1) -/

/-- The initial state of an algorithm. -/
def chkInit (alg : Nat) : Nat := if alg < 2 then 0xFFFFFFFF else if alg = 2 then 0xFFFF else 1

/-- The final exclusive-OR. -/
def chkFinal (alg : Nat) : Nat := if alg < 2 then 0xFFFFFFFF else 0

/-- Adler-32 of one more byte. -/
def adlerByte (v : Nat) (b : Byte) : Nat :=
  let a := (v % 65536 + b.toNat) % 65521
  (v / 65536 + a) % 65521 * 65536 + a

/-- The running state after one more byte. -/
def chkByte (alg v : Nat) (b : Byte) : Nat :=
  match alg with
  | 0 => crcByte 0x82F63B78 v b
  | 1 => crcByte 0xEDB88320 v b
  | 2 => crc16Byte v b
  | _ => adlerByte v b

/-- The unit's algorithm. -/
def chkAlg (s : State) (u : Nat) : Nat := s.get CHK_CTL.ALG u

/-- CHK_VALUE as it reads: with ALG 2 only bits 15 to 0 are used (R533). -/
def chkValue (s : State) (u : Nat) : Nat := if chkAlg s u = 2 then s.get CHK_VALUE.VALUE u % 65536 else s.get CHK_VALUE.VALUE u

/-- A write of CHK_VALUE: with ALG 2 the upper bits are ignored (R533). -/
def chkSetValue (u v : Nat) (s : State) : State :=
  s.put CHK_VALUE.VALUE (if chkAlg s u = 2 then insertBits (s.get CHK_VALUE.VALUE u) 0 16 v else v) u

/-- CHK_RESULT (R533). -/
def chkResult (s : State) (u : Nat) : Nat := chkValue s u ^^^ chkFinal (chkAlg s u)

/-- RESULT equals EXPECT, in bits 15 to 0 with ALG 2 (R536). -/
def chkMatches (s : State) (u : Nat) : Bool :=
  if chkAlg s u = 2 then chkResult s u % 65536 = s.get CHK_EXPECT.EXPECT u % 65536 else chkResult s u = s.get CHK_EXPECT.EXPECT u

/-- The unit is RUNNING. -/
def chkRuns (s : State) (u : Nat) : Bool := s.get CHK_STATUS.STATE u = 1

/-! ### Scans (R534, R536) -/

/-- The range lies wholly within one Vat region, one enabled DRAM access region or the rest of DRAM. -/
def chkRangeOk (s : State) (u : Nat) : Bool :=
  let a := s.get CHK_SRC.SRC u
  s.get CHK_LEN.LEN u ≠ 0 && (isVat a || isDram a) && oneSpace s a (s.get CHK_LEN.LEN u)

/-- The refusal of the DMA class for the range (R534). -/
def chkViol (u opcode : Nat) (s : State) : Option Viol := rangeViol s 4 0 1 opcode (s.get CHK_SRC.SRC u) (s.get CHK_LEN.LEN u)

/-- ALIVE repeats the value last taken. -/
def chkRepeats (s : State) (u : Nat) : Bool :=
  s.is CHK_CTL.ALIVE_EN u && s.is CHK_LAST_ALIVE.VALID u && s.get CHK_CTL.ALIVE u = s.get CHK_LAST_ALIVE.LAST u

/-- The scan starts from VALUE as it stands. -/
def chkStart (u : Nat) (s : State) : State :=
  let s := if s.is CHK_CTL.ALIVE_EN u then (s.put CHK_LAST_ALIVE.LAST (s.get CHK_CTL.ALIVE u) u).put CHK_LAST_ALIVE.VALID 1 u else s
  (((s.put CHK_DONE.DONE 0 u).put CHK_STATUS.MATCH 0 u).put CHK_STATUS.ERR 0 u).put CHK_STATUS.STATE 1 u

/-- Why a read of one byte fails (Table 8.9), or 0. -/
def chkFails (s : State) (a : Nat) : Nat :=
  if rangeAsleep s a 1 then 2
  else if (isDram a && !dramOk s a 1) || (isVat a && vatRegion a = 9) then 4
  else if eccBad s a 1 then 5 else 0

/-- Read bytes in order until one fails: the running state, the bytes processed and the reason, or 0. -/
def chkScan (alg : Nat) : Nat → Nat → Nat → State → Nat × Nat × Nat × State
  | 0, _, v, s => (v, 0, 0, s)
  | n + 1, a, v, s =>
    let r := chkFails s a
    let s1 := eccRead a 1 s
    if r ≠ 0 then (v, 0, r, s1)
    else
      let (v, done, r, s2) := chkScan alg n (a + 1) (chkByte alg v (s1.byte a)) s1
      (v, done + 1, r, s2)

/-- Process n bytes of the unit's range. -/
def chkProcess (u n : Nat) (s : State) : Nat × State :=
  let (v, done, r, s) := chkScan (chkAlg s u) n (s.get CHK_SRC.SRC u) (chkValue s u) s
  (r, (chkSetValue u v s).put CHK_DONE.DONE done u)

/-- CHK_SCAN_END (R536): every byte has been processed, or a read has failed. -/
def chkScanEnd (u : Nat) (s : State) : State :=
  if chkRuns s u then
    let (r, s) := chkProcess u (s.get CHK_LEN.LEN u) s
    if r = 0 then (s.put CHK_STATUS.STATE 2 u).putB CHK_STATUS.MATCH (chkMatches s u) u
    else (s.put CHK_STATUS.STATE 4 u).put CHK_STATUS.ERR r u
  else s

/-- A write of 1 to ABORT: how many bytes had been processed is free, and DONE and VALUE are exact for them (R536). -/
def chkAbort (u : Nat) (s : State) : State :=
  if chkRuns s u then
    let (d, s) := s.draw 32
    ((chkProcess u (d % s.get CHK_LEN.LEN u) s).2).put CHK_STATUS.STATE 3 u
  else s

/-- The fields that a write of CHK_CTL sets. -/
def chkFields (u value : Nat) (s : State) : State :=
  ((s.put CHK_CTL.ALIVE_EN (bits value 16 16) u).put CHK_CTL.ALIVE (bits value 15 8) u).put CHK_CTL.ALG (bits value 1 0) u

/-- A write of CHK_CTL would change a field that a running scan locks (R537). -/
def chkChanges (s : State) (u value : Nat) : Bool :=
  bits value 16 16 ≠ s.get CHK_CTL.ALIVE_EN u || bits value 15 8 ≠ s.get CHK_CTL.ALIVE u || bits value 1 0 ≠ chkAlg s u || bit value 29

/-- A write of CHK_CTL (R533, R534, R536, R537): its status and the state after it. -/
def chkCtlWrite (u value : Nat) (s0 : State) : Nat × State :=
  let go := bit value 31
  if chkRuns s0 u then
    if go || chkChanges s0 u value then (stBusy, s0) else (stOk, onlyIf (bit value 30) (chkAbort u) s0)
  else
    let s := chkFields u value s0
    let s := onlyIf (bit value 29) (fun s => chkSetValue u (chkInit (chkAlg s u)) s) s
    if !go then (stOk, s)
    else if !chkRangeOk s u then (stBadParam, s0)
    else if chkRepeats s u then (stRepeat, s0)
    else if (chkViol u 0 s).isSome then (stDenied, s0)
    else (stOk, chkStart u s)

/-- CHK_SCAN_END (R536). -/
def execChkScanEnd (unit : Fin 4) (s : State) : Host.Outcome State Fault Refusal := .next (chkScanEnd unit.val s)

end Sys2Proof.Machine
end

