-- ==== Sys2Proof/Machine/Nvm.lean ====
section
/-! DEFINITION. The non-volatile store: NVM_WRITE, NVM_READ and page writes (R543 to R546). -/

namespace Sys2Proof.Machine

/-! ### Areas (Table 20.3) -/

/-- The host may write the page. -/
def nvmHostPage (p : Nat) : Bool := p < 256 || (8192 ≤ p && p < 16384)

/-- The page lies in a device area. -/
def nvmDevicePage (p : Nat) : Bool := 256 ≤ p && p < 6688

/-- The page is reserved. -/
def nvmReservedPage (p : Nat) : Bool := 6688 ≤ p && p < 8192

/-! ### NVM_WRITE and NVM_READ -/

/-- The parameters of NVM_WRITE at step 10 (R543). -/
def nvmWriteOk (ps : List Byte) : Bool :=
  let count := beAt ps 2 1
  let flags := beAt ps 3 1
  count ≠ 0 && beAt ps 0 2 + count ≤ 16384 && flags < 2 && ps.length = 4 + (if bit flags 0 then 0 else 64 * count)

/-- The action of NVM_WRITE (R543). -/
def nvmWriteCmd (e : Env) (ps : List Byte) (s : State) : Res :=
  let first := beAt ps 0 2
  let count := beAt ps 2 1
  let erase := bit (beAt ps 3 1) 0
  let pages := (List.range count).map fun i => first + i
  let device : Bool := pages.any nvmDevicePage
  if s.nvm.host ≠ none then no stBusy s
  else if (!erase && pages.any fun p => !nvmHostPage p) || (erase && pages.any nvmReservedPage) then no stBadParam s
  else if erase && device && armed s then no stBusy s
  else
    let left := (List.range count).map fun i => if erase then zeros 64 else slice ps (4 + 64 * i) 64
    let job : NvmHost := { first := first, done := 0, left := left, erase := erase && device, endpoint := e.endpoint }
    ok ({ s with nvm := { s.nvm with host := some job } }.put NVM_STATUS.HOST_BUSY 1)

/-- The parameters of NVM_READ, with the COUNT limit of READ_BLOCK at the endpoint (R544). -/
def nvmReadOk (limit : Nat) (ps : List Byte) : Bool :=
  ps.length = 4 && beAt ps 2 1 ≠ 0 && beAt ps 0 2 + beAt ps 2 1 ≤ 16384 && beAt ps 3 1 = 0 && 64 * beAt ps 2 1 ≤ limit

/-- The action of NVM_READ (R544). -/
def nvmReadCmd (ps : List Byte) (s : State) : Res :=
  okWith (s.mramBytes (64 * beAt ps 0 2) (64 * beAt ps 2 1)) s

/-! ### Page writes -/

/-- The page with the highest write count, and the count: the lowest page on ties. -/
def nvmWearTop (m : List (Nat × Nat)) : Nat × Nat := m.foldl (fun b e => if b.2 < e.2 then e else b) (0, 0)

/-- NVM_WEAR_MAX and NVM_WEAR_PAGE. -/
def nvmWearShow (s : State) : State :=
  let b := nvmWearTop s.nvm.counts
  (s.put NVM_WEAR_MAX.COUNT b.2).put NVM_WEAR_PAGE.PAGE b.1

/-- A page has been written once more (R545). -/
def nvmWorn (page : Nat) (s : State) : State :=
  let n := mapGet 0 s.nvm.counts page
  let s := nvmWearShow { s with nvm := { s.nvm with counts := mapSet 0 page (n + 1) s.nvm.counts } }
  if n = s.get NVM_WEAR_CFG.THRESH then raise NVM_WEAR page s else s

/-- Free bytes. -/
def drawBytes : Nat → State → List Byte × State
  | 0, s => ([], s)
  | n + 1, s =>
    let (b, s) := s.draw 8
    let (bs, s) := drawBytes n s
    (BitVec.ofNat 8 b :: bs, s)

/-- Write bytes in a page and read them back; after a second mismatch what the page holds is free (R543). -/
def nvmPut (page off : Nat) (bs : List Byte) (firstBad secondBad : Bool) (s : State) : State :=
  let s := nvmWorn page s
  let s := onlyIf firstBad (nvmWorn page) s
  if firstBad && secondBad then
    let (fs, s) := drawBytes 64 s
    ({ s with mram := mramPut s.mram (64 * page) fs }.put NVM_STATUS.BAD_PAGE page).count NVM_VERIFY_FAIL.COUNT
  else { s with mram := mramPut s.mram (64 * page + off) bs }.count NVM_WRITES.COUNT

/-- The areas of a run of pages find their SEQ afresh (R543): 0 to 4 the rings and records, 5 the fault log. -/
def nvmRescan (first count : Nat) (s : State) : State :=
  let t : State := { s with mram := nvmAhead s }
  each (fun n s =>
    let (b, w, c) := nvmArea n
    if 64 * first < b + w * c ∧ b < 64 * (first + count) then
      nvmSetNext n (nvmHighest t n + 1) s
    else s) [0, 1, 2, 3, 4, 5] s

/-- The NVM_WRITE in progress ends (R543). -/
def nvmHostEnd (j : NvmHost) (failed : Bool) (s : State) : State :=
  let s := { s with nvm := { s.nvm with host := none } }.put NVM_STATUS.HOST_BUSY 0
  let s := onlyIf j.erase (nvmRescan j.first j.done) s
  raise NVM_WRITE_DONE (j.first + 65536 * j.done + 2 ^ 23 * b2n failed) s

/-- A page of the NVM_WRITE in progress. -/
def nvmHostPut (j : NvmHost) (firstBad secondBad : Bool) (s : State) : State :=
  match j.left with
  | [] => nvmHostEnd j false s
  | bs :: rest =>
    let s := nvmPut (j.first + j.done) 0 bs firstBad secondBad s
    if firstBad && secondBad then nvmHostEnd j true s
    else
      let j' : NvmHost := { j with done := j.done + 1, left := rest }
      if rest = [] then nvmHostEnd j' false s else { s with nvm := { s.nvm with host := some j', deviceTurn := true } }

/-- A device page write. -/
def nvmDevicePut (job : NvmJob) (rest : List NvmJob) (firstBad secondBad : Bool) (s : State) : State :=
  let s := { s with nvm := { s.nvm with queue := rest, deviceTurn := false } }.put NVM_STATUS.QUEUE rest.length
  nvmPut job.page job.off job.bytes firstBad secondBad s

/-- NVM_PAGE_WRITTEN: one page has been written; the device's own writes are placed between host pages (R543). -/
def nvmPageWritten (firstBad secondBad : Bool) (s : State) : State :=
  match s.nvm.host, s.nvm.queue with
  | none, [] => s
  | none, j :: rest => nvmDevicePut j rest firstBad secondBad s
  | some h, [] => nvmHostPut h firstBad secondBad s
  | some h, j :: rest => if s.nvm.deviceTurn then nvmDevicePut j rest firstBad secondBad s else nvmHostPut h firstBad secondBad s

/-- PD_CTL loses its power: the command in progress and the queue are gone, and what is written stays. -/
def nvmLost (s : State) : State := { s with nvm := { s.nvm with queue := [], host := none, deviceTurn := false } }

end Sys2Proof.Machine
end

