-- ==== Sys2Proof/Machine/HostLink.lean ====
section
/-! DEFINITION. The line side of the host ports: modes, LINK and HOST_CTL (R134 to R137). -/

namespace Sys2Proof.Machine

/-- LINK as the lane status and the mode in force make it (R135). -/
def hostLinked (s : State) (p : Nat) : Bool :=
  if s.get HOST_STATUS.MODE_IN_FORCE p = 1 then bit (s.get HOST_STATUS.BLOCK_LOCK p) 0 && !s.is HOST_STATUS.HI_SER p
  else s.is HOST_STATUS.ALIGN p && !s.is HOST_STATUS.HI_SER p && (!s.is HOST_CTL.FEC_EN p || s.is HOST_STATUS.FEC_LOCK p)

/-- Set LINK; every change raises HOSTp_LINK (R135). -/
def hostSetLink (p : Nat) (up : Bool) (s : State) : State :=
  if s.is HOST_STATUS.LINK p = up then s
  else raise (HOST0_LINK + p) (b2n up + 16 * s.get HOST_STATUS.MODE_IN_FORCE p) (s.putB HOST_STATUS.LINK up p)

/-- What a port's lanes show. -/
def hostLanes (p : Nat) (lock : Nat) (align fec hiSer : Bool) (s : State) : State :=
  (((s.put HOST_STATUS.BLOCK_LOCK lock p).putB HOST_STATUS.ALIGN align p).putB HOST_STATUS.FEC_LOCK fec p).putB HOST_STATUS.HI_SER hiSer p

/-- The port shows nothing on its lanes, and LINK is 0. -/
def hostDark (p : Nat) (s : State) : State := hostSetLink p false (hostLanes p 0 false false false s)

/-- The line mode that the port is in: 1 for 10GBASE-R. -/
def hostTenGig (s : State) (p : Nat) : Bool := s.get HOST_STATUS.MODE_IN_FORCE p = 1

/-- HOST_LINK_CHANGE (R135): the lanes of the mode in force change. -/
def hostLinkChange (p : Nat) (lock : Nat) (align fec hiSer tenGig : Bool) (s : State) : State :=
  if s.on 6 ∧ s.is HOST_CTL.EN p ∧ tenGig = hostTenGig s p then
    let s := hostLanes p lock (align && !tenGig) (fec && !tenGig) hiSer s
    hostSetLink p (hostLinked s p) s
  else s

/-- HOST_ALTERNATE_TIMEOUT (R135): 500 ms without LINK, and the port tries the other mode. -/
def hostAlternate (p : Nat) (s : State) : State :=
  if s.on 6 ∧ s.is HOST_CTL.EN p ∧ s.get HOST_CTL.MODE p = 2 ∧ ¬s.is HOST_STATUS.LINK p then
    hostLanes p 0 false false false (s.putB HOST_STATUS.MODE_IN_FORCE (!hostTenGig s p) p)
  else s

/-- A write of HOST_CTL would change the line while EN is 1 (R136). -/
def hostLineMoved (s : State) (p value : Nat) : Bool :=
  bits value 2 1 ≠ s.get HOST_CTL.MODE p || bits value 3 3 ≠ s.get HOST_CTL.FEC_EN p
    || bits value 7 4 ≠ s.get HOST_CTL.RX_INV p || bits value 11 8 ≠ s.get HOST_CTL.TX_INV p

/-- The mode in force of a port that starts: the alternate mode tries 100GBASE-R first (R135). -/
def hostFirstMode (mode : Nat) : Nat := if mode = 1 then 1 else 0

/-- The fields that a write of HOST_CTL sets. -/
def hostCtlFields (p value : Nat) (s : State) : State :=
  let s := ((s.put HOST_CTL.VID (bits value 27 16) p).put HOST_CTL.VLAN_EN (bits value 12 12) p).put HOST_CTL.TX_INV (bits value 11 8) p
  let s := ((s.put HOST_CTL.RX_INV (bits value 7 4) p).put HOST_CTL.FEC_EN (bits value 3 3) p).put HOST_CTL.MODE (bits value 2 1) p
  s.put HOST_CTL.EN (bits value 0 0) p

/-- A write of HOST_CTL (R135, R136): its status and the state after it. -/
def hostCtlWrite (p value : Nat) (s : State) : Nat × State :=
  let was := s.is HOST_CTL.EN p
  let en := bit value 0
  if bits value 2 1 = 3 then (stBadParam, s)
  else if was && hostLineMoved s p value then (stBusy, s)
  else
    let s := hostCtlFields p value s
    if en && !was then (stOk, s.put HOST_STATUS.MODE_IN_FORCE (hostFirstMode (bits value 2 1)) p)
    else if was && !en then (stOk, hostDark p s)
    else (stOk, s)

/-- The ports' links fall with the power of PD_HOST. -/
def hostPowerLost (s : State) : State := hostSetLink 1 false (hostSetLink 0 false s)

/-- A port that wakes with EN set starts in its first mode. -/
def hostWake (s : State) : State :=
  each (fun p s => if s.is HOST_CTL.EN p then s.put HOST_STATUS.MODE_IN_FORCE (hostFirstMode (s.get HOST_CTL.MODE p)) p else s) [0, 1] s

/-- HOST_LINK_CHANGE (R135). -/
def execHostLinkChange (port : Fin 2) (blockLock : BitVec 4) (align fecLock hiSer tenGig : Bool) (s : State) : Host.Outcome State Fault Refusal :=
  .next (hostLinkChange port.val blockLock.toNat align fecLock hiSer tenGig s)

/-- HOST_ALTERNATE_TIMEOUT (R135). -/
def execHostAlternateTimeout (port : Fin 2) (s : State) : Host.Outcome State Fault Refusal := .next (hostAlternate port.val s)

end Sys2Proof.Machine
end

