-- ==== Sys2Proof/Machine/FabLink.lean ====
section
/-! DEFINITION. The fabric ports: states, taps, CAPS, replay and sleep, and the frames that elect a root, map the fabric, number the nodes and route (R170 to R184, R189 to R192). -/

namespace Sys2Proof.Machine

/-- The fabric ports. -/
def fabPorts : List Nat := [0, 1, 2, 3, 4, 5, 6, 7]

/-- STATE of a port (Table 6.2): 0 DISABLED, 1 DETECT, 2 TRAIN, 3 LOCK, 4 CAPS, 5 ACTIVE, 6 RECOVERY. -/
def fabState (s : State) (k : Nat) : Nat := s.get FAB_STATUS.STATE k

/-- Set STATE. -/
def setFabState (k v : Nat) (s : State) : State := s.put FAB_STATUS.STATE v k

/-- The ACTIVE ports. -/
def activePorts (s : State) : List Nat := fabPorts.filter (fabActive s)

/-! ### Link control frames (Table 6.4) -/

/-- Send a link control frame, which ends quiet (R183). -/
def fabFrame (bs : List Byte) (k : Nat) (s : State) : State := (fabEndQuiet k s).emit (.lcf k bs)

/-- A received frame of a type is whole: at most 128 bytes, its CRC-32C in the last 4 correct. -/
def frameOk (type : Nat) (bs : List Byte) : Bool :=
  5 ≤ bs.length && bs.length ≤ 128 && beAt bs 0 1 = type && crc32c (bs.take (bs.length - 4)) = beAt bs (bs.length - 4) 4

/-- The node ID as frames carry it: 0x3FF if there is none. -/
def frameNode (s : State) : Nat := if s.is FAB_NODE.VALID then s.node else 0x3FF

/-- The CAP frame of a port. -/
def capFrame (s : State) (k : Nat) : List Byte :=
  beBytes 1 1 ++ beBytes 1 0x21 ++ beBytes 1 (b2n (s.fabPort k).capSeen) ++ beBytes 2 256 ++ beBytes 1 k ++ zeros 1
    ++ beBytes 8 Config.uid ++ beBytes 2 (frameNode s) ++ beBytes 4 7

/-! ### The map (R190) -/

/-- This node's ACTIVE links. -/
def ownLinks (s : State) : List (Nat × Nat) := (activePorts s).map fun k => (k, s.get FAB_PEER_UID.UID k)

/-- This node's own entry. -/
def ownTopo (s : State) : Topo := { uid := Config.uid, node := frameNode s, gen := s.fab.gen, links := ownLinks s }

/-- Every TOPO entry known, this node's first. -/
def topoAll (s : State) : List Topo := ownTopo s :: s.fab.topo.filter fun t => t.uid ≠ Config.uid

/-- The entry of a node. -/
def topoOf (m : List Topo) (u : Nat) : Option Topo := m.find? fun t => t.uid = u

/-- A link is in the map: both of its ends list it. -/
def linkIn (m : List Topo) (a b : Nat) : Bool :=
  match topoOf m a, topoOf m b with
  | some x, some y => x.links.any (fun l => l.2 = b) && y.links.any (fun l => l.2 = a)
  | _, _ => false

/-- The neighbours of a node in the map. -/
def topoNear (m : List Topo) (u : Nat) : List Nat :=
  match topoOf m u with
  | some t => (t.links.map Prod.snd).eraseDups.filter fun v => linkIn m u v
  | none => []

/-- Nodes with their distances from a start, level by level; the number of nodes is the fuel. -/
def topoWalk (m : List Topo) : Nat → Nat → List Nat → List (Nat × Nat) → List (Nat × Nat)
  | 0, _, _, seen => seen
  | fuel + 1, d, level, seen =>
    let next := ((level.map (topoNear m)).flatten.eraseDups).filter fun v => !seen.any fun e => e.1 = v
    if next.isEmpty then seen else topoWalk m fuel (d + 1) next (seen ++ next.map fun v => (v, d))

/-- The nodes that a node reaches, with their hops. -/
def topoFrom (m : List Topo) (u : Nat) : List (Nat × Nat) := topoWalk m m.length 1 [u] [(u, 0)]

/-- The hops from one node to another. -/
def topoHops (m : List Topo) (a b : Nat) : Option Nat := ((topoFrom m a).find? fun e => e.1 = b).map Prod.snd

/-- The nodes in this node's map. -/
def topoNodes (s : State) : List Nat := (topoFrom (topoAll s) Config.uid).map Prod.fst

/-- The map changes: FAB_TOPO.NODES follows, the table is to be rewritten and IDs are to be assigned. -/
def mapMoved (s : State) : State :=
  { s.put FAB_TOPO.NODES (topoNodes s).length with fab := { s.fab with routed := false, assigned := false } }

/-! ### Election (R189) -/

/-- The root: the lowest UID that an ACTIVE port hears, or this node's own. -/
def fabRoot (s : State) : Nat :=
  (activePorts s).foldl (fun r k => match (s.fabPort k).elect with | some (u, _, _) => min r u | none => r) Config.uid

/-- The ACTIVE port whose ELECT gives the fewest hops to a root: ties go to the lowest port. -/
def fabUpstream (s : State) (root : Nat) : Option (Nat × Nat) :=
  (activePorts s).foldl (fun b k => match (s.fabPort k).elect with
    | some (u, h, _) => if u = root then (match b with | some (_, h') => if h < h' then some (k, h) else b | none => some (k, h)) else b
    | none => b) none

/-- The ELECT frame of this node. -/
def electFrame (s : State) : List Byte :=
  beBytes 1 2 ++ beBytes 8 (s.get FAB_ROOT_UID.UID) ++ beBytes 1 (s.get FAB_NODE.DEPTH) ++ zeros 1 ++ beBytes 8 Config.uid

/-- Send ELECT on every ACTIVE port. -/
def fabElectSend (s : State) : State := each (fabFrame (electFrame s)) (activePorts s) s

/-- Show the choice of a root in the registers. -/
def fabShowRoot (root : Nat) (up : Option (Nat × Nat)) (s : State) : State :=
  let depth := match up with | some (_, h) => h + 1 | none => 0
  let s := ((s.put FAB_ROOT_UID.UID root).putB FAB_NODE.ROOT (root = Config.uid)).put FAB_NODE.DEPTH depth
  each (fun k s => s.putB FAB_STATUS.UPSTREAM (up.map Prod.fst = some k) k) fabPorts s

/-- LOCKED and its count clear (R199). -/
def fabUnlock (s : State) : State := { s.put FAB_TIME_STATUS.LOCKED 0 with fab := { s.fab with syncGood := 0 } }

/-- Make the choice of a root anew; a change is sent at once, and a change of the upstream port clears LOCKED (R189, R199). -/
def fabElect (s : State) : State :=
  let root := fabRoot s
  let up := if root = Config.uid then none else fabUpstream s root
  let depth := match up with | some (_, h) => h + 1 | none => 0
  let moved : Bool := root ≠ s.get FAB_ROOT_UID.UID || up.map Prod.fst ≠ s.fab.upstream || depth % 256 ≠ s.get FAB_NODE.DEPTH
  if moved then
    let other : Bool := up.map Prod.fst ≠ s.fab.upstream
    let s := onlyIf other (fun s => { fabUnlock s with fab := { (fabUnlock s).fab with upstream := up.map Prod.fst } }) s
    let s := if root ≠ s.get FAB_ROOT_UID.UID then { s with fab := { s.fab with assigned := false } } else s
    fabElectSend (fabShowRoot root up s)
  else s

/-! ### Node IDs (R191) -/

/-- This node takes an ID; 0x3FF is none. -/
def fabTakeId (id : Nat) (s : State) : State :=
  let s := (s.putB FAB_NODE.VALID (id ≠ 0x3FF)).put FAB_NODE.ID id
  { s with cmd := { s.cmd with node := id }, fab := { s.fab with routed := false } }

/-- A node that is its own root with no ACTIVE port: its present ID, else PREFERRED, else 0. -/
def fabAlone (s : State) : State :=
  if (activePorts s).isEmpty ∧ (s.fab.idRoot = none ∨ ¬s.is FAB_NODE.VALID) then
    let p := s.get FAB_ID_CFG.PREFERRED
    let id := if p = 0x3FF then 0 else p
    if s.is FAB_NODE.VALID ∧ s.get FAB_NODE.ID = id then s else fabTakeId id s
  else s

/-! ### TOPO (R190) -/

/-- The TOPO frame of an entry. -/
def topoFrame (t : Topo) : List Byte :=
  beBytes 1 3 ++ beBytes 8 t.uid ++ beBytes 2 t.node ++ beBytes 2 t.gen ++ beBytes 1 t.links.length
    ++ (t.links.map fun l => beBytes 1 l.1 ++ beBytes 8 l.2).flatten

/-- Flood this node's own TOPO frame on every ACTIVE port, with its next GEN. -/
def fabFlood (s : State) : State :=
  let s' := each (fabFrame (topoFrame (ownTopo s))) (activePorts s) s
  { s' with fab := { s'.fab with gen := (s'.fab.gen + 1) % 65536 } }

/-- This node's ACTIVE ports change: the map, the root and the ID follow, and TOPO is flooded. -/
def fabPortsMoved (s : State) : State := fabAlone (fabFlood (fabElect (mapMoved s)))

/-! ### Leaving ACTIVE (R174, R181) -/

/-- A port forgets its link: cells held or queued are discarded and counted. -/
def fabForget (k : Nat) (s : State) : State :=
  let p := s.fabPort k
  let s := (s.add FAB_DROP.COUNT (p.unacked.length + p.queue.length) k).setFabPort k {}
  ((s.put FAB_STATUS.VERSION 0 k).put FAB_STATUS.TX_SLEEP 0 k).put FAB_STATUS.RX_SLEEP 0 k

/-- FAB_LINK_DOWN with its reason, which LAST_DOWN keeps. -/
def fabLinkDown (k reason : Nat) (s : State) : State :=
  raise FAB_LINK_DOWN (k + 16 * reason) (s.put FAB_STATUS.LAST_DOWN reason k)

/-- A port goes to DETECT or to DISABLED. A port that leaves ACTIVE raises FAB_LINK_DOWN. -/
def fabLeave (k st reason : Nat) (s : State) : State :=
  let was := fabState s k
  let s := onlyIf (was = 5) (fabLinkDown k reason) (setFabState k st (fabForget k s))
  if was = 5 ∨ was = 6 then fabPortsMoved s else s

/-- The limit of a state is reached (Table 6.2). -/
def fabTimeout (k : Nat) (s : State) : State :=
  let st := fabState s k
  if st = 6 then fabPortsMoved (fabLinkDown k 2 (setFabState k 1 (fabForget k s)))
  else if st = 2 ∨ st = 3 ∨ (st = 4 ∧ ¬(s.fabPort k).refused) then
    raise FAB_TRAIN_FAIL (k + 16 * st) (setFabState k 1 (fabForget k (s.count FAB_TRAIN_FAILS.COUNT k)))
  else s

/-- Block lock is lost for 1 us, or replay is exhausted: ACTIVE goes to RECOVERY. -/
def fabRecover (k : Nat) (s : State) : State :=
  if fabState s k = 5 then
    let s := (s.put FAB_STATUS.TX_SLEEP 0 k).put FAB_STATUS.RX_SLEEP 0 k
    fabPortsMoved (setFabState k 6 s)
  else s

/-- A write of FAB_CTL (R174, R203): its status and the state after it. -/
def fabCtlWrite (k value : Nat) (s : State) : Nat × State :=
  let en := bit value 0
  let was := s.is FAB_CTL.EN k
  let moved : Bool := bits value 11 8 ≠ s.get FAB_CTL.TEST k || bits value 2 2 ≠ s.get FAB_CTL.TX_INV k || bits value 1 1 ≠ s.get FAB_CTL.RX_INV k
  if bits value 11 8 > 2 then (stBadParam, s)
  else if was && moved then (stBusy, s)
  else
    let s := ((s.put FAB_CTL.TEST (bits value 11 8) k).put FAB_CTL.TAP_STORE (bits value 5 5) k).put FAB_CTL.TAP_MEM (bits value 4 4) k
    let s := ((s.put FAB_CTL.SLEEP_EN (bits value 3 3) k).put FAB_CTL.TX_INV (bits value 2 2) k).put FAB_CTL.RX_INV (bits value 1 1) k
    let s := s.putB FAB_CTL.EN en k
    if !en then (stOk, if fabState s k = 0 then s else fabLeave k 0 1 s)
    else if fabState s k = 0 then (stOk, setFabState k 1 s)
    else if bit value 31 then (stOk, fabLeave k 1 3 s)
    else (stOk, s)

/-- ACTIVE ports go down with a domain loss under R42: reason 0x4. -/
def fabPowerLost (s : State) : State := each (fun k s => if fabActive s k then fabLinkDown k 4 s else s) fabPorts s

/-- The ports wake with PD_FAB: they search again, and a node alone takes PREFERRED or 0 (R191, R204). -/
def fabWake (s : State) : State :=
  let s := each (fun k s => if s.is FAB_CTL.EN k then setFabState k 1 s else s) fabPorts s
  fabAlone { s with cmd := { s.cmd with node := 0 } }

/-! ### Training (R175 to R178) -/

/-- Set a port's taps. -/
def setTaps (k pre main post : Nat) (s : State) : State := ((s.put FAB_TAPS.PRE pre k).put FAB_TAPS.MAIN main k).put FAB_TAPS.POST post k

/-- The preset taps. -/
def presetTaps (k : Nat) (s : State) : State := setTaps k 3 52 8 s

/-- The record of the tap memory for a port and its peer (R176, Table 20.4). -/
def tapRecord (s : State) (k : Nat) : Option Nat :=
  (List.range 64).find? fun r => nvmRecord s 4 r 0 4 ≠ 0 && nvmRecord s 4 r 4 8 = s.get FAB_PEER_UID.UID k && nvmRecord s 4 r 12 1 = k

/-- The taps at the start of TRAIN (R176). -/
def loadTaps (k : Nat) (s : State) : State :=
  if s.is FAB_CTL.TAP_MEM k then
    match tapRecord s k with
    | some r => setTaps k (nvmRecord s 4 r 13 1) (nvmRecord s 4 r 14 1) (nvmRecord s 4 r 15 1) s
    | none => presetTaps k s
  else presetTaps k s

/-- Write the trained taps to the tap memory (R176, R541). -/
def storeTaps (k : Nat) (s : State) : State :=
  if s.is FAB_CTL.TAP_STORE k then
    let peer := s.get FAB_PEER_UID.UID k
    nvmReplace 4 (fun r => nvmRecord s 4 r 4 8 = peer && nvmRecord s 4 r 12 1 = k)
      (leBytes 8 peer ++ leBytes 1 k ++ leBytes 1 (s.get FAB_TAPS.PRE k) ++ leBytes 1 (s.get FAB_TAPS.MAIN k) ++ leBytes 1 (s.get FAB_TAPS.POST k)) s
  else s

/-- Far-end termination is detected: TRAIN, with the taps loaded. -/
def fabDetected (k : Nat) (s : State) : State := if fabState s k = 1 then loadTaps k (setFabState k 2 s) else s

/-- Taps within their ranges and their two sums (R178). -/
def tapsOk (pre main post : Int) : Bool :=
  0 ≤ pre && pre ≤ 15 && 0 ≤ main && main ≤ 63 && 0 ≤ post && post ≤ 31 && pre + main + post ≤ 63 && 16 ≤ main - pre - post

/-- The step that a tap request asks for. -/
def tapStep (req : Nat) : Int := if req = 1 then 1 else if req = 2 then -1 else 0

/-- The answer to a request on one tap. -/
def tapAnswer (req : Nat) (ok : Bool) : Nat := if req = 0 then 0 else if ok then 1 else if req = 1 then 3 else 2

/-- Apply the three requests in the order pre, main, post: the new taps and the answer in the layout of byte 3. -/
def tapRequests (rp rm ro : Nat) (taps : Int × Int × Int) : (Int × Int × Int) × Nat :=
  let (p, m, o) := taps
  let okP := tapsOk (p + tapStep rp) m o
  let p := if okP then p + tapStep rp else p
  let okM := tapsOk p (m + tapStep rm) o
  let m := if okM then m + tapStep rm else m
  let okO := tapsOk p m (o + tapStep ro)
  let o := if okO then o + tapStep ro else o
  ((p, m, o), 16 * tapAnswer rp okP + 4 * tapAnswer rm okM + tapAnswer ro okO)

/-- A new request is applied and answered (R178). -/
def tapApply (k : Nat) (b : TrainBlock) (s : State) : State :=
  let p := s.fabPort k
  if p.answered = some b.rseq.toNat then s
  else
    let note (a : Nat) (s : State) : State := s.setFabPort k { p with answered := some b.rseq.toNat, answer := a }
    if b.preset then note 0x15 (presetTaps k s)
    else if b.reqPre = 3 ∨ b.reqMain = 3 ∨ b.reqPost = 3 then note 0 s
    else
      let ((pre, main, post), a) := tapRequests b.reqPre.toNat b.reqMain.toNat b.reqPost.toNat
        (s.get FAB_TAPS.PRE k, s.get FAB_TAPS.MAIN k, s.get FAB_TAPS.POST k)
      note a (setTaps k pre.toNat main.toNat post.toNat s)

/-- This side's own receiver: once its request is answered, it is content or asks for another change. What it finds is free. -/
def tapOwn (k : Nat) (b : TrainBlock) (s : State) : State :=
  let p := s.fabPort k
  if p.ready ∨ b.aseq.toNat ≠ p.rseq then s
  else
    let (v, s) := s.draw 1
    s.setFabPort k (if v = 1 then { p with ready := true } else { p with rseq := (p.rseq + 1) % 16 })

/-- The TRAIN block that this side sends: its request is free, and its answer is as applied. -/
def trainSend (k : Nat) (s : State) : State :=
  let p := s.fabPort k
  let (v, s) := s.draw 6
  let req (n : Nat) : BitVec 2 := if p.ready then 0 else BitVec.ofNat 2 (v / 4 ^ n % 4 % 3)
  s.emit (.train k { ready := p.ready, reqPre := req 2, reqMain := req 1, reqPost := req 0
                     rspPre := BitVec.ofNat 2 (p.answer / 16), rspMain := BitVec.ofNat 2 (p.answer / 4), rspPost := BitVec.ofNat 2 p.answer
                     rseq := BitVec.ofNat 4 p.rseq, aseq := BitVec.ofNat 4 (p.answered.getD 0) })

/-- READY on both sides is counted, and 8 frames of it lead to LOCK. -/
def trainCount (k : Nat) (far : Bool) (s : State) : State :=
  let p := s.fabPort k
  let n := if p.ready && far then p.readyFrames + 1 else 0
  let s := s.setFabPort k { p with readyFrames := n }
  if 8 ≤ n then setFabState k 3 s else s

/-- FAB_TRAIN_BLOCK_RX (R177, R178). -/
def fabTrain (k : Nat) (b : TrainBlock) (s : State) : State :=
  if fabState s k = 2 then trainCount k b.ready (trainSend k (tapOwn k b (tapApply k b s))) else s

/-! ### CAPS and ACTIVE (R179, R180) -/

/-- Send CAP. -/
def capSend (k : Nat) (s : State) : State := fabFrame (capFrame s k) k s

/-- Every cell held for replay is sent again. -/
def fabResend (k : Nat) (s : State) : State :=
  each (fun c s => s.emit (.cell k (some c.lseq) c.bytes)) (s.fabPort k).unacked s

/-- A replay (R180): the eighth in a row without progress sends the port to RECOVERY (R181). -/
def fabReplay (k : Nat) (s : State) : State :=
  let p := s.fabPort k
  if fabActive s k ∧ ¬p.unacked.isEmpty then
    let s := fabResend k (fabEndQuiet k (s.count FAB_REPLAY.COUNT k))
    if p.replays ≥ 7 then fabRecover k (s.setFabPort k { s.fabPort k with replays := 0 })
    else s.setFabPort k { s.fabPort k with replays := p.replays + 1 }
  else s

/-- Block lock and 32 IDLE blocks: LOCK goes to CAPS, RECOVERY back to ACTIVE with the cells held sent again. -/
def fabLocked (k : Nat) (s : State) : State :=
  if fabState s k = 3 then capSend k (setFabState k 4 s)
  else if fabState s k = 6 then
    let s := storeTaps k (setFabState k 5 s)
    let s := fabResend k s
    fabPortsMoved (fabDrain (s.fabPort k).queue.length k s)
  else s

/-- ACTIVE is reached from CAPS: FAB_LINK_UP. -/
def fabUp (k : Nat) (s : State) : State :=
  let s := raise FAB_LINK_UP (k + 256 * s.get FAB_STATUS.VERSION k) (storeTaps k (setFabState k 5 s))
  fabPortsMoved s

/-- FAB_VERSION_MISMATCH (R179). -/
def capMismatch (k ver : Nat) (other : Bool) (s : State) : State :=
  raise FAB_VERSION_MISMATCH (k + 256 * ver + 65536 * b2n other) s

/-- The features valid at a version (Table 6.5). -/
def fabFeatures (ver : Nat) : Nat := if ver < 0x20 then 0 else if ver < 0x21 then 5 else 7

/-- The agreed values of an accepted CAP frame. -/
def capAgree (k : Nat) (f : List Byte) (s : State) : State :=
  let ver := min 0x21 (beAt f 1 1)
  let s := ((s.put FAB_STATUS.VERSION ver k).put FAB_STATUS.PEER_PORT (beAt f 5 1) k).put FAB_PEER_UID.UID (beAt f 7 8) k
  let p := s.fabPort k
  let s := s.setFabPort k { p with capSeen := true, peerSeen := bit (beAt f 2 1) 0, refused := false
                                   maxCell := min 256 (beAt f 3 2), features := beAt f 17 4 &&& fabFeatures ver
                                   lowRaised := p.lowRaised || ver < 0x21 }
  onlyIf (ver < 0x21 && !p.lowRaised) (capMismatch k (beAt f 1 1) false) s

/-- FAB_CAP_FRAME_RX (R179). -/
def fabCap (k : Nat) (f : List Byte) (s : State) : State :=
  let ver := beAt f 1 1
  let p := s.fabPort k
  if fabState s k = 4 ∧ frameOk 1 f ∧ f.length = 25 then
    if (ver / 16 ≠ 1 ∧ ver / 16 ≠ 2) ∨ beAt f 3 2 < 64 then
      if p.refused then s else capMismatch k ver true (s.setFabPort k { p with refused := true })
    else
      let s := capSend k (capAgree k f s)
      if (s.fabPort k).peerSeen then fabUp k s else s
  else s

/-- FAB_CAP_RETRY (R179). -/
def fabCapRetry (k : Nat) (s : State) : State :=
  if fabState s k = 4 ∧ (s.fabPort k).refused then capSend k (s.setFabPort k { s.fabPort k with refused := false }) else s

/-! ### Acknowledgement and sleep (R180 to R183) -/

/-- Traffic on the receive lane ends RX_SLEEP (R183). -/
def fabTraffic (k : Nat) (s : State) : State := if s.is FAB_STATUS.RX_SLEEP k then s.put FAB_STATUS.RX_SLEEP 0 k else s

/-- Segments of a raster source that still wait in the ingress buffer (R208). -/
def sourceSlots (s : State) (n : Nat) : Nat :=
  (s.ing.held.filter fun e => e.1 = n && e.2.isSome).length
    + s.ing.landing.foldl (fun m l => if l.source = n then m + l.segments else m) 0

/-- A port owes one more credit. -/
def fabOwe (k : Nat) (s : State) : State :=
  let p := s.fabPort k
  s.setFabPort k { p with owed := p.owed + 1 }

/-- The oldest lent slots of a raster source beyond those still in use are empty: their ports owe the credit (R182). -/
def fabReclaimOf (n : Nat) (s : State) : State :=
  let mine := s.fab.lent.filter fun e => e.2 = n
  let free := mine.take (mine.length - sourceSlots s n)
  let s := { s with fab := { s.fab with lent := s.fab.lent.filter (fun e => e.2 ≠ n) ++ mine.drop free.length } }
  each (fun e s => fabOwe e.1 s) free s

/-- Slots that have emptied are owed. -/
def fabReclaim (s : State) : State := each fabReclaimOf (s.fab.lent.map Prod.snd).eraseDups s

/-- Send an ACK block, with the credit owed. -/
def fabAck (k : Nat) (nak : Bool) (s : State) : State :=
  let s := fabEndQuiet k (fabReclaim s)
  let p := s.fabPort k
  (s.setFabPort k { p with owed := 0, sinceAck := 0 }).emit (.ack k ((p.rxNext + 4095) % 4096) nak p.owed)

/-- FAB_ACK_TIMER (R180): in quiet, an ACK is sent only where one is owed. -/
def fabAckTimer (k : Nat) (s : State) : State :=
  let s := fabReclaim s
  let p := s.fabPort k
  if fabActive s k ∧ (¬s.is FAB_STATUS.TX_SLEEP k ∨ 0 < p.owed ∨ 0 < p.sinceAck) then fabAck k false s else s

/-- The cells after the one that an ACK names; all of them if it names none that is held. -/
def ackRest (n : Nat) (l : List TxCell) : List TxCell :=
  match l.findIdx? fun c => c.lseq = n with
  | some i => l.drop (i + 1)
  | none => l

/-- FAB_ACK_RX (R180, R182): acknowledged cells are released and credit returns; a NAK replays the rest. -/
def fabAcked (k n : Nat) (nak : Bool) (credit : Nat) (s : State) : State :=
  if fabActive s k then
    let s := fabTraffic k s
    let p := s.fabPort k
    let rest := ackRest n p.unacked
    let s := s.setFabPort k { p with unacked := rest, credit := min 512 (p.credit + credit)
                                     replays := if rest.length < p.unacked.length then 0 else p.replays }
    let s := onlyIf nak (fabReplay k) s
    fabDrain (s.fabPort k).queue.length k s
  else s

/-- FAB_SLEEP_ENTRY (R183). -/
def fabSleep (k : Nat) (s : State) : State :=
  let p := s.fabPort k
  if fabActive s k ∧ bit p.features 0 ∧ s.is FAB_CTL.SLEEP_EN k ∧ ¬s.is FAB_STATUS.TX_SLEEP k ∧ p.queue.isEmpty ∧ p.owed = 0 ∧ p.sinceAck = 0 then
    (s.put FAB_STATUS.TX_SLEEP 1 k).emit (.sleep k true)
  else s

/-- FAB_SLEEP_RX (R183). -/
def fabSleepRx (k : Nat) (s : State) : State :=
  if fabActive s k ∧ bit (s.fabPort k).features 0 then s.put FAB_STATUS.RX_SLEEP 1 k else s

/-! ### Frames in ACTIVE -/

/-- FAB_ELECT_RX (R189). -/
def fabElectRx (k : Nat) (f : List Byte) (s : State) : State :=
  if fabActive s k ∧ frameOk 2 f ∧ f.length = 23 then
    let s := fabTraffic k s
    fabElect (s.setFabPort k { s.fabPort k with elect := some (beAt f 1 8, beAt f 9 1, beAt f 11 8) })
  else s

/-- The entry that a TOPO frame lists. -/
def topoOfFrame (f : List Byte) : Topo :=
  { uid := beAt f 1 8, node := beAt f 9 2, gen := beAt f 11 2
    links := (List.range (beAt f 13 1)).map fun i => (beAt f (14 + 9 * i) 1, beAt f (15 + 9 * i) 8) }

/-- GEN is newer than what is stored for the UID (R190). -/
def topoNewer (s : State) (t : Topo) : Bool :=
  match topoOf s.fab.topo t.uid with
  | some o => 0 < sext 16 (wrap 16 ((t.gen : Int) - o.gen))
  | none => true

/-- FAB_TOPO_RX (R190). -/
def fabTopoRx (k : Nat) (f : List Byte) (s : State) : State :=
  let t := topoOfFrame f
  if fabActive s k ∧ frameOk 3 f ∧ f.length = 18 + 9 * beAt f 13 1 then
    let s := fabTraffic k s
    if t.uid ≠ Config.uid ∧ topoNewer s t then
      let old := topoOf s.fab.topo t.uid
      let s := { s with fab := { s.fab with topo := s.fab.topo.filter (fun o => o.uid ≠ t.uid) ++ [t] } }
      let s := if old.map (fun o => (o.node, o.links)) = some (t.node, t.links) then s else mapMoved s
      each (fabFrame (f.take (f.length - 4))) ((activePorts s).filter fun j => j ≠ k) s
    else s
  else s

/-- A new assignment for this node (R191). -/
def fabNewId (id root gen : Nat) (s : State) : State :=
  let moved : Bool := s.fab.idRoot ≠ some root
  let s := (fabTakeId id s).put FAB_TOPO.GEN gen
  let s := { s with fab := { s.fab with idRoot := some root } }
  raise FAB_TOPOLOGY (id + 32768 * b2n moved + 65536 * s.get FAB_TOPO.NODES) s

/-- The ASSIGN frame. -/
def assignFrame (root uid id gen : Nat) : List Byte := beBytes 1 4 ++ beBytes 8 root ++ beBytes 8 uid ++ beBytes 2 id ++ beBytes 2 gen

/-- FAB_ASSIGN_RX (R191): a frame not yet seen is flooded on, and one with this node's UID and its present root is taken. -/
def fabAssignRx (k : Nat) (f : List Byte) (s : State) : State :=
  if fabActive s k ∧ frameOk 4 f ∧ f.length = 25 then
    let s := fabTraffic k s
    let root := beAt f 1 8
    let uid := beAt f 9 8
    let gen := beAt f 19 2
    if mapGet (0, 0) s.fab.assigns uid = (root, gen) ∧ s.fab.assigns.any (fun e => e.1 = uid) then s
    else
      let s := { s with fab := { s.fab with assigns := mapPut uid (root, gen) s.fab.assigns } }
      let s := each (fabFrame (f.take (f.length - 4))) ((activePorts s).filter fun j => j ≠ k) s
      if uid = Config.uid ∧ root = s.get FAB_ROOT_UID.UID then fabNewId (beAt f 17 2 % 1024) root gen s else s
  else s

/-- The first ID of R191 that is free. -/
def freeId (s : State) (t : Topo) (preferred : Nat) (used : List Nat) : Nat :=
  let lo := s.get FAB_ID_CFG.ID_LO
  let pool := (List.range (s.get FAB_ID_CFG.ID_HI + 1 - lo)).map fun i => lo + i
  if t.node ≠ 0x3FF ∧ ¬used.contains t.node then t.node
  else if preferred ≠ 0x3FF ∧ ¬used.contains preferred then preferred
  else (pool.find? fun n => !used.contains n).getD 0x3FF

/-- IDs of nodes in ascending UID order. Only this node's own PREFERRED is known to it: TOPO carries none. -/
def giveIds (s : State) : List Topo → List Nat → List (Nat × Nat)
  | [], _ => []
  | t :: l, used =>
    let id := freeId s t (if t.uid = Config.uid then s.get FAB_ID_CFG.PREFERRED else 0x3FF) used
    (t.uid, id) :: giveIds s l (if id = 0x3FF then used else id :: used)

/-- Entries in ascending UID order. -/
def topoSort : List Topo → List Topo
  | [] => []
  | t :: l => let r := topoSort l; r.takeWhile (fun o => o.uid < t.uid) ++ t :: r.dropWhile (fun o => o.uid < t.uid)

/-- FAB_ID_ASSIGN (R191): the root assigns IDs to the nodes in its map and floods them. -/
def fabIdAssign (s : State) : State :=
  if s.on 7 ∧ s.is FAB_NODE.ROOT ∧ ¬s.fab.assigned ∧ ¬(activePorts s).isEmpty then
    let gen := (s.get FAB_TOPO.GEN + 1) % 65536
    let nodes := topoNodes s
    let ids := giveIds s (topoSort ((topoAll s).filter fun t => nodes.contains t.uid)) []
    let s := { s with fab := { s.fab with assigned := true } }
    let s := each (fun e s => if e.1 = Config.uid then s else each (fabFrame (assignFrame Config.uid e.1 e.2 gen)) (activePorts s) s) ids s
    fabNewId (mapGet 0x3FF (ids.filter fun e => e.1 = Config.uid) Config.uid) Config.uid gen s
  else s

/-! ### Routing (R192) -/

/-- The port on a path with the fewest hops to a node: ties go to the lowest port. -/
def routePort (s : State) (uid : Nat) : Nat :=
  let m := topoAll s
  let far := topoFrom m uid
  let hops (v : Nat) : Option Nat := (far.find? fun e => e.1 = v).map Prod.snd
  let best := (ownLinks s).foldl (fun b l =>
    if linkIn m Config.uid l.2 then
      match hops l.2, b with
      | some h, some (_, h') => if h < h' then some (l.1, h) else b
      | some h, none => some (l.1, h)
      | none, _ => b
    else b) (none : Option (Nat × Nat))
  match best with
  | some (k, _) => k
  | none => 0xF

/-- FAB_ROUTING_UPDATE (R192, R204): the table is written in full. -/
def fabRouting (s : State) : State :=
  if s.on 7 ∧ ¬s.fab.routed then
    let nodes := topoNodes s
    let far := (topoAll s).filter fun t => t.uid ≠ Config.uid && nodes.contains t.uid && t.node < 1023
    let t := each (fun n s => s.put FAB_ROUTE.CODE 0xF n) (List.range 1024) s
    let t := each (fun e t => t.put FAB_ROUTE.CODE (routePort s e.uid) e.node) far t
    let t := onlyIf (s.is FAB_NODE.VALID) (fun t => t.put FAB_ROUTE.CODE 8 s.node) t
    { t with fab := { t.fab with routed := true } }
  else s

/-! ### The commands of this file -/

/-- FAB_FAR_END_DETECTED (R174, R176). -/
def execFabFarEndDetected (port : Fin 8) (s : State) : Host.Outcome State Fault Refusal := .next (fabDetected port.val s)

/-- FAB_TRAIN_BLOCK_RX (R178). -/
def execFabTrainBlockRx (port : Fin 8) (block : TrainBlock) (s : State) : Host.Outcome State Fault Refusal := .next (fabTrain port.val block s)

/-- FAB_STATE_TIMEOUT (R174). -/
def execFabStateTimeout (port : Fin 8) (s : State) : Host.Outcome State Fault Refusal := .next (fabTimeout port.val s)

/-- FAB_BLOCK_LOCK_GAINED (R174). -/
def execFabBlockLockGained (port : Fin 8) (s : State) : Host.Outcome State Fault Refusal := .next (fabLocked port.val s)

/-- FAB_BLOCK_LOCK_LOST (R173, R174). -/
def execFabBlockLockLost (port : Fin 8) (s : State) : Host.Outcome State Fault Refusal := .next (fabRecover port.val s)

/-- FAB_CAP_FRAME_RX (R179). -/
def execFabCapFrameRx (port : Fin 8) (frame : List Byte) (s : State) : Host.Outcome State Fault Refusal := .next (fabCap port.val frame s)

/-- FAB_CAP_RETRY (R179). -/
def execFabCapRetry (port : Fin 8) (s : State) : Host.Outcome State Fault Refusal := .next (fabCapRetry port.val s)

/-- FAB_ACK_RX (R180). -/
def execFabAckRx (port : Fin 8) (ackLseq : BitVec 12) (nak : Bool) (credit : BitVec 16) (s : State) : Host.Outcome State Fault Refusal :=
  .next (fabAcked port.val ackLseq.toNat nak credit.toNat s)

/-- FAB_REPLAY_TIMEOUT (R180). -/
def execFabReplayTimeout (port : Fin 8) (s : State) : Host.Outcome State Fault Refusal := .next (fabReplay port.val s)

/-- FAB_ACK_TIMER (R180). -/
def execFabAckTimer (port : Fin 8) (s : State) : Host.Outcome State Fault Refusal := .next (fabAckTimer port.val s)

/-- FAB_SLEEP_ENTRY (R183). -/
def execFabSleepEntry (port : Fin 8) (s : State) : Host.Outcome State Fault Refusal := .next (fabSleep port.val s)

/-- FAB_SLEEP_EXIT (R183). -/
def execFabSleepExit (port : Fin 8) (s : State) : Host.Outcome State Fault Refusal := .next (fabEndQuiet port.val s)

/-- FAB_SLEEP_RX (R183). -/
def execFabSleepRx (port : Fin 8) (s : State) : Host.Outcome State Fault Refusal := .next (fabSleepRx port.val s)

/-- FAB_ELECT_RX (R189). -/
def execFabElectRx (port : Fin 8) (frame : List Byte) (s : State) : Host.Outcome State Fault Refusal := .next (fabElectRx port.val frame s)

/-- FAB_ELECT_TIMER (R189). -/
def execFabElectTimer (s : State) : Host.Outcome State Fault Refusal := .next (fabElectSend s)

/-- FAB_TOPO_RX (R190). -/
def execFabTopoRx (port : Fin 8) (frame : List Byte) (s : State) : Host.Outcome State Fault Refusal := .next (fabTopoRx port.val frame s)

/-- FAB_TOPO_TIMER (R190). -/
def execFabTopoTimer (s : State) : Host.Outcome State Fault Refusal := .next (if (activePorts s).isEmpty then s else fabFlood s)

/-- FAB_ID_ASSIGN (R191). -/
def execFabIdAssign (s : State) : Host.Outcome State Fault Refusal := .next (fabIdAssign s)

/-- FAB_ASSIGN_RX (R191). -/
def execFabAssignRx (port : Fin 8) (frame : List Byte) (s : State) : Host.Outcome State Fault Refusal := .next (fabAssignRx port.val frame s)

/-- FAB_ROUTING_UPDATE (R192). -/
def execFabRoutingUpdate (s : State) : Host.Outcome State Fault Refusal := .next (fabRouting s)

end Sys2Proof.Machine
end

