-- ==== Sys2Proof/Machine/Power.lean ====
section
/-! DEFINITION. Starter: losing and keeping domains, NAP, DORMANT, wake steps, temperature and performance levels (R62 to R95). What a finished wake sets going in the command path stands in Starter.lean. -/

namespace Sys2Proof.Machine

/-- Domains 1 to 17. -/
def pllDomains : List Nat := [1, 2, 3, 4, 5, 6, 7, 8, 9, 10, 11, 12, 13, 14, 15, 16, 17]

/-- The wake of a domain in progress. -/
def State.wakeOf (s : State) (d : Nat) : Option Wake := (s.pow.wakes.find? fun e => e.1 = d).map Prod.snd

/-- Note or forget the wake of a domain. -/
def State.setWake (s : State) (d : Nat) (w : Option Wake) : State :=
  { s with pow := { s.pow with wakes := match w with | some w => mapPut d w s.pow.wakes | none => mapDel d s.pow.wakes } }

/-! ### What a domain loses -/

/-- The first and the last byte beyond a domain's image in the Cave window (R72, Table 3.3). -/
def caveImage (d : Nat) : Nat × Nat :=
  let at_ (k n : Nat) := (0x01310000 + 1024 * k, 0x01310000 + 1024 * (k + n))
  if d = 1 then at_ 0 32 else if d = 2 then at_ 32 64 else if d = 4 then at_ 96 8 else if d = 5 then at_ 104 8
  else if d = 6 then at_ 112 16 else if d = 7 then at_ 128 16
  else if 8 ≤ d ∧ d ≤ 15 then at_ (144 + 4 * (d - 8)) 4
  else if d = 16 then at_ 176 32 else if d = 17 then at_ 208 24 else (0, 0)

/-- The command path and events lose what PD_CORE holds; the sideband's reply and the held events stay in PD_AON. -/
def coreLost (s : State) : State :=
  { s with
    cmd := { sbReply := s.cmd.sbReply, ecc := s.cmd.ecc }
    evt := { held := s.evt.held }
    cal := {}
    pow := { s.pow with firmware := false, romHost := false, rom := false, hostBoot := false, bootQueue := [], booting := false } }

/-- What PD_PIPE holds beside its registers. NAP keeps the nozzle map's queue and the analyser's state (R313, R456). -/
def pipeLost (power : Bool) (s : State) : State :=
  let s := ingestLost { s with fire := {}, dmaTails := [] }
  if power then nhaLost (nmapNoTable { s with nmap := {} }) else s

/-- The Vat and the bank window lose their contents. -/
def vatLost (s : State) : State :=
  { (s.forget 0x0100000000 0x0101600000) with cmd := { s.cmd with ecc := s.cmd.ecc.filter fun e => !isVat e.1 } }

/-- What a domain holds beside its registers is lost: in NAP, or with its power. -/
def hiddenLost (d : Nat) (power : Bool) (s : State) : State :=
  if d = 1 then coreLost s
  else if d = 2 then pipeLost power s
  else if d = 3 then (if power then vatLost s else s)
  else if d = 4 ∨ d = 5 then (if power then dramLost (d - 4) s else s)
  else if d = 6 then { (if power then hostPowerLost s else s) with host := {} }
  else if d = 7 then { s with fab := {} }
  else if d = 16 then camerasLost s
  else if d = 17 then nvmLost (posLost (axesLost (lampsLost s)))
  else headsLost d power s

/-- A domain goes OFF without a Cave save: its image is no longer valid, and a wake in progress ends. -/
def domainOff (valid : Bool) (d : Nat) (s : State) : State :=
  let on := s.pd d ≠ 0
  let s := s.setWake d none
  let s := onlyIf (!valid) (fun s => { s with cave := mapDel d s.cave }.putBit CAVE_VALID.VALID (d - 1) false) s
  if on then ((hiddenLost d true s).dropRegs d).setPd d 0 else (s.dropRegs d).setPd d 0

/-- The contents of DRAM are gone. -/
def dramWipe (s : State) : State := s.forget 0x1000000000 0x1800000000

/-- Every rail but those of a mask is switched off. -/
def railsOff (keep : Nat) (s : State) : State := { s with pow := { s.pow with vregEn := s.pow.vregEn &&& keep } }

/-- R43: some DRAM segment is kept by self-refresh. -/
def dramKept (s : State) : Bool := s.get DRAM_MEM_CFG.PASR_KEEP ≠ 0

/-- The state of R81: every VREG_ENn low but VREG_EN2 where an exit from DORMANT holds it, and only PD_AON on. -/
def railsFailed (valid exits : Bool) (s : State) : State :=
  let keep := if exits && s.pow.restore && bit s.pow.vregEn 2 then 4 else 0
  let s := each (domainOff valid) pllDomains s
  let s := onlyIf (keep = 0) (fun s => each dramLost [0, 1] (dramWipe s)) s
  let s := claimLost false s
  let s := railsOff keep s
  { s with pow := { s.pow with phase := .failed }, time := { s.time with locked := false } }

/-- Starter records a failure (Table 3.7). -/
def starterRecord (cause : Nat) (s : State) : State := (s.put AON_STATUS.CAUSE cause).put AON_STATUS.FAIL 1

/-- SYS_WAKE_FAIL, or WAKE_FAIL_PEND while EVT is off (R76). -/
def raiseWakeFail (s : State) : State := if evtOn s then raise SYS_WAKE_FAIL 0 s else s.put AON_STATUS.WAKE_FAIL_PEND 1

/-! ### Cave save and restore (R69, R70) -/

/-- Save a domain's fields; NAP keeps some more (R313). -/
def caveSave (nap : Bool) (d : Nat) (s : State) : State :=
  if d = 3 then s
  else { s with cave := mapPut d (if nap then s.napOf d else s.rwcOf d) s.cave }.putBit CAVE_VALID.VALID (d - 1) true

/-- The errors in a domain's image. -/
def caveErrors (s : State) (d : Nat) : List (Nat × Bool) :=
  s.cmd.ecc.filter fun e => (caveImage d).1 ≤ e.1 && e.1 < (caveImage d).2

/-- Report one error of an image; a restore leaves none behind. -/
def caveReport (e : Nat × Bool) (s : State) : State :=
  raise (if e.2 then SYS_SRAM_ECC_UNCORR else SYS_SRAM_ECC_CORR) (3 + (e.1 - 0x01310000) / 8 * 256)
    { s with cmd := { s.cmd with ecc := s.cmd.ecc.filter fun x => x.1 ≠ e.1 } }

/-- Put saved fields back. -/
def putFields (l : List (Nat × Nat)) (s : State) : State := { s with regs := l.foldl (fun m e => mapPut e.1 e.2 m) s.regs }

/-- Restore a domain's image if it is valid: the state after it, and whether the image was lost (R70). -/
def caveRestore (d : Nat) (s : State) : Bool × State :=
  if bit (s.get CAVE_VALID.VALID) (d - 1) then
    let es := caveErrors s d
    let lost := es.any fun e => e.2
    let image := mapGet [] s.cave d
    let s := each caveReport es ({ s with cave := mapDel d s.cave }.putBit CAVE_VALID.VALID (d - 1) false)
    if lost then (true, s.putBit CAVE_LOST.LOST (d - 1) true) else (false, putFields image s)
  else (false, s)

/-! ### NAP (R62 to R68) -/

/-- The blocks of a domain with registers of their own (Table 1.2). -/
def domainBlocks (d : Nat) : List Nat :=
  if d = 2 then [6, 7, 9, 11, 15] else if d = 4 ∨ d = 5 then [8] else if d = 7 then [5]
  else if 8 ≤ d ∧ d ≤ 15 then [12] else if d = 16 then [14] else if d = 17 then [10, 17, 18, 19, 20] else []

/-- Every block of a domain is IDLE (R64, R65). -/
def domainIdle (s : State) (d : Nat) : Bool := (domainBlocks d).all fun b => s.pow.idle.contains (32 * d + b)

/-- A request to a block ends its IDLE (R64). -/
def blockRequest (d b : Nat) (s : State) : State :=
  { s with pow := { s.pow with idle := s.pow.idle.filter fun x => x ≠ 32 * d + b } }

/-- BLOCK_IDLE: the block's clock is gated, unless IDLE_TIMER is 0 (Table 3.2). -/
def blockIdle (d b : Nat) (s : State) : State :=
  if s.on d ∧ d ≠ 0 ∧ s.get SYS_PD_CTL.IDLE_TIMER d ≠ 0 ∧ (domainBlocks d).contains b ∧ ¬s.pow.idle.contains (32 * d + b) then
    { s with pow := { s.pow with idle := s.pow.idle ++ [32 * d + b] } }
  else s

/-- Every camera port is disabled. -/
def camerasOff (s : State) : Bool := [0, 1, 2, 3].all fun c => !s.is CAM_CTL.EN c

/-- No check unit runs. -/
def chkQuiet (s : State) : Bool := [0, 1, 2, 3].all fun u => !chkRuns s u

/-- An axis moves: neither OFF, HOLD nor FAULT (Table 18.1). -/
def axisMoving (s : State) (a : Nat) : Bool := s.get AXIS_STATUS.STATE a = 2 || s.get AXIS_STATUS.STATE a = 3

/-- The conditions of Table 3.1. -/
def napAllowed (s : State) (d : Nat) : Bool :=
  if d = 2 then
    !armed s && (livePages s).isEmpty && !jobOpen s && !dmaAnyOn s && s.ing.enc.isNone && contextsBusy s = 0
      && s.nha.blocks.isEmpty && s.cam.ports.all fun e => e.2.waiting.isEmpty
  else if d = 3 then s.pd 2 = 1
  else if d = 4 ∨ d = 5 then s.pd 2 = 1 && camerasOff s && chkQuiet s
  else if d = 7 then [0, 1, 2, 3, 4, 5, 6, 7].all fun k => s.get FAB_STATUS.STATE k = 0
  else if 8 ≤ d ∧ d ≤ 15 then !armed s && (allHeads.filter fun h => headDomain h = d).all fun h => hlState s h = 0
  else if d = 16 then camerasOff s
  else if d = 17 then
    !armed s && [0, 1, 2, 3, 4, 5].all (fun a => !axisMoving s a) && allLamps.all (lampQuiet s) && s.nvm.host.isNone && s.nvm.queue.isEmpty
      && chkQuiet s && allChans.all fun n => !s.is POS_CTL.EN n
  else false

/-- NAP entry (R67): Cave save, clamps and switch. A request that arrives during the save abandons it, and the idle count starts again (R68). -/
def napEntry (d : Nat) (requested : Bool) (s : State) : State :=
  if s.on d ∧ s.is SYS_PD_CTL.NAP_EN d ∧ domainIdle s d ∧ napAllowed s d then
    let s := { s with pow := { s.pow with idle := s.pow.idle.filter fun x => x / 32 ≠ d } }
    if requested then s
    else
      let s := caveSave true d (onlyIf (d = 4 || d = 5) (dramSleep (d - 4)) s)
      let s := hiddenLost d false s
      (if d = 3 then s else s.dropRegs d).setPd d 1
  else s

/-! ### Wake steps (R73 to R77) -/

/-- The rail group of a domain is switched on. -/
def railOn (s : State) (d : Nat) : Bool := bit s.pow.vregEn (railGroup d)

/-- Starter begins a wake. -/
def beginWake (d : Nat) (s : State) : State :=
  if s.pd d = 2 ∨ s.pd d = 3 ∨ s.pow.testmode ∨ d = 0 then s
  else
    let rail := !railOn s d
    let s := { s with pow := { s.pow with vregEn := insertBits s.pow.vregEn (railGroup d) 1 1 } }
    (s.setWake d (some { rail := rail })).setPd d 3

/-- A wake request (R73, R77): one for a domain that is WAKING joins; PD_PIPE takes PD_VAT with it, and PD_VAT does not leave NAP on its own (R63). -/
def startWake (d : Nat) (s : State) : State :=
  if d = 2 ∨ d = 3 then beginWake 3 (beginWake 2 s) else beginWake d s

/-- The step after a step: for PD_CORE at power-up, the wait for rail group 3 stands behind the first (Table 3.8). -/
def nextStep (d step : Nat) : Nat := if step = 1 ∧ d = 1 then 5 else if step = 1 ∨ step = 5 then 2 else step + 1

/-- What a step that is ready leaves: rail group 3 is switched on at Table 3.8, step 3, and the TIME PLL is locked at its step 4. -/
def stepDone (d step : Nat) (s : State) : State :=
  if d = 1 ∧ step = 1 then { s with pow := { s.pow with vregEn := insertBits s.pow.vregEn 3 1 1 } }
  else if d = 1 ∧ step = 2 then { s with time := { s.time with locked := true } }
  else s

/-- The links and ports of a domain that wakes with its registers restored. -/
def portsWake (d : Nat) (s : State) : State :=
  if d = 6 then hostWake s
  else if d = 7 then fabWake s
  else if 8 ≤ d ∧ d ≤ 15 then
    each (fun h s => if headDomain h = d ∧ s.is HL_CTL.EN h then setHl h 1 s else s) allHeads s
  else s

/-- PD_CORE is on: the level kept by Starter is in force (R93), a restored EN of 1 makes the device a standby (R468), and the events held are raised (R551, R76). -/
def coreUp (s : State) : State :=
  let s := ((s.put SYS_PL.IN_FORCE s.pow.reqCopy).put SYS_PL.REQ s.pow.reqCopy).put SYS_PL.PENDING 0
  let s := dramShow (s.putB PAIR_STATUS.PEER_CLAIM s.pair.peerLow)
  let s := onlyIf (paired s && role s = 0) (setRole 1) s
  let s := { s with pow := { s.pow with phase := .up, rom := true } }
  let s := raiseHeld (s.put AON_STATUS.BOOT 1)
  if s.is AON_STATUS.WAKE_FAIL_PEND then raise SYS_WAKE_FAIL 0 (s.put AON_STATUS.WAKE_FAIL_PEND 0) else s

/-- What a domain does as its logic is released, with its image restored or lost. -/
def domainUp (d : Nat) (lost : Bool) (s : State) : State :=
  let s := hoopPowerBack (railGroup d) ((s.setWake d none).setPd d 2)
  if d = 1 then coreUp s
  else if d = 4 ∨ d = 5 then dramWake (d - 4) lost s
  else if d = 16 then each camShow [0, 1, 2, 3] s
  else if d = 17 then nvmScan (nvmWearShow (lampsWake (axesWake (posWake s))))
  else portsWake d s

/-- A wake completes: the Cave restore of its memory step, and the release of its logic. -/
def wakeDone (d : Nat) (s : State) : State :=
  let (lost, s) := caveRestore d s
  domainUp d lost s

/-- A step's ready signal arrives: the next step begins, or the wake completes. -/
def wakeReady (d : Nat) (s : State) : State :=
  match s.wakeOf d with
  | none => s
  | some w =>
    if w.backoff then s
    else if w.step = 4 then wakeDone d s
    else (stepDone d w.step s).setWake d (some { w with step := nextStep d w.step, attempts := 1 })

/-- Another domain of the rail group of domain d is not OFF. -/
def railShared (d : Nat) (s : State) : Bool :=
  (groupDomains (railGroup d)).any fun e => e ≠ d && railGroup e = railGroup d && s.pd e ≠ 0

/-- The last attempt of a step has failed (R75, R81): the failing step's code is the cause. A wake that enabled its rail group drives VREG_ENn low again, unless another domain runs from it. -/
def wakeFail (d : Nat) (w : Wake) (s : State) : State :=
  let s := starterRecord (if w.step = 5 then 1 else w.step) ((s.put AON_STATUS.DOMAIN d).put AON_STATUS.ATTEMPTS w.attempts)
  if d = 1 then (railsFailed true true (s.setWake d none)).put AON_STATUS.WAKE_FAIL_PEND 1
  else
    let s := (s.setWake d none).setPd d 0
    let s := onlyIf (w.rail && !railShared d s) (fun s => { s with pow := { s.pow with vregEn := insertBits s.pow.vregEn (railGroup d) 1 0 } }) s
    raiseWakeFail s

/-- A step times out: it is retried after a back-off, or it was the last attempt. -/
def wakeTimeout (d : Nat) (s : State) : State :=
  match s.wakeOf d with
  | none => s
  | some w =>
    if w.backoff then s
    else if w.attempts ≤ s.get AON_WAKE_CFG.RETRIES then s.setWake d (some { w with backoff := true })
    else wakeFail d w s

/-- A back-off ends: the step is attempted again. -/
def wakeRetry (d : Nat) (s : State) : State :=
  match s.wakeOf d with
  | none => s
  | some w => if w.backoff then s.setWake d (some { w with backoff := false, attempts := w.attempts + 1 }) else s

/-! ### Power-up and losses (R80 to R83, R85) -/

/-- Table 3.8 from step 2: VDD at the level that Starter keeps. -/
def powerUp (s : State) : State :=
  let s := each (domainOff true) pllDomains s
  beginWake 1 { s with pow := { s.pow with phase := .powerUp, vid := s.pow.reqCopy, warnArmed := true, critArmed := true } }

/-- Power-on reset (R80, step 1): everything but the MRAM, the pins' levels and what has left takes its reset value; the straps are sampled. With TESTMODE high no domain is woken (R61). -/
def powerOn (sbAddr bootSel : Nat) (testmode : Bool) (s : State) : State :=
  let t : State := { State.reset with
    pending := s.pending, tx := s.tx, draws := s.draws, mram := s.mram
    nvm := { counts := s.nvm.counts, boots := s.nvm.boots }
    pair := { State.reset.pair with peerLow := s.pair.peerLow }
    pow := { State.reset.pow with sbAddr := sbAddr, bootSel := bootSel, testmode := testmode, phase := .powerUp }
    time := { State.reset.time with running := true } }
  let t := nvmScan t
  if testmode then t else powerUp t

/-- R82: Starter repeats Table 3.8 from step 2, unless the die is still above 110 degrees after a trip (R85). -/
def repeatPowerUp (s : State) : State :=
  if s.pow.phase = .failed ∧ ¬s.pow.tripped ∧ ¬s.pow.testmode then powerUp s else s

/-- DORMANT ends (R91). -/
def dormantExit (src : Nat) (s : State) : State :=
  if s.pow.phase = .dormant then
    let s := ((s.put AON_STATUS.WAKE_SRC src).put AON_STATUS.TIME_HOLDOVER 1).put TIME_STATUS.STEPPED 0
    powerUp { s with pow := { s.pow with restore := true } }
  else s

/-- A loss that leaves only PD_AON (R83), perhaps during an exit from DORMANT (R81): the next start is a cold boot at PL1. -/
def coldFail (exits : Bool) (s : State) : State :=
  let s := railsFailed false exits s
  { s with pow := { s.pow with restore := false, reqCopy := 1 } }

/-- POWER_GOOD_LOST (R42, R83). -/
def powerGoodLost (g : Nat) (s : State) : State :=
  if bit s.pow.vregEn g then
    let s := hoopPowerLost g s
    let s := (starterRecord 5 s).put AON_STATUS.GROUP g
    let s := onlyIf (g ≠ 2) fabPowerLost s
    if g = 0 ∨ g = 3 then (coldFail (s.pow.phase = .powerUp) s).put AON_STATUS.WAKE_FAIL_PEND 1
    else
      let s := { s with pow := { s.pow with vregEn := insertBits s.pow.vregEn g 1 0 } }
      let s := each (domainOff false) (groupDomains g) s
      raiseWakeFail (onlyIf (g = 2) (fun s => each dramLost [0, 1] (dramWipe s)) s)
  else s

/-- REFCLK_LOST (R53, R83): only while a PLL-derived domain is on. -/
def refclkLost (s : State) : State :=
  if pllDomains.any fun d => s.on d then
    (coldFail false (starterRecord 6 (hoopLatch 5 s))).put AON_STATUS.WAKE_FAIL_PEND 1
  else s

/-- THERMAL_TRIP (R85). -/
def thermalTrip (s : State) : State :=
  let s := coldFail false (starterRecord 7 (hoopLatch 6 s))
  { s with pow := { s.pow with tripped := true } }

/-! ### Temperature (R84) -/

/-- Judge one of the two die temperature cases. -/
def dieCase (crit : Bool) (s : State) : State :=
  let arm := if crit then s.pow.critArmed else s.pow.warnArmed
  let set (b : Bool) (s : State) : State :=
    { s with pow := if crit then { s.pow with critArmed := b } else { s.pow with warnArmed := b } }
  let limit := (if crit then s.getS SYS_TEMP_CFG.CRIT else s.getS SYS_TEMP_CFG.WARN) * 16
  let m := s.getS SYS_TEMP.MAX
  if arm ∧ limit ≤ m then
    let s := raise (if crit then SYS_TEMP_CRIT else SYS_TEMP_WARN) 0 (set false s)
    onlyIf crit (hoopLatch 2) s
  else if ¬arm ∧ m < limit - 48 then set true s
  else s

/-- The index of the hottest sensor, the first on ties. -/
def hottest (ts : List Int) : Nat := ts.findIdx fun t => t = ts.foldl max (ts.headD 0)

/-- TEMP_SENSOR_READING (R84, R85). -/
def tempReading (ts : List Int) (s : State) : State :=
  let m := ts.foldl max (ts.headD 0)
  let s := { s with pow := { s.pow with temps := ts, tripped := s.pow.tripped && !decide (m < 110 * 16) } }
  dieCase true (dieCase false ((s.putS SYS_TEMP.MAX m).put SYS_TEMP.HOTTEST (hottest ts)))

/-- A write of SYS_TEMP_CFG (R84): its status and the state after it. -/
def sysTempCfgWrite (value : Nat) (s : State) : Nat × State :=
  let warn := sext 8 (value / 256)
  let crit := sext 8 value
  if crit > Config.tempCritReset ∨ warn > crit then (stBadParam, s)
  else
    let s := (s.put SYS_TEMP_CFG.WARN (bits value 15 8)).put SYS_TEMP_CFG.CRIT (bits value 7 0)
    (stOk, { s with pow := { s.pow with warnArmed := true, critArmed := true } })

/-! ### Performance levels (R31, R93, R94) -/

/-- A queued or armed page has a cadence above a level's ceiling (R29, R31). -/
def levelTooSlow (s : State) (level : Nat) : Bool :=
  (livePages s).any fun p => !withinCeiling p.period level (tblN s (liveBase s))

/-- VID changes, and the regulator settles for 100 us. -/
def setVid (v : Nat) (s : State) : State :=
  if s.pow.vid = v then s else { s with pow := { s.pow with vid := v } }.put SYS_PL.VSETTLING 1

/-- A write of SYS_PL.REQ (R31, R93, R94): its status and the state after it. A raise changes VID at once; the clock follows at CLOCK_SWITCH. -/
def sysPlWrite (value : Nat) (s : State) : Nat × State :=
  let req := value % 4
  if req ≠ s.get SYS_PL.REQ ∧ levelTooSlow s req then (stBadParam, s)
  else
    let s := { (s.put SYS_PL.REQ req) with pow := { s.pow with reqCopy := req } }
    let now := s.get SYS_PL.IN_FORCE
    (stOk, setVid (min req now) (s.putB SYS_PL.PENDING (req ≠ now)))

/-- CLOCK_SWITCH (R94): the clocks change to the requested level; where it is lower, VID follows. -/
def clockSwitch (s : State) : State :=
  if s.on 1 ∧ s.is SYS_PL.PENDING then
    let req := s.get SYS_PL.REQ
    let s := (s.put SYS_PL.IN_FORCE req).put SYS_PL.PENDING 0
    raise SYS_PL_CHANGED 0 (setVid req s)
  else s

/-! ### DORMANT (R88 to R91) and AON_CTL -/

/-- The segment of a DRAM address (R243). -/
def dramSegment (s : State) (a : Nat) : Nat := (a - 0x1000000000) * 8 / max 1 (dramInstalled s * 2 ^ 20)

/-- The segments that PASR_KEEP does not keep lose their contents. -/
def dramDropSegments (s : State) : State :=
  { s with mem := s.mem.filter fun c => !isDram c.1 || bit (s.get DRAM_MEM_CFG.PASR_KEEP) (dramSegment s c.1) }

/-- Every NVM write in progress or queued is made (R89); the pages that wait are the fuel. -/
def nvmFinish : Nat → State → State
  | 0, s => s
  | n + 1, s => if s.nvm.host.isNone && s.nvm.queue.isEmpty then s else nvmFinish n (nvmPageWritten false false s)

/-- Work that runs when DORMANT is accepted ends (R89). -/
def dormantEnd (s : State) : State :=
  let s := nvmFinish (s.nvm.queue.length + (match s.nvm.host with | some j => j.left.length | none => 0) + 64) s
  let s := each (fun c s => if s.is DMA_CTL.EN c then dmaStop c s else s) (List.range 32) s
  let s := each chkAbort [0, 1, 2, 3] (encAbort s)
  claimLost true (calAbandon (measAbort s))

/-- DORMANT entry (Table 3.11): what the AON oscillator measures is free within its 2 %, every domain is saved, and the rails go off but group 2 where a segment is kept. -/
def dormantEntry (s : State) : State :=
  let s := dormantEnd { s with pow := { s.pow with asked := false } }
  let (p, s) := s.draw 17
  let s := s.put AON_TIME_CAL.PERIOD (0x310000 + p)
  let s := each dramSleep [0, 1] s
  let keep := dramKept s && dramInstalled s ≠ 0
  let s := if keep then dramDropSegments s else dramWipe s
  let s := each (fun d s => if s.on d then caveSave false d s else s) pllDomains s
  let ready := s.dram
  let s := each (domainOff true) pllDomains s
  let s := if keep then { s with dram := ready } else s
  let s := railsOff (if keep then 4 else 0) s
  { s with pow := { s.pow with phase := .dormant }, time := { s.time with locked := false } }

/-- The fields of AON_CTL that a write sets. -/
def aonFields (value : Nat) (s : State) : State :=
  let s := ((s.put AON_CTL.WAKE_CMP (bits value 15 12)).put AON_CTL.WAKE_SB_EN (bits value 9 9)).put AON_CTL.WAKE_PIN_EN (bits value 8 8)
  onlyIf (bit value 31) (fun s => s.put AON_CTL.SB_WR_LOCK 1) s

/-- WAKE_REQ: the end of DORMANT while WAKE_SB_EN is 1, or a repeat of power-up (R82, R91). -/
def wakeRequest (s : State) : State :=
  if s.pow.phase = .dormant then (if s.is AON_CTL.WAKE_SB_EN then dormantExit 2 s else s) else repeatPowerUp s

/-- A write of AON_CTL: its status and the state after it. DORMANT is entered once the reply has been sent. -/
def aonCtlWrite (value : Nat) (s : State) : Nat × State :=
  if bit value 0 ∧ (armed s ∨ ([0, 1, 2, 3, 4, 5].any fun a => axisMoving s a) ∨ jobOpen s) then (stBusy, s)
  else
    let s := onlyIf (bit value 2) hoopFaultClr (aonFields value s)
    let s := onlyIf (bit value 1) wakeRequest s
    (stOk, onlyIf (bit value 0 && s.pow.phase = .up) (fun s => { s with pow := { s.pow with asked := true } }) s)

/-- DORMANT entry runs if it was asked for. -/
def afterReply (s : State) : State := if s.pow.asked then dormantEntry s else s

/-- A write of the AON window by the sideband (R78, R79): index n is SYS + 0x0100 + 4n. -/
def aonWindowWrite (n value : Nat) (s : State) : State :=
  if s.is AON_CTL.SB_WR_LOCK then s
  else if n = 0 then
    let s := onlyIf (bit value 7) (fun s => s.put AON_STATUS.FAIL 0) s
    onlyIf (bit value 3) (fun s => s.put AON_STATUS.TIME_HOLDOVER 0) s
  else if n = 3 then
    (((s.put AON_WAKE_CFG.T_REG (bits value 31 24)).put AON_WAKE_CFG.T_LOCK (bits value 23 16)).put
      AON_WAKE_CFG.BACKOFF (bits value 15 8)).put AON_WAKE_CFG.RETRIES (bits value 2 0)
  else if n = 4 then afterReply (aonCtlWrite value s).2
  else s

/-! ### The boot ROM (R96 to R98) -/

/-- The checks of R96, in order, on an image: header and payload. -/
def imageOk (bs : List Byte) : Bool :=
  let len := leAt bs 12 4
  256 ≤ bs.length && leAt bs 0 4 = 0x46575A46 && leAt bs 4 2 = 1 && len ≤ 983040 && 256 + len ≤ bs.length
    && leAt bs 0x14 1 ≤ 0xB0 && Config.keyHashMatches (slice bs 0x20 97)
    && Config.signatureVerifies (slice bs 0x20 97) (slice bs 0x88 96) (bs.take 0x88 ++ (bs.drop 256).take len)

/-- The header has a valid MAGIC. -/
def imageMagic (bs : List Byte) : Bool := leAt bs 0 4 = 0x46575A46

/-- The copies in the order they are tried: the higher IMAGE_VERSION first, copy A first where they are equal. With each, the BOOT code of Table 3.7. -/
def norOrder (r : NorRead) : List (Nat × List Byte) :=
  if leAt r.copyA 8 4 < leAt r.copyB 8 4 then [(3, r.copyB), (2, r.copyA)] else [(2, r.copyA), (3, r.copyB)]

/-- The copies as the ROM reads them: single I/O reads where neither header of the quad reads has a valid MAGIC. -/
def norChosen (quad single : NorRead) : NorRead := if imageMagic quad.copyA || imageMagic quad.copyB then quad else single

/-- NOR_IMAGE_LOAD (R97, R98). -/
def norLoad (quad single : NorRead) (s : State) : State :=
  if s.pow.rom ∧ s.get AON_STATUS.BOOT = 1 ∧ (s.pow.bootSel = 0 ∨ s.pow.bootSel = 3) then
    match (norOrder (norChosen quad single)).find? fun e => imageOk e.2 with
    | some e => s.put AON_STATUS.BOOT e.1
    | none =>
      let s := raise SYS_FW_REJECT 0 (s.put AON_STATUS.BOOT 8)
      if s.pow.bootSel = 3 then s else { s with pow := { s.pow with rom := false } }
  else s

/-- The host port that the ROM uses (R37, R99). -/
def bootPort (s : State) : Nat := if s.pow.bootSel = 2 then 1 else 0

/-- The ROM waits for a host image once PD_HOST, PD_PIPE and PD_VAT are on: the port comes up as 100GBASE-R with RS-FEC (R99). -/
def hostBootReady (s : State) : State :=
  if s.pow.hostBoot ∧ s.on 6 ∧ s.on 2 ∧ s.on 3 then
    let p := bootPort s
    let s := ((s.put HOST_CTL.EN 1 p).put HOST_CTL.MODE 0 p).put HOST_CTL.FEC_EN 1 p
    { (s.put AON_STATUS.BOOT 9) with pow := { s.pow with hostBoot := false, romHost := true } }
  else s

/-- HOST_BOOT_START (R99). -/
def hostBootStart (s : State) : State :=
  let sel := s.pow.bootSel
  if s.pow.rom ∧ ((s.get AON_STATUS.BOOT = 1 ∧ (sel = 1 ∨ sel = 2)) ∨ (s.get AON_STATUS.BOOT = 8 ∧ sel = 3)) then
    hostBootReady (startWake 2 (startWake 6 { s with pow := { s.pow with hostBoot := true, rom := false } }))
  else s

/-- A domain that the ROM waits for has failed to wake: the ROM stops, and R82 applies. -/
def hostBootFailed (d : Nat) (s : State) : State :=
  if s.pow.hostBoot ∧ (d = 6 ∨ d = 2 ∨ d = 3) then
    { s with pow := { s.pow with hostBoot := false, phase := .failed } }
  else s

/-! ### The events of this chapter that need no more -/

/-- POWER_ON_RESET (R80). -/
def execPowerOnReset (sbAddr bootSel : BitVec 2) (testmode : Bool) (s : State) : Host.Outcome State Fault Refusal :=
  .next (powerOn sbAddr.toNat bootSel.toNat testmode s)

/-- REFCLK_LOST (R53). -/
def execRefclkLost (s : State) : Host.Outcome State Fault Refusal := .next (refclkLost s)

/-- THERMAL_TRIP (R85). -/
def execThermalTrip (s : State) : Host.Outcome State Fault Refusal := .next (thermalTrip s)

/-- TEMP_SENSOR_READING (R84). -/
def execTempSensorReading (readings : Vector (BitVec 16) 8) (s : State) : Host.Outcome State Fault Refusal :=
  .next (tempReading (readings.toList.map BitVec.toInt) s)

/-- BLOCK_IDLE (R64). -/
def execBlockIdle (domain : Fin 18) (block : Fin 22) (s : State) : Host.Outcome State Fault Refusal :=
  .next (blockIdle domain.val block.val s)

/-- NAP_ENTRY (R67). -/
def execNapEntry (domain : Fin 18) (requested : Bool) (s : State) : Host.Outcome State Fault Refusal :=
  .next (napEntry domain.val requested s)

/-- WAKE_BACKOFF_EXPIRY (R75). -/
def execWakeBackoffExpiry (domain : Fin 18) (s : State) : Host.Outcome State Fault Refusal := .next (wakeRetry domain.val s)

/-- DOMAIN_WAKE_REQUEST (R73): a request joins a wake in progress (R77). -/
def execDomainWakeRequest (domain : Fin 18) (s : State) : Host.Outcome State Fault Refusal :=
  .next (if s.on 1 then startWake domain.val s else s)

/-- NOR_IMAGE_LOAD (R97). -/
def execNorImageLoad (quad single : NorRead) (s : State) : Host.Outcome State Fault Refusal := .next (norLoad quad single s)

/-- HOST_BOOT_START (R99). -/
def execHostBootStart (s : State) : Host.Outcome State Fault Refusal := .next (hostBootStart s)

/-- WAKE_N_LOW (R82, R91). -/
def execWakeNLow (s : State) : Host.Outcome State Fault Refusal :=
  .next (if s.pow.phase = .dormant then (if s.is AON_CTL.WAKE_PIN_EN then dormantExit 1 s else s) else repeatPowerUp s)

/-- CLOCK_SWITCH (R94). -/
def execClockSwitch (s : State) : Host.Outcome State Fault Refusal := .next (clockSwitch s)

/-- VID_SETTLED (R93). -/
def execVidSettled (s : State) : Host.Outcome State Fault Refusal := .next (s.put SYS_PL.VSETTLING 0)

/-- SIDEBAND_AON_WRITE (R79). -/
def execSidebandAonWrite (index : Byte) (value : Word) (s : State) : Host.Outcome State Fault Refusal :=
  .next (aonWindowWrite index.toNat value.toNat s)

end Sys2Proof.Machine
end

