-- ==== Sys2Proof/Machine/TimeCmd.lean ====
section
/-! DEFINITION. TIME: rate, epoch and step, compares and scheduled launches (R153 to R160, R165 to R169). -/

namespace Sys2Proof.Machine

/-! ### Compares (R165) -/

/-- TIME_CMP_REACHED: a compare that is armed and reached acts, and ends DORMANT if WAKE_CMP allows it. -/
def timeCmpReached (n : Nat) (s : State) : State :=
  if s.is TIME_CMP.EN n ∧ s.reached48 (mapGet 0 s.time.targets n) then
    let s := raise (TIME_CMP0 + n) 0 ((s.put TIME_CMP.EN 0 n).put TIME_CMP.REACHED 1 n)
    if bit (s.get AON_CTL.WAKE_CMP) n then dormantExit 3 s else s
  else s

/-- Every compare is judged. -/
def timeCompares (s : State) : State := each timeCmpReached [0, 1, 2, 3] s

/-- A write of TIME_CMPn_HI loads the whole target and sets EN as written; a 1 in REACHED clears it. -/
def timeCmpWrite (n value : Nat) (s : State) : State :=
  let s := s.put TIME_CMP.TGT (s.get TIME_CMP.TGT n % 2 ^ 32 + value % 65536 * 2 ^ 32) n
  let s := onlyIf (bit value 30) (fun s => s.put TIME_CMP.REACHED 0 n) (s.put TIME_CMP.EN (bits value 31 31) n)
  timeCmpReached n { s with time := { s.time with targets := mapSet 0 n (s.get TIME_CMP.TGT n) s.time.targets } }

/-! ### Scheduled launch (R167 to R169) -/

/-- The first byte of Vat region 8. -/
def launchBase : Nat := 0x0100F00000

/-- The frame of a launch slot. -/
def launchFrame (s : State) (l : Nat) : List Byte :=
  s.bytes (launchBase + s.get TIME_LNCH_ADDR.OFFSET l) (s.get TIME_LNCH_LEN.LEN l)

/-- A frame suits the port of a code: an Ethernet frame of 60 to 9,014 bytes, or 9,018 with a tag, or one whole cell within the port's limit. -/
def launchFits (s : State) (port : Nat) (bs : List Byte) : Bool :=
  if port < 2 then 60 ≤ bs.length && bs.length ≤ (if beAt bs 12 2 = 0x8100 then 9018 else 9014)
  else 8 ≤ bs.length && bs.length = 8 + beAt bs 5 1 && bs.length ≤ (s.fabPort (port - 8)).maxCell

/-- The frame lies wholly in Vat region 8, at a multiple of 8 (R167). -/
def launchPlaced (s : State) (l : Nat) : Bool :=
  s.get TIME_LNCH_ADDR.OFFSET l % 8 = 0 && s.get TIME_LNCH_ADDR.OFFSET l + s.get TIME_LNCH_LEN.LEN l ≤ 0x300000

/-- The port of a code can send: LINK, or ACTIVE. -/
def launchLink (s : State) (port : Nat) : Bool := if port < 2 then s.is HOST_STATUS.LINK port else fabActive s (port - 8)

/-- The frame leaves. -/
def launchEmit (port : Nat) (bs : List Byte) (s : State) : State :=
  if port < 2 then s.emit (.frame port bs) else fabPush (port - 8) bs s

/-- How long a frame of n bytes is on the line of a port, in ns: with the FCS at 100 or 10 Gbit/s on a host port (R168); in blocks of 66 bits, two of them control blocks, at 32 Gbit/s on the fabric (R170, R171). -/
def launchTime (s : State) (port n : Nat) : Nat :=
  if port < 2 then (if s.get HOST_STATUS.MODE_IN_FORCE port = 1 then ((n + 4) * 8 + 9) / 10 else ((n + 4) * 8 + 99) / 100)
  else (((n + 7) / 8 + 2) * 66 + 31) / 32

/-- The raw count until which a launch is still sending on a port. -/
def launchUntil (s : State) (port : Nat) : Nat := mapGet 0 s.time.sending port

/-- A waiting slot waits on: its port still sends another launch (R169). -/
def launchHeld (s : State) (port : Nat) : Bool := launchLink s port && s.time.raw < launchUntil s port

/-- LAUNCH_SENT: the target of a waiting slot is reached, and its frame leaves on time, leaves late or is dropped. -/
def launchSent (l : Nat) (s : State) : State :=
  let j := mapGet { frame := [], port := 0, target := 0 } s.time.launches l
  if s.get TIME_LNCH_CFG.STATE l = 1 ∧ s.reached48 j.target ∧ ¬launchHeld s j.port then
    let late := (-(s.until48 j.target)).toNat
    let s := { s with time := { s.time with launches := mapDel l s.time.launches } }
    let info := l + 65536 * min 0xFFFF (late / 1000)
    if launchLink s j.port then
      let onTime : Bool := late ≤ (if j.port < 2 then 10 else 3) && launchUntil s j.port + late ≤ s.time.raw
      let s := { s with time := { s.time with sending := mapPut j.port (s.time.raw + launchTime s j.port j.frame.length) s.time.sending } }
      let s := (launchEmit j.port j.frame s).put TIME_LNCH_SENT.SENT s.now l
      if onTime then s.put TIME_LNCH_CFG.STATE 2 l
      else raise TIME_LAUNCH_LATE info (s.put TIME_LNCH_CFG.STATE 3 l)
    else raise TIME_LAUNCH_LATE (info + 8) (s.put TIME_LNCH_CFG.STATE 4 l)
  else s

/-- A write of TIME_LNCHL_CFG (R167): its status and the state after it. A target already reached is sent at once. -/
def timeLnchWrite (l value : Nat) (s : State) : Nat × State :=
  let port := bits value 7 4
  let en := bit value 0
  let waiting := s.get TIME_LNCH_CFG.STATE l = 1
  if 2 ≤ port ∧ port < 8 then (stBadParam, s)
  else if en then
    if !launchPlaced s l || !launchFits s port (launchFrame s l) then (stBadParam, s)
    else if waiting then (stBusy, s)
    else
      let j : Launch := { frame := launchFrame s l, port := port, target := s.get TIME_LNCH_TGT.TGT l }
      let s := { s with time := { s.time with launches := mapPut l j s.time.launches } }
      (stOk, launchSent l (((s.put TIME_LNCH_CFG.PORT port l).put TIME_LNCH_CFG.EN 1 l).put TIME_LNCH_CFG.STATE 1 l))
  else
    let s := (s.put TIME_LNCH_CFG.PORT port l).put TIME_LNCH_CFG.EN 0 l
    (stOk, if waiting then { s with time := { s.time with launches := mapDel l s.time.launches } }.put TIME_LNCH_CFG.STATE 0 l else s)

/-! ### Rate, epoch and step (R153 to R160) -/

/-- A rate takes effect at the raw count now: it is clamped, and the offset is rebased so that corrected time does not jump (R153, R154). -/
def timeSetRate (req : Int) (s : State) : State :=
  let m : Int := s.get TIME_RATE_MAX.MAX
  let rate := clampI req (-m) m
  let raw : Int := s.time.raw
  let s := (s.setOffsetQ (s.offsetQ + asr (raw * s.getS TIME_RATE.RATE) 24 - asr (raw * rate) 24)).putS TIME_RATE.RATE rate
  if rate = req then s.put TIME_STATUS.RATE_CLAMPED 0
  else raise TIME_RATE_LIMIT (wrap 32 req) (s.put TIME_STATUS.RATE_CLAMPED 1)

/-- A write of TIME_RATE by a master class (R159): its status and the state after it. -/
def timeRateWrite (cls value : Nat) (s : State) : Nat × State :=
  if s.get TIME_CTL.SRC ≠ 0 ∧ cls ≠ 3 then (stBusy, s) else (stOk, timeSetRate (sext 32 value) s)

/-- A write of TIME_CTL (R156, R159): its status and the state after it. -/
def timeCtlWrite (value : Nat) (s : State) : Nat × State :=
  let src := bits value 1 0
  let moved : Bool := src ≠ s.get TIME_CTL.SRC || bit value 8
  if src = 3 then (stBadParam, s)
  else if moved ∧ armed s then (stBusy, s)
  else (stOk, onlyIf moved (fun s => s.put TIME_STATUS.STEPPED 0) (s.put TIME_CTL.SRC src))

/-- After a step, every compare and launch slot that waits is judged against the new corrected time (R160). -/
def timeJudge (s : State) : State := each launchSent [0, 1, 2, 3, 4, 5, 6, 7] (timeCompares s)

/-- The offset after a step (R157), in 2^-16 ns: VALUE and FRAC as one figure. -/
def stepOffset (s : State) (relative : Bool) (rawAt : Nat) (valueQ : Int) : Int :=
  if relative then s.offsetQ + valueQ
  else valueQ - ((rawAt : Int) * 65536 + asr ((rawAt : Int) * s.getS TIME_RATE.RATE) 24)

/-- The outcome of the checks of R157, in their order. -/
def stepStatus (s : State) (cls : Nat) (relative : Bool) (rawAt : Nat) : Nat :=
  if s.get TIME_CTL.SRC ≠ 0 ∧ cls ≠ 3 then stBusy
  else if armed s ∨ s.is TIME_STATUS.STEPPED then stStepRefused
  else if !relative ∧ 1000000000 < ((rawAt : Int) - s.time.raw).natAbs then stBadParam
  else stOk

/-- STEP_RESULT of an outcome (Table 5.8). -/
def stepResult (st : Nat) : Nat := if st = stOk then 1 else if st = stStepRefused then 2 else 3

/-- A step by any route (R157, R158): its status, and the state with STEP_RESULT. -/
def timeStepDo (cls : Nat) (relative : Bool) (rawAt : Nat) (valueQ : Int) (s : State) : Nat × State :=
  let st := stepStatus s cls relative rawAt
  let s := s.put TIME_STATUS.STEP_RESULT (stepResult st)
  if st = stOk then
    let s := (s.setOffsetQ (stepOffset s relative rawAt valueQ)).put TIME_STATUS.STEPPED 1
    (st, timeJudge (raise TIME_STEP_DONE (b2n relative) s))
  else (st, s)

/-- The parameters of TIME_STEP at step 10: reserved bits and bytes are 0 (R157). -/
def timeStepOk (ps : List Byte) : Bool := ps.length = 24 && beAt ps 0 4 < 2 && beAt ps 22 2 = 0

/-- The action of TIME_STEP (R157). -/
def timeStepCmd (e : Env) (ps : List Byte) (s : State) : Res :=
  let (st, s) := timeStepDo e.cls (bit (beAt ps 0 4) 0) (beAt ps 4 8) (sext 64 (beAt ps 12 8) * 65536 + beAt ps 20 2) s
  { st := st, s := s }

/-- The fields of TIME_STEP_CFG. -/
def stepCfg (value : Nat) (s : State) : State := (s.put TIME_STEP_CFG.RELATIVE (bits value 16 16)).put TIME_STEP_CFG.FRAC (bits value 15 0)

/-- A step by the register route, with the fields as they stand (R158). -/
def stepGo (cls : Nat) (s : State) : Nat × State :=
  timeStepDo cls (s.is TIME_STEP_CFG.RELATIVE) (s.get TIME_STEP_RAW.RAW_AT)
    (s.getS TIME_STEP_VAL.VALUE * 65536 + s.get TIME_STEP_CFG.FRAC) s

/-- A write of TIME_STEP_CFG (R158): its status and the state after it. -/
def timeStepCfgWrite (cls value : Nat) (s : State) : Nat × State :=
  if bit value 31 then
    let (st, t) := stepGo cls (stepCfg value s)
    if st = stOk then (st, t) else (st, s)
  else (stOk, stepCfg value s)

/-- What a refused GO leaves: STEP_RESULT. -/
def timeStepReport (cls value : Nat) (s : State) : State :=
  s.put TIME_STATUS.STEP_RESULT (stepResult (stepGo cls (stepCfg value s)).1)

/-- TIME_CMP_REACHED (R165). -/
def execTimeCmpReached (cmp : Fin 4) (s : State) : Host.Outcome State Fault Refusal := .next (timeCmpReached cmp.val s)

/-- LAUNCH_SENT (R168). -/
def execLaunchSent (slot : Fin 8) (s : State) : Host.Outcome State Fault Refusal := .next (launchSent slot.val s)

end Sys2Proof.Machine
end

