-- ==== Sys2Proof/Machine/RegRead.lean ====
section
/-! DEFINITION. Reading registers and memory words: computed values, the captures of R14, and which addresses exist (R7 to R9, R14, R26, R72, R106, R155, R234, R278). -/

namespace Sys2Proof.Machine

/-! ### Values that no field stores -/

/-- EVT_COUNTn: bits [8j+7:8j] hold the count of source 4n + j. -/
def evtCountWord (n : Nat) (s : State) : Nat :=
  evtCount s (4 * n) + 256 * evtCount s (4 * n + 1) + 65536 * evtCount s (4 * n + 2) + 16777216 * evtCount s (4 * n + 3)

/-- The row offset of a head in the table in force, for the direction of the page being printed (R254). -/
def pfOffset (s : State) (h : Nat) : Nat :=
  let rev := (s.ing.pages.find? fun p => p.stage = 1).any fun p => p.reverse
  tblFetch s (liveBase s) h rev

/-- Head 4c + i is fetched while a job is open. -/
def pfValid (s : State) (c h : Nat) : Bool := c < 16 && jobOpen s && s.is NMAP_STATUS.TABLE && tblHead s (liveBase s) h

/-- Heads with a trim block queued. -/
def trimPend (s : State) : Nat := (allHeads.filter fun h => s.nmap.trims.any fun e => e.1 = h).foldl (fun m h => m + 2 ^ h) 0

/-- Commands outstanding in the device that wait (R113); a command that is carried out at once is counted in its own reply only. -/
def inFlight (s : State) : Nat := s.cmd.waiting.length

/-- The computed fields, by the bit address of the first of each array, with their values. -/
def views : List (Nat × (Nat → Nat → State → Nat)) :=
  [(TIME_RAW.RAW.at0, fun _ _ s => s.time.raw % 2 ^ 64), (TIME_NOW.NOW.at0, fun _ _ s => s.now),
   (TIME_NOW_FRAC.FRAC.at0, fun _ _ s => wrap 16 s.nowQ),
   (EVT_PENDING.PENDING.at0, fun w _ s => s.evt.pend.toNat / 2 ^ (32 * w) % 2 ^ 32), (EVT_SUMMARY.GROUP.at0, fun _ _ s => evtSummary s),
   (EVT_COUNT.COUNT.at0, fun n _ s => evtCountWord n s), (EVT_SUB_SEQ.SEQ.at0, fun n _ s => mapGet 0 s.evt.seqs n),
   (SYS_CMD_INFLIGHT.NOW.at0, fun _ _ s => inFlight s), (FIRE_ING_FREE.FREE.at0, fun _ _ s => slotsFree s),
   (FIRE_ING_QUEUE.DEPTH.at0, fun _ _ s => queueDepth s), (FIRE_ING_QUEUE.HEAD.at0, fun _ _ s => queueHead s),
   (FIRE_TRIG_PEND.COUNT.at0, fun _ _ s => s.fire.triggers.length), (HL_ID_WIN.WORD.at0, fun h w s => idWindow s h w),
   (NHA_D_CAM.ROWS.at0, fun _ _ s => dCam s), (DMA_PF_OFFSET.ENABLED.at0, fun c i s => b2n (pfValid s c (4 * c + i))),
   (DMA_PF_OFFSET.OFFSET.at0, fun c i s => if pfValid s c (4 * c + i) then pfOffset s (4 * c + i) else 0),
   (NMAP_TRIM_PEND.PEND.at0, fun _ _ s => trimPend s), (CHK_VALUE.VALUE.at0, fun u _ s => chkValue s u),
   (CHK_RESULT.RESULT.at0, fun u _ s => chkResult s u), (NVM_LOG_NEXT.SEQ.at0, fun _ _ s => nvmNext s 5), (ACC_VAT.RIGHTS.at0, fun r _ s => if r < 11 then s.get ACC_VAT.RIGHTS r else 0)]

/-- The value of a field as a read shows it. -/
def viewField (F : Fld) (i j : Nat) (s : State) : Nat :=
  match views.find? fun e => e.1 = F.at0 with
  | some e => e.2 i j s
  | none => s.get F i j

/-! ### Register reads -/

/-- The part of a field's value that a slot shows, at its place. -/
def Slot.place (t : Slot) (v : Nat) : Nat := v / 2 ^ t.off % 2 ^ (t.hi + 1 - t.lo) * 2 ^ t.lo

/-- The value captured for a reader at an address. -/
def captured (s : State) (rd a : Nat) : Option Nat := (s.cmd.captures.find? fun e => e.1 = rd ∧ e.2.1 = a).map fun e => e.2.2

/-- Drop a reader's capture at an address. -/
def uncapture (rd a : Nat) (s : State) : State :=
  { s with cmd := { s.cmd with captures := s.cmd.captures.filter fun e => !(e.1 = rd && e.2.1 = a) } }

/-- Capture a value for a reader at an address. -/
def capture (rd a v : Nat) (s : State) : State :=
  let s := uncapture rd a s
  { s with cmd := { s.cmd with captures := s.cmd.captures ++ [(rd, a, v)] } }

/-- The registers that a read of the low word of POS_OBS_X captures beside X (R278): offset and field. -/
def obsSet (n : Nat) (s : State) : List (Nat × Nat) :=
  let b := 0x700000 + 0x1000 * n
  [(b + 0x28, s.get POS_OBS_FRAC.FRAC n), (b + 0x2C, s.get POS_OBS_V.V n), (b + 0x30, s.get POS_OBS_A.A n),
   (b + 0x34, s.get POS_OBS_T.T n), (b + 0x38, s.get POS_OBS_T.T n)]

/-- What else a read of a low word captures (R155, R278). -/
def capturedWith (a i : Nat) (s : State) : List (Nat × Nat) :=
  if a = 0x200010 then [(0x200018, wrap 16 s.nowQ)]
  else if a = 0x20002C then [(0x200028, s.get TIME_OFFSET_FRAC.FRAC)]
  else if a = 0x700020 + 0x1000 * i then obsSet i s
  else []

/-- What a read of the word at an address captures: the high word of a value that spans two registers, and the set of R155 or R278. -/
def captureOf (r : RegRow) (i j a : Nat) (s : State) : List (Nat × Nat) :=
  match r.slots.find? fun t => t.off = 0 && t.hi + 1 - t.lo = 32 && t.fld.len > 32 with
  | some t => (a + 4, viewField t.fld i j s) :: capturedWith a i s
  | none => []

/-- The word at an address with a captured value in place of one field's, where there is one: that of the field that spans two registers, or else the only field. -/
def wordWith (r : RegRow) (i j : Nat) (c : Option Nat) (s : State) : Nat :=
  let wide (t : Slot) : Bool := t.fld.len > 32 || r.slots.length = 1
  r.slots.foldl (fun v t => if t.acc = .wo then v else v + t.place (match c with
    | some x => if wide t then x else viewField t.fld i j s
    | none => viewField t.fld i j s)) 0

/-- Read a register as a reader: a captured value is returned once, and a low word captures (R14). -/
def regRead (rd a : Nat) (s : State) : Nat × State :=
  if a = 0x502000 then (dmaSummary s, s)
  else match rowAt a with
    | none => (0, s)
    | some (r, i, j) =>
      match captured s rd a with
      | some x => (wordWith r i j (some x) s, uncapture rd a s)
      | none => (wordWith r i j none s, (captureOf r i j a s).foldl (fun t e => capture rd e.1 e.2 t) s)

/-- The fields that Ripening holds (R404): a read of them while they are stale answers STALE. -/
def staleWord (s : State) (a : Nat) : Bool :=
  match rowAt a with
  | some (r, i, _) =>
    if r.base = 0xA00308 then s.is HL_FIRE_DELAY.STALE i
    else if r.base = 0xA0000C then s.is HL_RX_PHASE.STALE i
    else (r.base = 0x700060 || r.base = 0x700064 || r.base = 0x700068) && s.is POS_SC_PHASE.STALE i
  | none => false

/-! ### Addresses (R7, R9, R26, R72, R234) -/

/-- An address is in a register window. -/
def inRegs (a : Nat) : Bool := isReg a && !isCave a

/-- A word exists at an address: reads of it are valid. -/
def readable (s : State) (a : Nat) : Bool :=
  if isCave a then true
  else if inRegs a then (rowAt a).isSome
  else if isVat a then vatRegion a ≠ 9
  else isDram a && dramOk s a 4

/-- A word exists at an address, and writes of it are valid. -/
def writable (s : State) (a : Nat) : Bool := if isCave a then isScratch a else readable s a

/-! ### Words -/

/-- Read a word of memory. A region that the device itself writes while armed shows a snapshot that is free (R27), and the layout of the Cave's images is the device's own (R72). -/
def memRead (a : Nat) (s : State) : Nat × State :=
  if (isCave a && !isScratch a) || (armed s && lockedWhileArmed a) then s.draw 32
  else let s := eccRead a 4 s; (s.le a 4, s)

/-- Read the word at an address as a reader. -/
def wordRead (rd a : Nat) (s : State) : Nat × State := if inRegs a then regRead rd a s else memRead a s

/-- Read n words in ascending order, with whether any is stale. -/
def wordsRead (rd : Nat) : Nat → Nat → State → List Nat × Bool × State
  | 0, _, s => ([], false, s)
  | n + 1, a, s =>
    let st := inRegs a && staleWord s a
    let (v, s) := wordRead rd a s
    let (vs, st', s) := wordsRead rd n (a + 4) s
    (v :: vs, st || st', s)

end Sys2Proof.Machine
end

