-- ==== Sys2Proof/Machine/RegWrite.lean ====
section
/-! DEFINITION. Writing registers and memory words: what each register's write does and when it is refused (R8, R10 to R12, R27, R106, R108, and the register rules of each chapter). -/

namespace Sys2Proof.Machine

/-! ### The word as written -/

/-- The bits of a row whose fields store what is written. -/
def RegRow.plainMask (r : RegRow) : Nat :=
  r.slots.foldl (fun m t => if t.acc = .rw ∨ t.acc = .rwc then m + (2 ^ (t.hi + 1 - t.lo) - 1) * 2 ^ t.lo else m) 0

/-- A word for the row's rules: the stored fields take one value, and W1C, W1S and WO bits another (R108). -/
def RegRow.combine (r : RegRow) (plain one : Nat) : Nat :=
  (plain &&& r.plainMask) + (one &&& not32 r.plainMask)

/-- What a written word does to one field (Table 0.6). -/
def Slot.write (t : Slot) (v i j : Nat) (s : State) : State :=
  match t.acc with
  | .rw | .rwc => t.store v s i j
  | .w1c => s.put t.fld (s.get t.fld i j &&& not32 (v / 2 ^ t.lo % 2 ^ (t.hi + 1 - t.lo) * 2 ^ t.off)) i j
  | .w1s => s.put t.fld (s.get t.fld i j ||| (v / 2 ^ t.lo % 2 ^ (t.hi + 1 - t.lo) * 2 ^ t.off)) i j
  | .ro | .wo => s

/-- What a written word does to every field of a row. -/
def storeWord (r : RegRow) (i j v : Nat) (s : State) : State := each (fun t s => t.write v i j s) r.slots s

/-- The write changes a stored field of the row. -/
def changesWord (r : RegRow) (i j v : Nat) (s : State) : Bool := (r.word (storeWord r i j v s) i j) ≠ r.word s i j

/-! ### SYS, ACC and EVT -/

/-- SYS registers. NAP_EN of PD_CORE and PD_HOST reads 0 (R66). -/
def writeSys (r : RegRow) (i j v : Nat) (s : State) : Nat × State :=
  if r.base = 0x44 then sysTempCfgWrite v s
  else if r.base = 0x10 then sysPlWrite v s
  else if r.base = 0x110 then aonCtlWrite v s
  else if r.base = 0x204 ∧ (i = 0 ∨ i = 5) then (stOk, storeWord r i j (v / 2 * 2) s)
  else (stOk, storeWord r i j v s)

/-- Every entry of the access tables keeps the CORE field at 0b111 (R126). -/
def keepCore (v : Nat) : Nat := insertBits v 9 3 7

/-- The fields of an ACC register that a write sets. -/
def storeAcc (r : RegRow) (i j v : Nat) (s : State) : State :=
  if r.base = 0x10004 then
    if bit v 31 then (s.put ACC_VIOL_INFO.VALID 0).put ACC_VIOL_COUNT.COUNT 0 else s
  else if r.base = 0x10200 ∧ 11 ≤ i then s
  else if r.base = 0x10100 ∨ r.base = 0x10200 ∨ r.base = 0x10308 ∨ r.base = 0x10400 then storeWord r i j (keepCore v) s
  else storeWord r i j v s

/-- ACC registers: under LOCK only CORE may write them (Table 4.10). -/
def writeAcc (e : Env) (r : RegRow) (i j v : Nat) (s : State) : Nat × State :=
  if s.is ACC_CTL.LOCK ∧ e.cls ≠ 3 then (stDenied, s) else (stOk, storeAcc r i j v s)

/-- The defined sources of a word (Table 4.12). -/
def evtDefined (w : Nat) : Nat := [0xFFFF0FFF, 0xFFFF1FFF, 0x070FFF01, 0xFF3F1FFF].getD w 0

/-- Clear one source: its PENDING and its count (R129). -/
def evtClear (n : Nat) (s : State) : State :=
  { s with evt := { s.evt with pend := s.evt.pend &&& ~~~(1#128 <<< n), counts := mapDel n s.evt.counts } }

/-- A write of EVT_PENDINGw. -/
def evtClearWord (w v : Nat) (s : State) : State :=
  each (fun b s => if bit v b then evtClear (32 * w + b) s else s) (List.range 32) s

/-- EVT registers: reserved sources are RO 0 in ENABLE and RO 1 in PIN_MASK (R131). -/
def writeEvt (r : RegRow) (i j v : Nat) (s : State) : Nat × State :=
  if r.base = 0x20000 then (stOk, s.put EVT_ENABLE.ENABLE (v &&& evtDefined i) i)
  else if r.base = 0x20010 then (stOk, evtClearWord i v s)
  else if r.base = 0x20020 then (stOk, s.put EVT_PIN_MASK.PIN_MASK (v ||| not32 (evtDefined i)) i)
  else if r.base = 0x20100 ∧ bits v 29 28 = 3 then (stBadParam, s)
  else (stOk, storeWord r i j v s)

/-! ### HOST, TIME, FAB and CODEC -/

/-- HOST_MCAST takes 0 or an IPv4 multicast group (Table 5.5). -/
def mcastOk (v : Nat) : Bool := v = 0 || (0xE0000000 ≤ v && v ≤ 0xEFFFFFFF)

/-- A write of HOST_PTP_CFG (R161): a port whose EN changes starts its servo afresh. -/
def ptpCfgWrite (r : RegRow) (i j v : Nat) (s : State) : Nat × State :=
  if bit v 0 ∧ s.is HOST_PTP_CFG.EN (1 - i) then (stBadParam, s)
  else
    let s' := storeWord r i j v s
    (stOk, if bit v 0 = s.is HOST_PTP_CFG.EN i then s' else { s' with host := { s'.host with ptp := mapDel i s'.host.ptp } })

/-- HOST registers. -/
def writeHost (r : RegRow) (i j v : Nat) (s : State) : Nat × State :=
  if r.base = 0x100000 then hostCtlWrite i v s
  else if r.base = 0x100014 ∧ !mcastOk v then (stBadParam, s)
  else if r.base = 0x100020 then ptpCfgWrite r i j v s
  else (stOk, storeWord r i j v s)

/-- TIME registers. -/
def writeTime (e : Env) (r : RegRow) (i j v : Nat) (s : State) : Nat × State :=
  if r.base = 0x200000 then timeCtlWrite v s
  else if r.base = 0x200020 then timeRateWrite e.cls v s
  else if r.base = 0x200050 then timeStepCfgWrite e.cls v s
  else if r.base = 0x200104 then (stOk, timeCmpWrite i v s)
  else if r.base = 0x200200 then timeLnchWrite i v s
  else (stOk, storeWord r i j v s)

/-- FAB registers. -/
def writeFab (r : RegRow) (i j v : Nat) (s : State) : Nat × State :=
  if r.base = 0x300000 then fabCtlWrite i v s
  else if r.base = 0x320004 then
    if bits v 29 20 < bits v 19 10 then (stBadParam, s) else (stOk, fabAlone (storeWord r i j v s))
  else (stOk, storeWord r i j v s)

/-- CODEC registers. -/
def writeCodec (r : RegRow) (i j v : Nat) (s : State) : Nat × State :=
  if r.base = 0x400100 then encCtlWrite v s else (stOk, storeWord r i j v s)

/-! ### FIRE, DRAM and DMA -/

/-- FIRE registers (R341, R358). -/
def writeFire (r : RegRow) (i j v : Nat) (s : State) : Nat × State :=
  if r.base = 0x900108 then (if bit v 31 then wfGo s else (stOk, s))
  else if (r.base = 0x900008 ∨ r.base = 0x90000C ∨ r.base = 0x900010) ∧ armed s ∧ changesWord r i j v s then (stBusy, s)
  else (stOk, storeWord r i j v s)

/-- DRAM registers. -/
def writeDram (r : RegRow) (i j v : Nat) (s : State) : Nat × State :=
  if r.base = 0x600000 then dramCtlWrite i v s
  else if r.base = 0x600100 then memCfgWrite v s
  else if r.base = 0x600110 then dramMapWrite i v s
  else (stOk, storeWord r i j v s)

/-- A write of DMA_CTL (R250, R251, R256). -/
def dmaCtlWrite (c v : Nat) (s : State) : Nat × State :=
  if bit v 1 ∧ dmaShadow s c ≠ 0 then (stBusy, s)
  else
    let was := s.is DMA_CTL.EN c
    let s := onlyIf (bit v 1) (shadowValid c) s
    (stOk, if bit v 0 then dmaTake c (dmaStart c s) else if was then dmaStop c s else s)

/-- DMA registers. -/
def writeDma (r : RegRow) (i j v : Nat) (s : State) : Nat × State :=
  if r.base ≠ 0x502000 ∧ dmaPrinting s i then (stBusy, s)
  else if r.base = 0x500000 then dmaCtlWrite i v s
  else if r.base = 0x500020 ∧ dmaShadow s i ≠ 0 then (stBusy, s)
  else (stOk, storeWord r i j v s)

/-! ### POS and NMAP -/

/-- The configuration that R260 locks while EN is 1. -/
def posLocked (b : Nat) : Bool :=
  [0x700040, 0x700054, 0x700058, 0x70005C, 0x70006C, 0x700070, 0x700080, 0x700084, 0x700088, 0x70008C].contains b

/-- The coefficients that Ripening governs. -/
def posCoef (b : Nat) : Bool := [0x700060, 0x700064, 0x700068].contains b

/-- POS registers. -/
def writePos (r : RegRow) (i j v : Nat) (s : State) : Nat × State :=
  if r.base = 0x700000 then posCtlWrite i v s
  else if posLocked r.base then
    if s.is POS_CTL.EN i ∧ changesWord r i j v s then (stBusy, s) else (stOk, storeWord r i j v s)
  else if posCoef r.base then (stOk, calOverride 3 i (storeWord r i j v (posSettleCoef i s)))
  else if r.base = 0x704000 then (if armed s then (stBusy, s) else (stOk, storeWord r i j v s))
  else if r.base = 0x704100 then cmpCtlWrite i v s
  else if r.base = 0x704108 then cmpLastWrite i v s
  else if r.base = 0x708004 then cmpCommit i j v s
  else (stOk, storeWord r i j v s)

/-! ### HL and CAL -/

/-- A write of HL_WF_LIMIT or HL_WF_CFG (R348, R363): the floor shown follows. -/
def wfLimitWrite (r : RegRow) (i j v : Nat) (s : State) : Nat × State :=
  let st := if r.base = 0xA00300 then
      wfCfgStatus s i (bits v 27 16) (bits v 11 0) (s.get HL_WF_CFG.GUARD i) (s.get HL_WF_CFG.DUTY_MAX i) (s.get HL_WF_CFG.WHEY_MODE i)
    else wfCfgStatus s i (s.get HL_WF_LIMIT.WHEY_MAX i) (s.get HL_WF_LIMIT.ON_MAX i) (bits v 27 16) (bits v 7 0) (bits v 29 28)
  if st = stOk then (stOk, showFloor i (storeWord r i j v s)) else (st, s)

/-- A write of HL_MEAS_CTL (R387, R389). -/
def measCtlWrite (v : Nat) (s : State) : Nat × State :=
  let t := onlyIf (bit v 30) measAbort s
  if bit v 31 then (if (measGo t).1 = stOk then measGo t else ((measGo t).1, s)) else (stOk, t)

/-- HL registers. -/
def writeHl (r : RegRow) (i j v : Nat) (s : State) : Nat × State :=
  if r.base = 0xA00200 then (if wfLocked s i j then (stBusy, s) else (stOk, storeWord r i j v s))
  else if r.base = 0xA00300 ∨ r.base = 0xA00304 then wfLimitWrite r i j v s
  else if r.base = 0xA00308 then (stOk, calOverride 0 i (calBase i (bits v 7 0) (storeWord r i j v s)))
  else if r.base = 0xA00000 then hlCtlWrite i v s
  else if r.base = 0xA0000C then (stOk, calOverride 1 i (storeWord r i j v s))
  else if r.base = 0xA0001C then hlTempCfgWrite i v s
  else if r.base = 0xA00050 then (if bit v 31 then hlIdAccept i s else (stOk, s))
  else if r.base = 0xA10000 then measCtlWrite v s
  else (stOk, storeWord r i j v s)

/-- CAL registers. -/
def writeCal (r : RegRow) (i j v : Nat) (s : State) : Nat × State :=
  if r.base = 0xB00000 then (stOk, calShowAll (storeWord r i j v s))
  else if r.base = 0xB02000 ∧ 7 < bits v 3 0 ∧ bits v 3 0 < 15 then (stBadParam, s)
  else (stOk, storeWord r i j v s)

/-! ### CAM and NHA -/

/-- CAM and ISP registers: shadowed registers are locked while COMMIT is 1 (R434). -/
def writeCam (r : RegRow) (i j v : Nat) (s : State) : Nat × State :=
  if r.base = 0xC00000 then camCtlWrite i v s
  else if r.base = 0xC00030 then ispCommitWrite i v s
  else if 0xC00100 ≤ r.base ∧ s.is ISP_COMMIT.COMMIT i then (stBusy, s)
  else (stOk, storeWord r i j v s)

/-- The analyser's source that a register belongs to, with its index: local ports 0 to 3, remote sources 4 to 7 (R463). -/
def nhaSource (r : RegRow) (i : Nat) : Option Nat :=
  if 0xD00100 ≤ r.base ∧ r.base < 0xD00500 then some i
  else if 0xD00500 ≤ r.base ∧ r.base < 0xD10000 then some (4 + i)
  else if r.base = 0xD10000 then some i
  else if r.base = 0xD30000 then some (4 + i)
  else none

/-- EN of a source. -/
def nhaSourceEn (s : State) (c : Nat) : Bool := if c < 4 then s.is NHA_CAM_CFG.EN c else s.is NHA_RSRC_CFG.EN (c - 4)

/-- A write of a source's CFG: its other fields are locked while EN is 1, and EN while armed (R463). -/
def nhaCfgWrite (r : RegRow) (c enBit i j v : Nat) (s : State) : Nat × State :=
  let en := nhaSourceEn s c
  let same := insertBits v enBit 1 (b2n en)
  if (en ∧ changesWord r i j same s) ∨ (bit v enBit ≠ en ∧ armed s) then (stBusy, s)
  else
    let s := storeWord r i j same s
    (stOk, if bit v enBit = en then s else sourceEnable c (bit v enBit) s)

/-- NHA registers. -/
def writeNha (r : RegRow) (i j v : Nat) (s : State) : Nat × State :=
  if r.base = 0xD00008 ∧ bits v 23 16 ≤ bits v 31 24 then (stBadParam, s)
  else if r.base = 0xD00100 then nhaCfgWrite r i 0 i j v s
  else if r.base = 0xD00500 then nhaCfgWrite r (4 + i) 15 i j v s
  else match nhaSource r i with
    | some c => if nhaSourceEn s c then (stBusy, s) else (stOk, storeWord r i j v s)
    | none => (stOk, storeWord r i j v s)

/-! ### PAIR, HOOP, AXIS, LAMP and CHK -/

/-- PAIR and HOOP registers (R469, R484, R488). -/
def writePair (e : Env) (r : RegRow) (i j v : Nat) (s : State) : Nat × State :=
  if r.base = 0xE00000 then pairCtlWrite v s
  else if r.base = 0xE00100 then (stOk, onlyIf (bit v 31) (hoopLatch 7) s)
  else if r.base = 0xE00104 then
    let st := hoopCfgStatus s (bits v 31 24) (bits v 23 16) (bits v 1 1) (bits v 0 0)
    if st = stOk then (stOk, storeWord r i j v s) else (st, s)
  else if r.base = 0xE00108 then (stOk, if e.cls = 3 then hoopKick (v % 4) s else s)
  else (stOk, storeWord r i j v s)

/-- A value that an axis limit refuses (R500, R501, R512). -/
def axisBadValue (b v : Nat) : Bool :=
  (b = 0xF00020 && (v = 0 || 0x06666666 < v)) || ((b = 0xF00024 || b = 0xF00028) && v = 0) || (b = 0xF00038 && v % 256 = 0)

/-- AXIS registers. -/
def writeAxis (r : RegRow) (i j v : Nat) (s : State) : Nat × State :=
  if r.base = 0xF00000 then axCtlWrite i v s
  else if r.base = 0xF00008 then (stOk, axPosStage i v s)
  else if r.base = 0xF0000C then axPosCommit i v s
  else if axisBadValue r.base v then (stBadParam, s)
  else if r.base = 0xF00200 ∧ axBusy s i then (stBusy, s)
  else (stOk, storeWord r i j v s)

/-- LAMP registers. -/
def writeLamp (r : RegRow) (i j v : Nat) (s : State) : Nat × State :=
  if r.base = 0x1000000 then lampCtlWrite i v s
  else if r.base = 0x1000004 then (stOk, lampSetWrite i v s)
  else if r.base = 0x1000A00 then (if bit v 0 then lampLoad s else (stOk, s))
  else (stOk, storeWord r i j v s)

/-- The registers that a running scan locks beside CHK_CTL (R537). -/
def chkLocked (b : Nat) : Bool := [0x1100008, 0x110000C, 0x1100010, 0x1100018, 0x1100020].contains b

/-- CHK registers. -/
def writeChk (r : RegRow) (i j v : Nat) (s : State) : Nat × State :=
  if r.base = 0x1100000 then chkCtlWrite i v s
  else if chkLocked r.base ∧ chkRuns s i then (stBusy, s)
  else if r.base = 0x1100018 then (stOk, chkSetValue i v s)
  else (stOk, storeWord r i j v s)

/-! ### One word -/

/-- A write to a register of a block: its status and the state after it. -/
def writeBlockReg (e : Env) (b : Nat) (r : RegRow) (i j v : Nat) (s : State) : Nat × State :=
  match b with
  | 0 => writeSys r i j v s | 1 => writeAcc e r i j v s | 2 => writeEvt r i j v s | 3 => writeHost r i j v s
  | 4 => writeTime e r i j v s | 5 => writeFab r i j v s | 6 => writeCodec r i j v s | 7 => writeDma r i j v s
  | 8 => writeDram r i j v s | 10 => writeChk r i j v s | 11 => writeFire r i j v s | 12 => writeHl r i j v s
  | 13 => writeCal r i j v s | 14 => writeCam r i j v s | 15 => writeNha r i j v s | 16 => writePair e r i j v s
  | 17 => writeAxis r i j v s | 18 => writeLamp r i j v s | 19 => writePos r i j v s
  | _ => (stOk, storeWord r i j v s)

/-- The status of a write decides: a refusal changes nothing (R111). -/
def settle (s : State) (p : Nat × State) : Nat × State := if p.1 = stOk then p else (p.1, s)

/-- Write a register. -/
def regWrite (e : Env) (a plain one : Nat) (s : State) : Nat × State :=
  match rowAt a with
  | none => (stBadParam, s)
  | some (r, i, j) => settle s (writeBlockReg e ((regBlock a).getD 0) r i j (r.combine plain one) s)

/-- Write a word of memory: the regions that the device writes while armed and the bank window are locked (R27, R303). -/
def memWrite (a v : Nat) (s : State) : Nat × State :=
  if (armed s && lockedWhileArmed a) || bankLocked s a then (stBusy, s) else (stOk, s.setBytes a (leBytes 4 v))

/-- Write the word at an address: the stored fields take one value, and action bits another. -/
def wordWrite (e : Env) (a plain one : Nat) (s : State) : Nat × State :=
  if inRegs a then regWrite e a plain one s else memWrite a plain s

/-- Write words in ascending order until one is refused (R107): its address and the state before it. -/
def wordsWrite (e : Env) : Nat → List Nat → State → Nat × Nat × State
  | a, [], s => (stOk, a, s)
  | a, v :: vs, s =>
    let (st, t) := wordWrite e a v v s
    if st = stOk then wordsWrite e (a + 4) vs t else (st, a, s)

/-! ### What a refused write leaves (R111, R128, R158, R226, R358, R434) -/

/-- Capture, count and raise a refusal by an access table. -/
def reportViol (v : Option Viol) (t : State) : State := match v with | some v => violate v t | none => t

/-- The refusal of an ACC write under LOCK (R128). -/
def lockViol (e : Env) (a : Nat) : Viol := { cls := e.cls, kind := 1, space := 0, index := 1, opcode := e.opcode, addr := a }

/-- RESULT, HEAD and REASON of a refused waveform swap. -/
def wfReport (from_ t : State) : State :=
  if from_.is FIRE_WF_STATUS.PENDING ∨ from_.get FIRE_WF_MASK.MASK = 0 then t
  else
    let r := (wfGo from_).2
    ((t.put FIRE_WF_STATUS.RESULT (r.get FIRE_WF_STATUS.RESULT)).put FIRE_WF_STATUS.HEAD (r.get FIRE_WF_STATUS.HEAD)).put
      FIRE_WF_STATUS.REASON (r.get FIRE_WF_STATUS.REASON)

/-- A refused commit of an ISP parameter set: its reason, and the refusal by an access table (R434). -/
def ispReport (e : Env) (c v : Nat) (from_ t : State) : State :=
  if from_.is ISP_COMMIT.COMMIT c ∨ ¬bit v 31 then t
  else
    let r := commitReason from_ c
    onlyIf (r = 7) (reportViol (ispViol e.opcode (shadowSet from_ c) from_)) (t.put ISP_COMMIT.REASON r c)

/-- What a write that is refused leaves behind: from_ is the state it met, t the state its effects stand in. -/
def writeReport (e : Env) (a plain one st : Nat) (from_ t : State) : State :=
  match rowAt a with
  | none => t
  | some (r, i, _) =>
    let v := r.combine plain one
    if regBlock a = some 1 then onlyIf (st = stDenied) (violate (lockViol e a)) t
    else if r.base = 0x400100 ∧ st = stDenied then
      reportViol (encViol e.opcode (bit v 0) from_) (t.put CODEC_ENC_RESULT.STATE 5)
    else if r.base = 0xA10000 ∧ st = stDenied then reportViol (measViol e.opcode from_) t
    else if r.base = 0x1100000 ∧ st = stDenied then reportViol (chkViol i e.opcode (chkFields i v from_)) t
    else if r.base = 0xC00030 then ispReport e i v from_ t
    else if r.base = 0x900108 then wfReport from_ t
    else if r.base = 0x200050 ∧ bit v 31 then
      t.put TIME_STATUS.STEP_RESULT ((timeStepReport e.cls v from_).get TIME_STATUS.STEP_RESULT)
    else t

end Sys2Proof.Machine
end

