-- ==== Sys2Proof/Machine/DmaMove.lean ====
section
/-! DEFINITION. What a running DMA descriptor does: its accesses in order, and how a failing access ends the channel (R248, R249, R252, R255). -/

namespace Sys2Proof.Machine

/-- A DMA channel as a reader (R14). -/
def dmaReader (c : Nat) : Nat := 65536 + c

/-- A DMA channel as the writer of registers. -/
def dmaEnv (c : Nat) : Env := { via := .host 0, cls := 4, endpoint := dmaReader c, opcode := 0 }

/-- Read n register words in ascending order as a channel. -/
def dmaRegRead (c : Nat) : Nat → Nat → State → List Byte × State
  | 0, _, s => ([], s)
  | n + 1, a, s =>
    let (v, s) := regRead (dmaReader c) a s
    let (bs, s) := dmaRegRead c n (a + 4) s
    (leBytes 4 v ++ bs, s)

/-- The source and destination of a descriptor share memory. -/
def descOverlaps (d : Desc) : Bool := d.src < d.dst + d.dstLen && d.dst < d.src + d.srcLen

/-- The bytes of access k: register words are read as the channel, a region that the device writes while armed and an overlap give free bytes, and memory gives what it holds. -/
def moveData (c : Nat) (d : Desc) (k : Nat) (s : State) : List Byte × State :=
  if d.mode = 0 ∧ inRegs d.src then
    if d.dw < 4 then
      let (bs, t) := dmaRegRead c 1 ((d.src + k * d.dw) / 4 * 4) s
      (slice bs (k * d.dw % 4) d.dw, if k * d.dw % 4 = 0 then t else s)
    else dmaRegRead c (d.dw / 4) (d.src + k * d.dw) s
  else if descOverlaps d ∨ isCave d.src ∨ (armed s ∧ lockedWhileArmed d.src) then drawBytes (accLen d k) s
  else (accData (rawByte s) d k, s)

/-- Why access k fails before anything is written, or 0 (Table 8.9). -/
def moveFails (s : State) (d : Desc) (k : Nat) : Nat :=
  let needs := accNeeds (rawByte s) d k
  let mem := needs.filter fun n => !isReg n.1
  if (needs.any fun n => rangeAsleep s n.1 n.2) || rangeAsleep s (accDst d k) (accLen d k) then 2
  else if accBeyond (rawByte s) d k || (mem.any fun n => isDram n.1 && !dramOk s n.1 n.2)
      || (isDram (accDst d k) && !dramOk s (accDst d k) (accLen d k)) || (isCave (accDst d k) && !isScratch (accDst d k)) then 4
  else if mem.any fun n => eccBad s n.1 n.2 then 5
  else if (armed s && lockedWhileArmed (accDst d k)) || bankLocked s (accDst d k) then 7
  else 0

/-- Correctable errors that access k meets are corrected, and uncorrectable ones reported. -/
def moveEcc (d : Desc) (k : Nat) (s : State) : State :=
  each (fun n s => eccRead n.1 n.2 s) ((accNeeds (rawByte s) d k).filter fun n => !isReg n.1) s

/-- Write the bytes of an access: a register refuses with reason 0x7. -/
def moveWrite (c a : Nat) (bs : List Byte) (s : State) : Nat × State :=
  if inRegs a then
    let v := leVal bs
    let (st, t) := regWrite (dmaEnv c) a v v s
    if st = stOk then (0, t) else (7, writeReport (dmaEnv c) a v v st s s)
  else (0, s.setBytes a bs)

/-- One access: a reason, or 0 with its bytes written. -/
def moveOne (c : Nat) (d : Desc) (k : Nat) (s : State) : Nat × State :=
  let r := moveFails s d k
  if r ≠ 0 then (r, if r = 5 then moveEcc d k s else s)
  else
    let s := moveEcc d k s
    let (bs, s) := moveData c d k s
    moveWrite c (accDst d k) bs s

/-- Accesses k on, n of them, until one fails: the reason, the bytes written and the state. -/
def moveRun (c : Nat) (d : Desc) : Nat → Nat → Nat → State → Nat × Nat × State
  | 0, _, done, s => (0, done, s)
  | n + 1, k, done, s =>
    let (r, s) := moveOne c d k s
    if r ≠ 0 then (r, done, s) else moveRun c d n (k + 1) (done + accLen d k) s

/-- A controller that the descriptor reaches is TRAINING, or ECC_INIT runs: its requests wait (R241, R244). -/
def moveWaits (s : State) (d : Desc) : Bool :=
  let doms := rangeDomains s d.src d.srcLen ++ rangeDomains s d.dst d.dstLen ++ (if d.mode = 3 then rangeDomains s d.remap (4 * d.len) else [])
  (doms.contains 4 && dramState s 0 = 1) || (doms.contains 5 && dramState s 1 = 1)
    || ((doms.contains 4 || doms.contains 5) && s.is DRAM_MEM_CFG.ECC_INIT)

/-- The whole move of a channel's active descriptor. -/
def moveAll (c : Nat) (s : State) : Nat × Nat × State :=
  let d := activeDesc s c
  moveRun c d (accCount d) 0 0 s

/-- DMA_DESC_COMPLETE (R252): the move of a running descriptor, if every access of it succeeds and its channel still runs after it. -/
def dmaComplete (c : Nat) (s : State) : State :=
  if dmaState s c = 2 ∧ ¬moveWaits s (activeDesc s c) then
    let (r, _, t) := moveAll c s
    if r = 0 then (if dmaState t c = 2 then dmaCompleted c t else t) else s
  else s

/-- DMA_TRANSFER_FAULT (R255): the move of a running descriptor up to the access that fails, with DONE_BYTES exact. -/
def dmaFault (c : Nat) (s : State) : State :=
  if dmaState s c = 2 ∧ ¬moveWaits s (activeDesc s c) then
    let (r, done, t) := moveAll c s
    if r = 0 then s else dmaError c r (t.put DMA_DONE_BYTES.BYTES done c)
  else s

/-- DMA_DESC_COMPLETE (R252). -/
def execDmaDescComplete (channel : Fin 32) (s : State) : Host.Outcome State Fault Refusal := .next (dmaComplete channel.val s)

/-- DMA_TRANSFER_FAULT (R255). -/
def execDmaTransferFault (channel : Fin 32) (s : State) : Host.Outcome State Fault Refusal := .next (dmaFault channel.val s)

end Sys2Proof.Machine
end

