-- ==== Sys2Proof/Machine/JobCommands.lean ====
section
/-! DEFINITION. The actions of JOB_OPEN, JOB_CLOSE, PAGE_QUEUE, PAGE_CANCEL, NMAP_LOAD, NMAP_SWAP, FW_LOAD and FW_ACTIVATE (R110, R205 to R213, R306, R307). -/

namespace Sys2Proof.Machine

/-! ### Jobs (R205 to R209) -/

/-- COLUMNS of JOB_OPEN. -/
def jobColumns (ps : List Byte) : Nat := beAt ps 4 4
/-- RING_BASE of JOB_OPEN. -/
def jobBase (ps : List Byte) : Nat := beAt ps 8 8
/-- RING_BYTES of JOB_OPEN. -/
def jobRing (ps : List Byte) : Nat := beAt ps 16 8

/-- The fields of JOB_OPEN are in their ranges and the ring lies in installed DRAM (Table 7.1, R205, R234). -/
def jobFieldsOk (ps : List Byte) (s : State) : Bool :=
  beAt ps 0 1 ≠ 0 && beAt ps 1 1 ≤ 2 && beAt ps 2 2 = 0
    && 1 ≤ jobColumns ps && jobColumns ps ≤ 131072
    && jobBase ps % 4096 = 0 && 1024 ≤ jobRing ps / rowBytes (jobColumns ps)
    && jobBase ps < 2 ^ 40 && dramOk s (jobBase ps) (jobRing ps)

/-- The DMA class lacks R or W somewhere in the ring (R128). -/
def jobViol (opcode : Nat) (ps : List Byte) (s : State) : Option Viol :=
  lowerViol (rangeViol s 4 0 2 opcode (jobBase ps) (jobRing ps)) (rangeViol s 4 1 2 opcode (jobBase ps) (jobRing ps))

/-- A job's COLUMNS and ROW_RES are not those of the previous job (R205). -/
def geometryChanges (ps : List Byte) (s : State) : Bool :=
  match s.ing.lastGeometry with
  | some g => g ≠ (jobColumns ps, beAt ps 1 1)
  | none => false

/-- The job's rows and windows count from 0 again (R207, R254, R450). -/
def jobCounters (s : State) : State :=
  { s with
    fire := { s.fire with decidedTo := [], firedTo := [], lines := [], fetchTop := 0, oversped := [], notFired := [], history := [] }
    nha := { s.nha with
      next := 0, sums := [], passed := []
      inspected := (s.nha.inspected.filter fun q => q ≤ 512 * s.nha.next).map fun _ => 0 } }

/-- The job is open. -/
def jobStart (ps : List Byte) (s : State) : State :=
  let s := onlyIf (geometryChanges ps s) nhaRestart s
  let s := jobCounters s
  let s := ((s.put FIRE_ING_JOB.OPEN 1).put FIRE_ING_JOB.JOB (beAt ps 0 1)).put FIRE_ING_JOB.ROW_RES (beAt ps 1 1)
  let s := (s.put FIRE_ING_COLUMNS.COLUMNS (jobColumns ps)).put FIRE_ING_SLOTS.SLOTS (jobRing ps / rowBytes (jobColumns ps))
  let s := { s with ing := { s.ing with
    ringBase := jobBase ps, lastGeometry := some (jobColumns ps, beAt ps 1 1), pages := [], nextBase := 0, seqs := [] } }
  nmapCounts (each dmaToPrint (List.range 16) s)

/-- JOB_OPEN at step 13 (R205). -/
def jobOpenCmd (e : Env) (ps : List Byte) (s : State) : Res :=
  if jobOpen s then no stBusy s
  else if !jobFieldsOk ps s then no stBadParam s
  else match jobViol e.opcode ps s with
    | some v => no stDenied (violate v s)
    | none => ok (jobStart ps s)

/-- Any row of the ring is still held (R17). -/
def ringHeld (s : State) : Bool := s.ing.pages.any fun p => (List.range p.rows).any fun r => rowHeld s p r

/-- JOB_CLOSE at step 10: its parameters have their form (R209). -/
def jobCloseOk (ps : List Byte) : Bool := ps.length = 4 && beAt ps 1 3 = 0

/-- JOB_CLOSE at step 13 (R209, R253). -/
def jobCloseCmd (ps : List Byte) (s : State) : Res :=
  if !jobOpen s || s.get FIRE_ING_JOB.JOB ≠ beAt ps 0 1 then no stBadParam s
  else if !(livePages s).isEmpty || ringHeld s then no stBusy s
  else
    let s := { s.put FIRE_ING_JOB.OPEN 0 with ing := { s.ing with pages := [] } }
    ok (nmapCounts (each dmaFromPrint (List.range 16) s))

/-! ### Pages (R210 to R213) -/

/-- The period of PAGE_QUEUE in 2^-24 ns. -/
def pagePeriod (ps : List Byte) : Nat := beAt ps 16 4 * 2 ^ 24 + beAt ps 20 4

/-- The page that PAGE_QUEUE describes (Table 7.2), at a base row. -/
def pageFrom (ps : List Byte) (base : Nat) : Page :=
  let f := beAt ps 3 1
  { id := beAt ps 0 2, pass := beAt ps 6 1, passes := beAt ps 7 1, reverse := bit f 0, policy := bits f 4 3
    inspect := bit f 2, checkEn := bit f 1, trigger := beAt ps 4 2, rows := beAt ps 8 4, stripRows := beAt ps 12 2
    period := pagePeriod ps, check := beAt ps 24 4, base := base }

/-- Step 2 of R211: every field is in range. -/
def pageFieldsOk (ps : List Byte) (s : State) : Bool :=
  let p := pageFrom ps 0
  beAt ps 2 1 = s.get FIRE_ING_JOB.JOB && beAt ps 3 1 / 32 = 0 && p.policy ≤ 2
    && 1 ≤ p.passes && p.passes ≤ 8 && p.pass < p.passes
    && 1 ≤ p.rows && p.rows ≤ 16777215 && 1 ≤ p.stripRows && p.stripRows ≤ 4096
    && beAt ps 14 2 = 0 && beAt ps 20 1 = 0 && beAt ps 28 4 = 0
    && stripCount p ≤ 65535 && periodOk p.period && (livePages s).all fun x => x.id ≠ p.id

/-- The checks of R211, R313 and R362, in order: the status. -/
def pageStatus (ps : List Byte) (s : State) : Nat :=
  let p := pageFrom ps 0
  let b := liveBase s
  let live := livePages s
  if !jobOpen s || !s.is NMAP_STATUS.TABLE then stBusy
  else if !pageFieldsOk ps s then stBadParam
  else if tblRowRes s b ≠ s.get FIRE_ING_JOB.ROW_RES || (p.passes > 1 && p.passes ≠ tblPasses s b) then stBadParam
  else if !withinCeiling p.period (s.get SYS_PL.REQ) (tblN s b) then stBadParam
  else if 64 ≤ live.length then stNoResource
  else if slots s < ringSpan s b (max (stripMax live) p.stripRows) (p.inspect || live.any (·.inspect)) then stNoResource
  else if !liveFloorsOk s p.period then stBadParam
  else stOk

/-- PAGE_QUEUE at step 13 (R211). -/
def pageQueueCmd (ps : List Byte) (s : State) : Res :=
  let st := pageStatus ps s
  if st = stOk then
    let p := pageFrom ps s.ing.nextBase
    let s := { s with ing := { s.ing with pages := s.ing.pages ++ [p], nextBase := p.base + p.rows } }
    ok (raise PAGE_QUEUED (p.id + (livePages s).length * 65536) s)
  else no st s

/-- PAGE_CANCEL at step 10 (R213). -/
def pageCancelOk (ps : List Byte) : Bool := ps.length = 4 && beAt ps 2 2 < 2

/-- PAGE_CANCEL at step 13 (R213). -/
def pageCancelCmd (ps : List Byte) (s : State) : Res :=
  if bit (beAt ps 2 2) 0 then
    ok (ingestPump (each cancelPage ((s.ing.pages.filter fun p => p.stage = 0).map (·.id)) s))
  else match findPage s (beAt ps 0 2) with
    | none => no stBadParam s
    | some p => if p.stage = 0 then ok (ingestPump (cancelPage p.id s)) else no stBusy s

/-! ### The nozzle table (R306, R307, R479) -/

/-- NMAP_LOAD at step 10. -/
def nmapLoadOk (ps : List Byte) : Bool := ps.length = 4 && beAt ps 0 4 < 2

/-- NMAP_LOAD at step 13 (R306, R479). -/
def nmapLoadCmd (ps : List Byte) (s : State) : Res :=
  let live := bit (beAt ps 0 4) 0
  if spare s ≠ 0 || s.is NMAP_STATUS.CHECKING || followsTable s then no stBusy s
  else if live && !s.is NMAP_STATUS.TABLE then no stBadParam s
  else
    let s := s.put NMAP_STATUS.SPARE 1
    ok (onlyIf live (copyBank (liveBase s) (spareBase s)) s)

/-- NMAP_SWAP at step 10. -/
def nmapSwapOk (ps : List Byte) : Bool := ps.length = 4 && beAt ps 0 4 < 8

/-- NMAP_SWAP at step 13 (R307): accepted, its steps run until NMAP_SWAP_CHECKS_END. -/
def nmapSwapCmd (ps : List Byte) (s : State) : Res :=
  let f := beAt ps 0 4
  if spare s ≠ 1 || s.is NMAP_STATUS.CHECKING then no stBusy s
  else if bit f 2 then ok (s.put NMAP_STATUS.SPARE 0)
  else ok { s.put NMAP_STATUS.CHECKING 1 with nmap := { s.nmap with flags := f % 4, internal := false, merged := false } }

/-! ### Firmware (R96, R99, R110) -/

/-- The first byte of the staged image: Vat region 8. -/
def fwBase : Nat := 0x0100F00000

/-- FW_LOAD at step 10: OFFSET a multiple of 4, and the data within Vat region 8. -/
def fwLoadOk (ps : List Byte) : Bool :=
  4 ≤ ps.length && beAt ps 0 4 % 4 = 0 && beAt ps 0 4 + (ps.length - 4) ≤ 0x300000

/-- FW_LOAD at step 13 (R110). -/
def fwLoadCmd (ps : List Byte) (s : State) : Res := ok (s.setBytes (fwBase + beAt ps 0 4) (ps.drop 4))

/-- The staged image: its header and the payload that the header's LENGTH gives, within the region. -/
def stagedImage (s : State) : List Byte := s.bytes fwBase (min 0x300000 (256 + s.le (fwBase + 12) 4))

/-- An axis moves. -/
def anyAxisMoves (s : State) : Bool := [0, 1, 2, 3, 4, 5].any (axisMoving s)

/-- SYS_BOOT_DONE (R80, step 9, R487, R541): the boot is counted, the fault log gets its boot entry, and the event is raised. -/
def bootDone (s : State) : State :=
  let s := s.put AON_STATUS.BOOT 5
  let s := faultLog 0xFF s.now 0 { s with nvm := { s.nvm with boots := s.nvm.boots + 1 } }
  raise SYS_BOOT_DONE 0 (hoopBootDone s)

/-- FW_ACTIVATE at step 13 (R99, R110), with whether any other command is outstanding. Under running firmware the cores restart and SYS_BOOT_DONE is raised again; under the ROM the image is accepted, and FIRMWARE_START runs it. -/
def fwActivateCmd (others : Bool) (s : State) : Res :=
  if s.pow.firmware && (armed s || anyAxisMoves s || others) then no stBusy s
  else if imageOk (stagedImage s) then
    if s.pow.firmware then ok (bootDone s)
    else ok { s.put AON_STATUS.BOOT 4 with pow := { s.pow with romHost := false } }
  else no stCheckFail (raise SYS_FW_REJECT 0 s)

end Sys2Proof.Machine
end

