-- ==== Sys2Proof/Machine/Pipeline.lean ====
section
/-! DEFINITION. The command path: the checks of Table 4.5 in their order, the table of opcodes, ordering, waiting for domains, and replies (R86, R100 to R128). -/

namespace Sys2Proof.Machine

/-! ### Endpoints and limits (R114, R115, R188) -/

/-- What Table 4.6 and R188 allow an endpoint. -/
structure Limits where
  /-- LENGTH. -/
  len : Nat
  /-- READ_BLOCK COUNT. -/
  read : Nat
  /-- WRITE_BLOCK data. -/
  write : Nat
  /-- Outstanding commands. -/
  out : Nat
  deriving DecidableEq, Repr

/-- The limits of an ingress at an agreed version. -/
def limits (via : Ingress) (version : Nat) : Limits :=
  match via with
  | .sideband => { len := 264, read := 256, write := 256, out := 1 }
  | .fab _ => { len := 228, read := 228, write := 220, out := 64 }
  | .host _ => if version < 0x30 then { len := 1032, read := 1024, write := 1024, out := 64 }
    else { len := 8192, read := 8184, write := 8184, out := 64 }

/-- The master class that an ingress sets (R114). -/
def viaClass : Ingress → Nat
  | .host p => p.val
  | .fab _ => 2
  | .sideband => 7

/-- The source endpoint of a packet (R114). -/
def packetKey (via : Ingress) (h : Hdr) : Nat := endpointKey (Ingress.code via) h.src.toNat

/-- Replace what is kept for an endpoint. -/
def State.setEndpoint (s : State) (k : Nat) (e : Endpoint) : State :=
  { s with cmd := { s.cmd with endpoints := mapSet {} k e s.cmd.endpoints } }

/-- The endpoint of a waiting command. -/
def waitKey (w : Waiting) : Nat := packetKey w.via w.hdr

/-- Two waiting commands are one: TAG is unique among those outstanding from an endpoint. -/
def sameCommand (v w : Waiting) : Bool := waitKey v = waitKey w && v.hdr.tag = w.hdr.tag

/-- The outstanding commands of an endpoint. -/
def outstandingOf (s : State) (k : Nat) : List Waiting := s.cmd.waiting.filter fun w => waitKey w = k

/-! ### Replies (R103, R104, R124) -/

/-- The reply to a command (R103). -/
def replyPacket (s : State) (via : Ingress) (op : Nat) (h : Hdr) (st : Nat) (data : List Byte) : Packet :=
  let v := (s.endpoint (packetKey via h)).version
  { opcode := BitVec.ofNat 8 op
    reply := true
    hdr := { vmaj := BitVec.ofNat 4 (v / 16), vmin := BitVec.ofNat 4 v, tag := h.tag
             wake := h.wake, noreply := h.noreply, ordered := h.ordered
             src := BitVec.ofNat 10 s.node, dst := h.src, alive := h.alive, status := BitVec.ofNat 8 st, cookie := h.cookie }
    params := data }

/-- A reply leaves by the path its command came in: the sideband keeps it for a read (R123), and the fabric carries it in a REPLY cell (R188). -/
def sendReply (via : Ingress) (peer : Option NetAddr) (p : Packet) (s : State) : State :=
  match via with
  | .sideband => { s with cmd := { s.cmd with sbReply := p.bytes } }
  | .fab _ => fabOriginate 2 p.hdr.dst.toNat p.bytes (s.emit (.reply via p none))
  | .host k =>
    let (dest, s) := hostDatagram k.val 2 peer s
    s.emit (.reply via p dest)

/-- The answer to a command: its reply, unless NOREPLY suppresses an OK (R104), and the count of refusals (R124). -/
def answer (via : Ingress) (peer : Option NetAddr) (op : Nat) (h : Hdr) (st : Nat) (data : List Byte) (s : State) : State :=
  let s := onlyIf (st ≠ stOk && st ≠ stStale) (fun s => s.count SYS_CMD_REFUSED.COUNT) s
  if h.noreply ∧ st = stOk then s else sendReply via peer (replyPacket s via op h st data) s

/-! ### The table of opcodes (Table 4.3) -/

/-- The opcodes that a packet may carry. -/
def knownOpcodes : List Nat :=
  [0x01, 0x02, 0x03, 0x04, 0x05, 0x10, 0x11, 0x12, 0x13, 0x18, 0x19, 0x20, 0x21, 0x22, 0x30, 0x31, 0x32, 0x40, 0x48,
   0x50, 0x51, 0x60, 0x68, 0x70, 0x71, 0x7E]

/-- The feature an opcode needs (Table 4.7). -/
def opcodeFeature (op : Nat) : Option Nat :=
  if op = 0x68 then some 3 else if op = 0x48 then some 4 else if op = 0x22 then some 5 else none

/-- The block of an opcode whose target is a block, for its right X; none for those that need none. -/
def opcodeBlock (op : Nat) : Option Nat :=
  if 0x10 ≤ op ∧ op ≤ 0x13 then some 11
  else if op = 0x18 ∨ op = 0x19 then some 9
  else if op = 0x20 ∨ op = 0x21 then some 11
  else if op = 0x22 then some 4
  else if 0x30 ≤ op ∧ op ≤ 0x32 then some 17
  else if op = 0x40 then some 13
  else if op = 0x48 then some 15
  else if op = 0x50 ∨ op = 0x51 then some 20
  else if op = 0x68 then some 16
  else if op = 0x70 ∨ op = 0x71 then some 0
  else none

/-- An opcode of Table 4.2 that takes an address. -/
def isAccess (op : Nat) : Bool := 1 ≤ op && op ≤ 5

/-- ADDR. -/
def accessAddr (ps : List Byte) : Nat := beAt ps 0 8

/-- The bytes that an access covers. -/
def accessLen (op : Nat) (ps : List Byte) : Nat := if op = 4 then beAt ps 8 4 else if op = 5 then ps.length - 8 else 4

/-- The addresses of the words of an access. -/
def accessWords (op : Nat) (ps : List Byte) : List Nat :=
  (List.range (accessLen op ps / 4)).map fun k => accessAddr ps + 4 * k

/-- The parameters of an access opcode have their form (R106, R115). -/
def accessForm (lim : Limits) (op : Nat) (ps : List Byte) : Bool :=
  if op = 1 then ps.length = 8
  else if op = 2 then ps.length = 12
  else if op = 3 then ps.length = 16
  else if op = 4 then ps.length = 12 && 4 ≤ beAt ps 8 4 && beAt ps 8 4 % 4 = 0 && beAt ps 8 4 ≤ lim.read
  else 12 ≤ ps.length && ps.length - 8 ≤ lim.write && (ps.length - 8) % 4 = 0

/-- Step 10 for an access opcode (R7, R9, R26, R72, R106, R107, R234). -/
def accessOk (lim : Limits) (op : Nat) (ps : List Byte) (s : State) : Bool :=
  accessForm lim op ps && accessAddr ps % 4 = 0 && accessAddr ps < 2 ^ 40
    && (op ≤ 3 || oneSpace s (accessAddr ps) (accessLen op ps))
    && (accessWords op ps).all fun a =>
      if op = 1 ∨ op = 4 then readable s a else if op = 3 then readable s a && writable s a else writable s a

/-- Step 10 of Table 4.5: the parameters are valid. -/
def paramsOk (lim : Limits) (op : Nat) (ps : List Byte) (s : State) : Bool :=
  if isAccess op then accessOk lim op ps s
  else if op = 0x10 then ps.length = 24
  else if op = 0x11 then ps.length = 32
  else if op = 0x12 then pageCancelOk ps
  else if op = 0x13 then jobCloseOk ps
  else if op = 0x18 then nmapLoadOk ps
  else if op = 0x19 then nmapSwapOk ps
  else if op = 0x20 then armOk ps
  else if op = 0x21 then stopOk ps
  else if op = 0x22 then timeStepOk ps
  else if op = 0x30 then axisMoveOk ps
  else if op = 0x31 then axisStopOk ps
  else if op = 0x32 then axisHomeOk ps
  else if op = 0x40 then calRunOk ps
  else if op = 0x48 then inspectOk ps
  else if op = 0x50 then nvmWriteOk ps
  else if op = 0x51 then nvmReadOk lim.read ps
  else if op = 0x60 then ps.length = 8 && beAt ps 1 3 = 0
  else if op = 0x68 then swapOk ps
  else if op = 0x70 then fwLoadOk ps
  else if op = 0x71 then ps.isEmpty
  else ps.length ≤ 64

/-! ### Rights (R125 to R128) -/

/-- The rights that an access opcode needs: 0 R, 1 W. -/
def accessRights (op : Nat) : List Nat := if op = 1 ∨ op = 4 then [0] else if op = 3 then [0, 1] else [1]

/-- The access tables do not govern the AON window (R79, R126). -/
def inAonWindow (a : Nat) : Bool := 0x100 ≤ a && a < 0x118

/-- The refusal at step 11 of an access. KIND is 0 for R and 1 for W. -/
def accessViol (s : State) (cls op : Nat) (ps : List Byte) : Option Viol :=
  if inAonWindow (accessAddr ps) then none
  else (accessRights op).findSome? fun r => rangeViol s cls r r op (accessAddr ps) (accessLen op ps)

/-- Step 11: the state after the report of a refusal, if the sender's class lacks a right. No rule gives ADDR for an opcode without an address, so it is free. -/
def denied (cls op : Nat) (ps : List Byte) (s : State) : Option State :=
  if isAccess op then (accessViol s cls op ps).map fun v => violate v s
  else match opcodeBlock op with
    | none => none
    | some b =>
      if mayAccess s cls 2 0 b then none
      else
        let (a, s) := s.draw 40
        some (violate { cls := cls, kind := 2, space := 0, index := b, opcode := op, addr := a } s)

/-! ### What a command needs (R86) -/

/-- The pseudo-domains of a range of DRAM: 18 or 19 stand for a controller that is not TRAINING (R241). A controller's registers are reached while it is TRAINING, as R242 answers a write of RETRAIN then. -/
def trainNeeds (ds : List Nat) : List Nat := (ds.filter fun d => d = 4 || d = 5).map fun d => d + 14

/-- The link groups of the heads of a mask. -/
def headNeeds (mask : Nat) : List Nat := (((allHeads.filter fun h => bit mask h).map headDomain)).eraseDups

/-- What the write of a register word needs beyond the register: the heads of a waveform swap, the frame of a launch, the heads of a measurement. -/
def wordNeeds (s : State) (a v : Nat) : List Nat :=
  if a = 0x900108 ∧ bit v 31 then headNeeds (s.get FIRE_WF_MASK.MASK)
  else if 0x200200 ≤ a ∧ a < 0x200300 ∧ a % 32 = 0 ∧ bit v 0 then [3]
  else if a = 0xA10000 ∧ bit v 31 then headNeeds (s.get HL_MEAS_MASK.MASK)
  else []

/-- The words that a writing access carries. -/
def accessValues (op : Nat) (ps : List Byte) : List Nat :=
  if op = 2 then [beAt ps 8 4] else if op = 3 then [beAt ps 8 4 &&& beAt ps 12 4]
  else if op = 5 then (List.range (accessLen op ps / 4)).map fun k => beAt ps (8 + 4 * k) 4
  else []

/-- The domains that a command needs, 1 among them; 18 and 19 as in trainNeeds, and 20 for the NVM_WRITE that an ORDERED NVM_READ waits for (R544). -/
def needsOf (op : Nat) (ps : List Byte) (ordered : Bool) (s : State) : List Nat :=
  let more : List Nat :=
    if isAccess op then
      let ds := rangeDomains s (accessAddr ps) (accessLen op ps)
      ds ++ (if isDram (accessAddr ps) then trainNeeds ds else [])
        ++ (((accessWords op ps).zip (accessValues op ps)).map fun e => wordNeeds s e.1 e.2).flatten
    else if op = 0x20 then [2, 3, 17] ++ headNeeds (if s.is NMAP_STATUS.TABLE then tblHeads s (liveBase s) else 0)
    else if op = 0x40 then headNeeds (beAt ps 0 8) ++ (if beAt ps 8 1 = 0 then [] else [17])
    else if op = 0x10 ∨ op = 0x12 ∨ op = 0x13 ∨ op = 0x21 then [2]
    else if op = 0x11 ∨ op = 0x18 ∨ op = 0x19 ∨ op = 0x48 then [2, 3]
    else if 0x30 ≤ op ∧ op ≤ 0x32 then [17]
    else if op = 0x50 then [17]
    else if op = 0x51 then (if ordered then [17, 20] else [17])
    else if op = 0x70 ∨ op = 0x71 then [3]
    else []
  (1 :: more).eraseDups

/-- A command's need is met. -/
def needMet (s : State) (k d : Nat) : Bool :=
  if d = 20 then !(s.nvm.host.any fun j => j.endpoint = k)
  else if 18 ≤ d then dramState s (d - 18) ≠ 1
  else s.on d

/-- A domain that a command needs is in NAP or OFF. -/
def needAsleep (s : State) (d : Nat) : Bool := d < 18 && (s.pd d = 0 || s.pd d = 1)

/-- What R117 orders by: the block, Vat region or DRAM region that a command targets. -/
def targetOf (op : Nat) (ps : List Byte) (s : State) : Nat × Nat :=
  if isAccess op then accTarget s (accessAddr ps) else (0, (opcodeBlock op).getD 0)

/-- A command is a request to the blocks it needs (R64). -/
def requestBlocks (op : Nat) (ps : List Byte) (needs : List Nat) (s : State) : State :=
  let b := if isAccess op then (if isDram (accessAddr ps) then 8 else (regBlock (accessAddr ps)).getD 0) else (opcodeBlock op).getD 0
  each (fun d s => blockRequest d b s) needs s

/-! ### Register and memory accesses at step 13 (R106 to R108) -/

/-- A DRAM access at step 13: BUSY while ECC_INIT runs (R244), BAD_PARAM where the capacity is gone (R234). -/
def dramStatus (s : State) (a n : Nat) : Nat :=
  if ¬isDram a then stOk
  else if s.is DRAM_MEM_CFG.ECC_INIT then stBusy
  else if dramOk s a n then stOk else stBadParam

/-- A read of memory finds an uncorrectable error (R71, R245). -/
def readFails (s : State) (a n : Nat) : Bool := !inRegs a && eccBad s a n

/-- READ_REG and READ_BLOCK. -/
def readAccess (e : Env) (a n : Nat) (s : State) : Res :=
  let st := dramStatus s a n
  if st ≠ stOk then no st s
  else if readFails s a n then no stCheckFail (eccRead a n s)
  else
    let (vs, stale, s) := wordsRead e.endpoint (n / 4) a s
    { st := if stale then stStale else stOk, data := (vs.map (beBytes 4)).flatten, s := s }

/-- WRITE_REG and WRITE_BLOCK: all words, or none with what a refusal leaves behind (R12, R107, R111). -/
def writeAccess (e : Env) (a : Nat) (vs : List Nat) (s : State) : Res :=
  let st := dramStatus s a (4 * vs.length)
  if st ≠ stOk then no st s
  else
    let (st, x, t) := wordsWrite e a vs s
    if st = stOk then ok t
    else
      let v := vs.getD ((x - a) / 4) 0
      no st (writeReport e x v v st t s)

/-- MODIFY_REG (R108): OLD as a read gives it, the write, and NEW as a read made at once after it gives it. -/
def modifyAccess (e : Env) (a mask value : Nat) (s : State) : Res :=
  let st := dramStatus s a 4
  if st ≠ stOk then no st s
  else if readFails s a 4 then no stCheckFail (eccRead a 4 s)
  else
    let stale := inRegs a && staleWord s a
    let (old, t) := wordRead e.endpoint a s
    let plain := (old &&& not32 mask) ||| (value &&& mask)
    let (st, t') := wordWrite e a plain (value &&& mask) t
    if st = stOk then
      let new := (wordRead e.endpoint a t').1
      { st := if stale then stStale else stOk, data := beBytes 4 old ++ beBytes 4 new, s := t' }
    else no st (writeReport e a plain (value &&& mask) st s s)

/-! ### NEGOTIATE (R119, R121, R122) -/

/-- The versions that the FZ8131 supports, highest first (R121). -/
def supportedVersions : List Nat := [0x32, 0x31, 0x30, 0x23, 0x22, 0x21, 0x20]

/-- The highest supported version that is not above OFFER. -/
def agreedVersion (offer : Nat) : Option Nat := supportedVersions.find? fun v => v ≤ offer

/-- The features whose first version is not above a version (Table 4.7). -/
def versionFeatures (v : Nat) : Nat :=
  if v < 0x30 then 0 else if v < 0x31 then 0x0B else if v < 0x32 then 0x1F else 0x3F

/-- NEGOTIATE at step 13 (R122): a new version and mask, and a window that holds only its own ALIVE (R119). -/
def negotiate (via : Ingress) (e : Env) (alive : Byte) (ps : List Byte) (s : State) : Res :=
  if 1 < (outstandingOf s e.endpoint).length then no stBusy s
  else match agreedVersion (beAt ps 0 1) with
    | none => no stVersion s
    | some v =>
      let mask := beAt ps 4 4 &&& versionFeatures v
      let lim := limits via v
      okWith (beBytes 1 v ++ zeros 3 ++ beBytes 4 mask ++ beBytes 2 lim.len ++ beBytes 2 lim.out)
        (s.setEndpoint e.endpoint { version := v, features := mask, window := [alive.toNat] })

/-! ### Actions (step 13) -/

/-- The action of a command that has passed steps 1 to 12. -/
def action (w : Waiting) (e : Env) (s : State) : Res :=
  let op := w.opcode
  let ps := w.params
  if op = 0x01 then readAccess e (accessAddr ps) 4 s
  else if op = 0x02 then writeAccess e (accessAddr ps) (accessValues op ps) s
  else if op = 0x03 then modifyAccess e (accessAddr ps) (beAt ps 8 4) (beAt ps 12 4) s
  else if op = 0x04 then readAccess e (accessAddr ps) (accessLen op ps) s
  else if op = 0x05 then writeAccess e (accessAddr ps) (accessValues op ps) s
  else if op = 0x10 then jobOpenCmd e ps s
  else if op = 0x11 then pageQueueCmd ps s
  else if op = 0x12 then pageCancelCmd ps s
  else if op = 0x13 then jobCloseCmd ps s
  else if op = 0x18 then nmapLoadCmd ps s
  else if op = 0x19 then nmapSwapCmd ps s
  else if op = 0x20 then fireArm ps s
  else if op = 0x21 then fireStopCmd ps s
  else if op = 0x22 then timeStepCmd e ps s
  else if op = 0x30 then axisMove ps s
  else if op = 0x31 then axisStop ps s
  else if op = 0x32 then axisHome ps s
  else if op = 0x40 then calRunCmd e ps s
  else if op = 0x48 then inspectSet ps s
  else if op = 0x50 then nvmWriteCmd e ps s
  else if op = 0x51 then nvmReadCmd ps s
  else if op = 0x60 then negotiate w.via e w.hdr.alive ps s
  else if op = 0x68 then pairSwap ps s
  else if op = 0x70 then fwLoadCmd ps s
  else if op = 0x71 then fwActivateCmd (1 < s.cmd.waiting.length) s
  else okWith ps s

/-! ### Outstanding commands (R86, R113, R117, R118) -/

/-- What an action knows of the sender. -/
def envOf (w : Waiting) : Env := { via := w.via, cls := viaClass w.via, endpoint := waitKey w, opcode := w.opcode }

/-- A command ends: it is no longer outstanding, and its reply is sent (R113). An accepted DORMANT request is carried out after its reply (Table 3.11). -/
def finish (w : Waiting) (st : Nat) (data : List Byte) (s : State) : State :=
  let s := answer w.via w.peer w.opcode w.hdr st data s
  afterReply { s with cmd := { s.cmd with waiting := s.cmd.waiting.filter fun v => !sameCommand v w } }

/-- Carry out a command whose needs are met (step 13). -/
def perform (w : Waiting) (needs : List Nat) (s : State) : State :=
  let r := action w (envOf w) (requestBlocks w.opcode w.params needs s)
  finish w r.st (if r.st = stOk ∨ r.st = stStale then r.data else []) r.s

/-- Note what a command waits for. -/
def setNeeds (w : Waiting) (needs : List Nat) (s : State) : State :=
  { s with cmd := { s.cmd with waiting := s.cmd.waiting.map fun v => if sameCommand v w then { v with needs := needs } else v } }

/-- Step 12 (Table 3.10): served, refused, or woken and waiting. -/
def targetState (w : Waiting) (s : State) : State :=
  let needs := needsOf w.opcode w.params w.hdr.ordered s
  match needs.filter (needAsleep s) with
  | [] => if needs.all (needMet s (waitKey w)) then perform w needs s else setNeeds w needs s
  | d :: ds =>
    if w.hdr.wake then setNeeds w needs (each startWake (d :: ds) s)
    else finish w stDormant [] (raise SYS_DORMANT_ACCESS d s)

/-- The opcodes that the boot ROM serves (R99). -/
def romServes (op : Nat) : Bool := op = 0x7E || op = 0x60 || op = 0x70 || op = 0x71

/-- Step 9: the opcode is known and agreed, and so are the flags. -/
def opcodeStatus (f : Nat) (w : Waiting) : Nat :=
  if !knownOpcodes.contains w.opcode then stBadOpcode
  else if (opcodeFeature w.opcode).any fun b => !bit f b then stBadOpcode
  else if (w.hdr.ordered && !bit f 0) || (w.hdr.wake && !bit f 1) then stBadParam
  else stOk

/-- Start an outstanding command: steps 9 to 12. -/
def startCommand (w : Waiting) (s : State) : State :=
  let e := s.endpoint (waitKey w)
  let st := opcodeStatus e.features w
  if s.pow.romHost ∧ ¬romServes w.opcode then finish w stBusy [] s
  else if st ≠ stOk then finish w st [] s
  else if !paramsOk (limits w.via e.version) w.opcode w.params s then finish w stBadParam [] s
  else match denied (viaClass w.via) w.opcode w.params s with
    | some t => finish w stDenied [] t
    | none => targetState w s

/-- ORDERED as it counts: the flag with its feature agreed. -/
def isOrdered (s : State) (w : Waiting) : Bool := w.hdr.ordered && bit (s.endpoint (waitKey w)).features 0

/-- An earlier outstanding command of the endpoint holds this one back (R117, R118). -/
def heldBack (s : State) (w : Waiting) (earlier : List Waiting) : Bool :=
  earlier.any fun v => waitKey v = waitKey w
    && (isOrdered s v || isOrdered s w || targetOf v.opcode v.params s = targetOf w.opcode w.params s)

/-- Go on with one outstanding command, if it can go on: it starts, or a command that waits for domains is carried out or fails (Table 3.10). -/
def goOn (w : Waiting) (s : State) : State :=
  match s.cmd.waiting.find? (sameCommand w) with
  | none => s
  | some v =>
    if v.needs.isEmpty then
      if heldBack s v (s.cmd.waiting.takeWhile fun u => !sameCommand w u) then s else startCommand v s
    else if v.needs.any (needAsleep s) then finish v stWakeFailed [] s
    else if v.needs.all (needMet s (waitKey v)) then perform v v.needs s
    else s

/-- Go on with every outstanding command, oldest first. -/
def resume (s : State) : State := each goOn s.cmd.waiting s

/-! ### Arrival (steps 3 to 8) -/

/-- A packet can arrive by an ingress and be served: PD_CORE is on and the firmware, or the ROM under R99, runs; the port's link is up; no sideband command is outstanding (R123). -/
def arrives (s : State) (via : Ingress) : Bool :=
  s.on 1 && (s.pow.firmware || s.pow.romHost)
    && match via with
      | .host p => s.on 6 && s.is HOST_STATUS.LINK p.val
      | .fab k => s.on 7 && fabActive s k.val
      | .sideband => s.cmd.waiting.all fun w => w.via ≠ .sideband

/-- Steps 4 to 6 of Table 4.5 (R112, R121). -/
def headerStatus (via : Ingress) (op : Nat) (h : Hdr) (len : Nat) (e : Endpoint) : Nat :=
  if (if op = 0x60 then h.vmaj ≠ 2 ∧ h.vmaj ≠ 3 else h.vmaj.toNat * 16 + h.vmin.toNat ≠ e.version) then stVersion
  else if h.rsvFlags ≠ 0 ∨ h.rsvSrc ≠ 0 ∨ h.rsvDst ≠ 0 ∨ h.status ≠ 0 ∨ len % 4 ≠ 0 ∨ (limits via e.version).len < len then stBadParam
  else if e.window.contains h.alive.toNat then stRepeat
  else stOk

/-- Steps 7 and 8. -/
def admitStatus (via : Ingress) (h : Hdr) (e : Endpoint) (s : State) : Nat :=
  let mine := outstandingOf s (packetKey via h)
  if mine.any fun w => w.hdr.tag = h.tag then stTagInUse
  else if (limits via e.version).out ≤ mine.length ∨ 256 ≤ s.cmd.waiting.length then stBusy
  else stOk

/-- The address a host port last accepted a command of a node from (R140). -/
def notePeer (via : Ingress) (h : Hdr) (peer : Option NetAddr) (s : State) : State :=
  match via with
  | .host p =>
    let k := endpointKey p.val h.src.toNat
    let a := match peer with | some a => some a | none => mapGet none s.cmd.peers k
    { s with cmd := { s.cmd with peers := mapPut k a s.cmd.peers } }
  | _ => s

/-- A packet that has passed steps 1 to 3. -/
def takePacket (via : Ingress) (peer : Option NetAddr) (op : Nat) (h : Hdr) (ps : List Byte) (s : State) : State :=
  let k := packetKey via h
  let e := s.endpoint k
  let st := headerStatus via op h ps.length e
  if st ≠ stOk then answer via peer op h st [] s
  else
    let s := s.setEndpoint k { e with window := (h.alive.toNat :: e.window).take 8 }
    let st := admitStatus via h e s
    if st ≠ stOk then answer via peer op h st [] s
    else
      let w : Waiting := { via := via, hdr := h, opcode := op, params := ps, needs := [], peer := peer }
      resume (notePeer via h peer { s with cmd := { s.cmd with waiting := s.cmd.waiting ++ [w] } })

/-- A packet written at index 0x80 discards a reply that has not been read (R123). -/
def dropReply (via : Ingress) (s : State) : State :=
  if via = .sideband then { s with cmd := { s.cmd with sbReply := [] } } else s

/-- A command packet with the sender's network address, where it has one: step 3 of Table 4.5, and what follows. -/
def packetFrom (peer : Option NetAddr) (via : Ingress) (op : Nat) (h : Hdr) (ps : List Byte) (s : State) : State :=
  if !arrives s via then s
  else
    let s := dropReply via s
    if h.dst.toNat ≠ s.node ∧ h.dst.toNat ≠ 1023 then s.count SYS_CMD_DISCARD.COUNT
    else takePacket via peer op h ps s

/-- A command packet. -/
def packet (via : Ingress) (op : Nat) (h : Hdr) (ps : List Byte) (s : State) : State := packetFrom none via op h ps s

/-- A carrier's bytes at steps 1 and 2, and what follows (R102, R112). -/
def carrier (peer : Option NetAddr) (via : Ingress) (bs : List Byte) (s : State) : State :=
  if !arrives s via then s
  else match Packet.parse bs with
    | none => (dropReply via s).count SYS_CMD_DISCARD.COUNT
    | some p =>
      if p.reply then (dropReply via s).count SYS_CMD_DISCARD.COUNT
      else packetFrom peer via p.opcode.toNat p.hdr p.params s

/-- The parameters of a WRITE_REG. -/
def writeParams (a v : Nat) : List Byte := beBytes 8 a ++ beBytes 4 v

/-- A WRITE_REG packet of a register, with the bits of its action set. -/
def regPacket (via : Ingress) (h : Hdr) (a action_ v : Nat) (s : State) : State := packet via 0x02 h (writeParams a (v ||| action_)) s

end Sys2Proof.Machine
end

