-- ==== Sys2Proof/Machine/Commands.lean ====
section
/-! DEFINITION. The commands that come as packets: one for each opcode of Table 4.3, and the register writes that have a row of their own, each a WRITE_REG of its register with the bit of its action set. -/

namespace Sys2Proof.Machine

/-! ### Opcodes -/

/-- READ_REG (R106). -/
def execReadReg (via : Ingress) (h : Hdr) (params : List Byte) (s : State) : Host.Outcome State Fault Refusal :=
  .next (packet via 0x01 h params s)

/-- WRITE_REG (R106). -/
def execWriteReg (via : Ingress) (h : Hdr) (params : List Byte) (s : State) : Host.Outcome State Fault Refusal :=
  .next (packet via 0x02 h params s)

/-- MODIFY_REG (R108). -/
def execModifyReg (via : Ingress) (h : Hdr) (params : List Byte) (s : State) : Host.Outcome State Fault Refusal :=
  .next (packet via 0x03 h params s)

/-- READ_BLOCK (R107). -/
def execReadBlock (via : Ingress) (h : Hdr) (params : List Byte) (s : State) : Host.Outcome State Fault Refusal :=
  .next (packet via 0x04 h params s)

/-- WRITE_BLOCK (R107). -/
def execWriteBlock (via : Ingress) (h : Hdr) (params : List Byte) (s : State) : Host.Outcome State Fault Refusal :=
  .next (packet via 0x05 h params s)

/-- PING (R106). -/
def execPing (via : Ingress) (h : Hdr) (params : List Byte) (s : State) : Host.Outcome State Fault Refusal :=
  .next (packet via 0x7E h params s)

/-- NEGOTIATE (R122). -/
def execNegotiate (via : Ingress) (h : Hdr) (params : List Byte) (s : State) : Host.Outcome State Fault Refusal :=
  .next (packet via 0x60 h params s)

/-- FW_LOAD (R110). -/
def execFwLoad (via : Ingress) (h : Hdr) (params : List Byte) (s : State) : Host.Outcome State Fault Refusal :=
  .next (packet via 0x70 h params s)

/-- FW_ACTIVATE (R110). -/
def execFwActivate (via : Ingress) (h : Hdr) (params : List Byte) (s : State) : Host.Outcome State Fault Refusal :=
  .next (packet via 0x71 h params s)

/-- JOB_OPEN (R205). -/
def execJobOpen (via : Ingress) (h : Hdr) (params : List Byte) (s : State) : Host.Outcome State Fault Refusal :=
  .next (packet via 0x10 h params s)

/-- PAGE_QUEUE (R211). -/
def execPageQueue (via : Ingress) (h : Hdr) (params : List Byte) (s : State) : Host.Outcome State Fault Refusal :=
  .next (packet via 0x11 h params s)

/-- PAGE_CANCEL (R213). -/
def execPageCancel (via : Ingress) (h : Hdr) (params : List Byte) (s : State) : Host.Outcome State Fault Refusal :=
  .next (packet via 0x12 h params s)

/-- JOB_CLOSE (R209). -/
def execJobClose (via : Ingress) (h : Hdr) (params : List Byte) (s : State) : Host.Outcome State Fault Refusal :=
  .next (packet via 0x13 h params s)

/-- NMAP_LOAD (R306). -/
def execNmapLoad (via : Ingress) (h : Hdr) (params : List Byte) (s : State) : Host.Outcome State Fault Refusal :=
  .next (packet via 0x18 h params s)

/-- NMAP_SWAP (R307). -/
def execNmapSwap (via : Ingress) (h : Hdr) (params : List Byte) (s : State) : Host.Outcome State Fault Refusal :=
  .next (packet via 0x19 h params s)

/-- FIRE_ARM (R320). -/
def execFireArm (via : Ingress) (h : Hdr) (params : List Byte) (s : State) : Host.Outcome State Fault Refusal :=
  .next (packet via 0x20 h params s)

/-- FIRE_STOP (R339). -/
def execFireStop (via : Ingress) (h : Hdr) (params : List Byte) (s : State) : Host.Outcome State Fault Refusal :=
  .next (packet via 0x21 h params s)

/-- TIME_STEP (R157). -/
def execTimeStep (via : Ingress) (h : Hdr) (params : List Byte) (s : State) : Host.Outcome State Fault Refusal :=
  .next (packet via 0x22 h params s)

/-- AXIS_MOVE (R504). -/
def execAxisMove (via : Ingress) (h : Hdr) (params : List Byte) (s : State) : Host.Outcome State Fault Refusal :=
  .next (packet via 0x30 h params s)

/-- AXIS_STOP (R508). -/
def execAxisStop (via : Ingress) (h : Hdr) (params : List Byte) (s : State) : Host.Outcome State Fault Refusal :=
  .next (packet via 0x31 h params s)

/-- AXIS_HOME (R514). -/
def execAxisHome (via : Ingress) (h : Hdr) (params : List Byte) (s : State) : Host.Outcome State Fault Refusal :=
  .next (packet via 0x32 h params s)

/-- CAL_RUN (R396). -/
def execCalRun (via : Ingress) (h : Hdr) (params : List Byte) (s : State) : Host.Outcome State Fault Refusal :=
  .next (packet via 0x40 h params s)

/-- INSPECT_SET (R440). -/
def execInspectSet (via : Ingress) (h : Hdr) (params : List Byte) (s : State) : Host.Outcome State Fault Refusal :=
  .next (packet via 0x48 h params s)

/-- NVM_WRITE (R543). -/
def execNvmWrite (via : Ingress) (h : Hdr) (params : List Byte) (s : State) : Host.Outcome State Fault Refusal :=
  .next (packet via 0x50 h params s)

/-- NVM_READ (R544). -/
def execNvmRead (via : Ingress) (h : Hdr) (params : List Byte) (s : State) : Host.Outcome State Fault Refusal :=
  .next (packet via 0x51 h params s)

/-- PAIR_SWAP (R483). -/
def execPairSwap (via : Ingress) (h : Hdr) (params : List Byte) (s : State) : Host.Outcome State Fault Refusal :=
  .next (packet via 0x68 h params s)

/-- UNKNOWN_OPCODE (R109): a packet with any other opcode, or EVENT. A packet whose opcode is of Table 4.3 is no such packet, and changes nothing here. -/
def execUnknownOpcode (via : Ingress) (h : Hdr) (opcode : Byte) (params : List Byte) (s : State) : Host.Outcome State Fault Refusal :=
  .next (if knownOpcodes.contains opcode.toNat then s else packet via opcode.toNat h params s)

/-- The carrier fails step 1 or 2 of Table 4.5, or its packet is for another node. -/
def discards (s : State) (bs : List Byte) : Bool :=
  match Packet.parse bs with
  | none => true
  | some p => p.reply || (p.hdr.dst.toNat ≠ s.node && p.hdr.dst.toNat ≠ 1023)

/-- CMD_PACKET_DISCARD (R112): a carrier that fails step 1, 2 or 3 of Table 4.5 is counted; one that passes them is no such packet, and changes nothing here. -/
def execCmdPacketDiscard (via : Ingress) (bytes : List Byte) (s : State) : Host.Outcome State Fault Refusal :=
  .next (if discards s bytes then carrier none via bytes s else s)

/-! ### Register writes -/

/-- SYS_TEMP_CFG_WRITE (R84). -/
def execSysTempCfgWrite (via : Ingress) (h : Hdr) (value : Word) (s : State) : Host.Outcome State Fault Refusal :=
  .next (regPacket via h 0x44 0 value.toNat s)

/-- SYS_PL_WRITE (R31). -/
def execSysPlWrite (via : Ingress) (h : Hdr) (value : Word) (s : State) : Host.Outcome State Fault Refusal :=
  .next (regPacket via h 0x10 0 value.toNat s)

/-- ACC_VIOL_INFO_CLEAR (R128): a write of 1 to VALID. -/
def execAccViolInfoClear (via : Ingress) (h : Hdr) (s : State) : Host.Outcome State Fault Refusal :=
  .next (regPacket via h 0x10004 0x80000000 0 s)

/-- ACC_CTL_LOCK (R128): a write of 1 to LOCK. -/
def execAccCtlLock (via : Ingress) (h : Hdr) (s : State) : Host.Outcome State Fault Refusal :=
  .next (regPacket via h 0x10000 1 0 s)

/-- HOST_CTL_WRITE (R136). -/
def execHostCtlWrite (via : Ingress) (h : Hdr) (port : Fin 2) (value : Word) (s : State) : Host.Outcome State Fault Refusal :=
  .next (regPacket via h (0x100000 + 0x8000 * port.val) 0 value.toNat s)

/-- TIME_RATE_WRITE (R153). -/
def execTimeRateWrite (via : Ingress) (h : Hdr) (value : Word) (s : State) : Host.Outcome State Fault Refusal :=
  .next (regPacket via h 0x200020 0 value.toNat s)

/-- TIME_CTL_EPOCH_RESET (R156): a write with EPOCH_RESET 1. -/
def execTimeCtlEpochReset (via : Ingress) (h : Hdr) (value : Word) (s : State) : Host.Outcome State Fault Refusal :=
  .next (regPacket via h 0x200000 0x100 value.toNat s)

/-- TIME_CTL_SRC_WRITE (R159). -/
def execTimeCtlSrcWrite (via : Ingress) (h : Hdr) (value : Word) (s : State) : Host.Outcome State Fault Refusal :=
  .next (regPacket via h 0x200000 0 value.toNat s)

/-- TIME_STEP_GO (R158): a write of TIME_STEP_CFG with GO 1. -/
def execTimeStepGo (via : Ingress) (h : Hdr) (value : Word) (s : State) : Host.Outcome State Fault Refusal :=
  .next (regPacket via h 0x200050 0x80000000 value.toNat s)

/-- TIME_CMP_ARM (R165): a write of TIME_CMPn_HI with EN 1. -/
def execTimeCmpArm (via : Ingress) (h : Hdr) (cmp : Fin 4) (value : Word) (s : State) : Host.Outcome State Fault Refusal :=
  .next (regPacket via h (0x200104 + 0x10 * cmp.val) 0x80000000 value.toNat s)

/-- TIME_LNCH_EN_WRITE (R167). -/
def execTimeLnchEnWrite (via : Ingress) (h : Hdr) (slot : Fin 8) (value : Word) (s : State) : Host.Outcome State Fault Refusal :=
  .next (regPacket via h (0x200200 + 0x20 * slot.val) 0 value.toNat s)

/-- FAB_CTL_EN_WRITE (R174). -/
def execFabCtlEnWrite (via : Ingress) (h : Hdr) (port : Fin 8) (value : Word) (s : State) : Host.Outcome State Fault Refusal :=
  .next (regPacket via h (0x300000 + 0x4000 * port.val) 0 value.toNat s)

/-- FAB_CTL_RETRAIN (R174): a write with RETRAIN 1. -/
def execFabCtlRetrain (via : Ingress) (h : Hdr) (port : Fin 8) (value : Word) (s : State) : Host.Outcome State Fault Refusal :=
  .next (regPacket via h (0x300000 + 0x4000 * port.val) 0x80000000 value.toNat s)

/-- CODEC_ENC_GO (R226): a write with GO 1. -/
def execCodecEncGo (via : Ingress) (h : Hdr) (value : Word) (s : State) : Host.Outcome State Fault Refusal :=
  .next (regPacket via h 0x400100 0x80000000 value.toNat s)

/-- CODEC_ENC_ABORT (R228): a write with ABORT 1. -/
def execCodecEncAbort (via : Ingress) (h : Hdr) (value : Word) (s : State) : Host.Outcome State Fault Refusal :=
  .next (regPacket via h 0x400100 0x40000000 value.toNat s)

/-- DRAM_CTL_EN_WRITE (R240). -/
def execDramCtlEnWrite (via : Ingress) (h : Hdr) (ctrl : Fin 2) (value : Word) (s : State) : Host.Outcome State Fault Refusal :=
  .next (regPacket via h (0x600000 + 0x8000 * ctrl.val) 0 value.toNat s)

/-- DRAM_CTL_RETRAIN (R242): a write with RETRAIN 1. -/
def execDramCtlRetrain (via : Ingress) (h : Hdr) (ctrl : Fin 2) (value : Word) (s : State) : Host.Outcome State Fault Refusal :=
  .next (regPacket via h (0x600000 + 0x8000 * ctrl.val) 2 value.toNat s)

/-- DRAM_ECC_EN_WRITE (R244). -/
def execDramEccEnWrite (via : Ingress) (h : Hdr) (value : Word) (s : State) : Host.Outcome State Fault Refusal :=
  .next (regPacket via h 0x600100 0 value.toNat s)

/-- DRAM_MAP_WRITE (R237). -/
def execDramMapWrite (via : Ingress) (h : Hdr) (map : Fin 7) (value : Word) (s : State) : Host.Outcome State Fault Refusal :=
  .next (regPacket via h (0x600110 + 4 * map.val) 0 value.toNat s)

/-- DMA_EN_WRITE (R256). -/
def execDmaEnWrite (via : Ingress) (h : Hdr) (channel : Fin 32) (value : Word) (s : State) : Host.Outcome State Fault Refusal :=
  .next (regPacket via h (0x500000 + 0x100 * channel.val) 0 value.toNat s)

/-- DMA_SHADOW_VALID_WRITE (R250): a write with SHADOW_VALID 1. -/
def execDmaShadowValidWrite (via : Ingress) (h : Hdr) (channel : Fin 32) (value : Word) (s : State) : Host.Outcome State Fault Refusal :=
  .next (regPacket via h (0x500000 + 0x100 * channel.val) 2 value.toNat s)

/-- POS_CTL_EN_WRITE (R261). -/
def execPosCtlEnWrite (via : Ingress) (h : Hdr) (channel : Fin 4) (value : Word) (s : State) : Host.Outcome State Fault Refusal :=
  .next (regPacket via h (0x700000 + 0x1000 * channel.val) 0 value.toNat s)

/-- POS_CLR_FAULT (R272): a write with CLR_FAULT 1. -/
def execPosClrFault (via : Ingress) (h : Hdr) (channel : Fin 4) (value : Word) (s : State) : Host.Outcome State Fault Refusal :=
  .next (regPacket via h (0x700000 + 0x1000 * channel.val) 0x80000000 value.toNat s)

/-- POS_Z_ARM (R264): a write with Z_ARM 1. -/
def execPosZArm (via : Ingress) (h : Hdr) (channel : Fin 4) (value : Word) (s : State) : Host.Outcome State Fault Refusal :=
  .next (regPacket via h (0x700000 + 0x1000 * channel.val) 0x40000000 value.toNat s)

/-- CMP_CTL_EN_WRITE (R284). -/
def execCmpCtlEnWrite (via : Ingress) (h : Hdr) (cmp : Fin 4) (value : Word) (s : State) : Host.Outcome State Fault Refusal :=
  .next (regPacket via h (0x704100 + 0x40 * cmp.val) 0 value.toNat s)

/-- CMP_ENTRY_COMMIT (R285): a write of the second word of a list entry. -/
def execCmpEntryCommit (via : Ingress) (h : Hdr) (cmp : Fin 4) (entry : Fin 1024) (value : Word) (s : State) : Host.Outcome State Fault Refusal :=
  .next (regPacket via h (0x708004 + 0x2000 * cmp.val + 8 * entry.val) 0 value.toNat s)

/-- FIRE_WF_GO (R358): a write of 1 to GO. -/
def execFireWfGo (via : Ingress) (h : Hdr) (s : State) : Host.Outcome State Fault Refusal :=
  .next (regPacket via h 0x900108 0x80000000 0 s)

/-- HL_FIRE_DELAY_WRITE (R399). -/
def execHlFireDelayWrite (via : Ingress) (h : Hdr) (port : Fin 64) (value : Word) (s : State) : Host.Outcome State Fault Refusal :=
  .next (regPacket via h (0xA00308 + 0x400 * port.val) 0 value.toNat s)

/-- HL_WF_CFG_WRITE (R363): HL_WF_LIMIT or HL_WF_CFG. -/
def execHlWfCfgWrite (via : Ingress) (h : Hdr) (port : Fin 64) (limit : Bool) (value : Word) (s : State) : Host.Outcome State Fault Refusal :=
  .next (regPacket via h ((if limit then 0xA00300 else 0xA00304) + 0x400 * port.val) 0 value.toNat s)

/-- HL_CTL_EN_WRITE (R367). -/
def execHlCtlEnWrite (via : Ingress) (h : Hdr) (port : Fin 64) (value : Word) (s : State) : Host.Outcome State Fault Refusal :=
  .next (regPacket via h (0xA00000 + 0x400 * port.val) 0 value.toNat s)

/-- HL_CTL_RETRAIN (R367): a write with RETRAIN 1. -/
def execHlCtlRetrain (via : Ingress) (h : Hdr) (port : Fin 64) (value : Word) (s : State) : Host.Outcome State Fault Refusal :=
  .next (regPacket via h (0xA00000 + 0x400 * port.val) 0x80000000 value.toNat s)

/-- HL_ID_ACCEPT (R373): a write with ACCEPT 1. -/
def execHlIdAccept (via : Ingress) (h : Hdr) (port : Fin 64) (value : Word) (s : State) : Host.Outcome State Fault Refusal :=
  .next (regPacket via h (0xA00050 + 0x400 * port.val) 0x80000000 value.toNat s)

/-- HL_TEMP_CFG_WRITE (R380). -/
def execHlTempCfgWrite (via : Ingress) (h : Hdr) (port : Fin 64) (value : Word) (s : State) : Host.Outcome State Fault Refusal :=
  .next (regPacket via h (0xA0001C + 0x400 * port.val) 0 value.toNat s)

/-- HL_MEAS_GO (R387): a write of 1 to GO. -/
def execHlMeasGo (via : Ingress) (h : Hdr) (s : State) : Host.Outcome State Fault Refusal :=
  .next (regPacket via h 0xA10000 0x80000000 0 s)

/-- HL_MEAS_ABORT (R389): a write of 1 to ABORT. -/
def execHlMeasAbort (via : Ingress) (h : Hdr) (s : State) : Host.Outcome State Fault Refusal :=
  .next (regPacket via h 0xA10000 0x40000000 0 s)

/-- ISP_COMMIT (R434): a write with COMMIT 1. -/
def execIspCommit (via : Ingress) (h : Hdr) (port : Fin 4) (value : Word) (s : State) : Host.Outcome State Fault Refusal :=
  .next (regPacket via h (0xC00030 + 0x4000 * port.val) 0x80000000 value.toNat s)

/-- CAM_CTL_WRITE (R436). -/
def execCamCtlWrite (via : Ingress) (h : Hdr) (port : Fin 4) (value : Word) (s : State) : Host.Outcome State Fault Refusal :=
  .next (regPacket via h (0xC00000 + 0x4000 * port.val) 0 value.toNat s)

/-- NHA_SOURCE_EN_WRITE (R456). -/
def execNhaSourceEnWrite (via : Ingress) (h : Hdr) (source : Fin 8) (value : Word) (s : State) : Host.Outcome State Fault Refusal :=
  .next (regPacket via h (if source.val < 4 then 0xD00100 + 0x80 * source.val else 0xD00500 + 0x20 * (source.val - 4)) 0 value.toNat s)

/-- PAIR_CTL_CLAIM (R469): a write with CLAIM 1. -/
def execPairCtlClaim (via : Ingress) (h : Hdr) (value : Word) (s : State) : Host.Outcome State Fault Refusal :=
  .next (regPacket via h 0xE00000 0x80000000 value.toNat s)

/-- PAIR_CTL_RELEASE (R469): a write with RELEASE 1. -/
def execPairCtlRelease (via : Ingress) (h : Hdr) (value : Word) (s : State) : Host.Outcome State Fault Refusal :=
  .next (regPacket via h 0xE00000 0x40000000 value.toNat s)

/-- PAIR_CTL_EN_WRITE (R468). -/
def execPairCtlEnWrite (via : Ingress) (h : Hdr) (value : Word) (s : State) : Host.Outcome State Fault Refusal :=
  .next (regPacket via h 0xE00000 0 value.toNat s)

/-- HOOP_CTL_FORCE (R485): a write with FORCE 1. -/
def execHoopCtlForce (via : Ingress) (h : Hdr) (value : Word) (s : State) : Host.Outcome State Fault Refusal :=
  .next (regPacket via h 0xE00100 0x80000000 value.toNat s)

/-- HOOP_CFG_WRITE (R488). -/
def execHoopCfgWrite (via : Ingress) (h : Hdr) (value : Word) (s : State) : Host.Outcome State Fault Refusal :=
  .next (regPacket via h 0xE00104 0 value.toNat s)

/-- AXIS_CTL_WRITE (R494). -/
def execAxisCtlWrite (via : Ingress) (h : Hdr) (axis : Fin 6) (value : Word) (s : State) : Host.Outcome State Fault Refusal :=
  .next (regPacket via h (0xF00000 + 0x400 * axis.val) 0 value.toNat s)

/-- AXIS_POS_COMMIT (R511): a write of AXIS_POS_HI. -/
def execAxisPosCommit (via : Ingress) (h : Hdr) (axis : Fin 6) (value : Word) (s : State) : Host.Outcome State Fault Refusal :=
  .next (regPacket via h (0xF0000C + 0x400 * axis.val) 0 value.toNat s)

/-- LAMP_SET_WRITE (R524). -/
def execLampSetWrite (via : Ingress) (h : Hdr) (channel : Fin 8) (value : Word) (s : State) : Host.Outcome State Fault Refusal :=
  .next (regPacket via h (0x1000004 + 0x40 * channel.val) 0 value.toNat s)

/-- LAMP_GLOBAL_LOAD (R529): a write of 1 to LOAD. -/
def execLampGlobalLoad (via : Ingress) (h : Hdr) (s : State) : Host.Outcome State Fault Refusal :=
  .next (regPacket via h 0x1000A00 1 0 s)

/-- LAMP_CTL_WRITE (R519). -/
def execLampCtlWrite (via : Ingress) (h : Hdr) (channel : Fin 8) (value : Word) (s : State) : Host.Outcome State Fault Refusal :=
  .next (regPacket via h (0x1000000 + 0x40 * channel.val) 0 value.toNat s)

/-- CHK_GO (R534): a write with GO 1. -/
def execChkGo (via : Ingress) (h : Hdr) (unit : Fin 4) (value : Word) (s : State) : Host.Outcome State Fault Refusal :=
  .next (regPacket via h (0x1100000 + 0x100 * unit.val) 0x80000000 value.toNat s)

/-- CHK_ABORT (R536): a write with ABORT 1. -/
def execChkAbort (via : Ingress) (h : Hdr) (unit : Fin 4) (value : Word) (s : State) : Host.Outcome State Fault Refusal :=
  .next (regPacket via h (0x1100000 + 0x100 * unit.val) 0x40000000 value.toNat s)

/-- CHK_INIT (R533): a write with INIT 1. -/
def execChkInit (via : Ingress) (h : Hdr) (unit : Fin 4) (value : Word) (s : State) : Host.Outcome State Fault Refusal :=
  .next (regPacket via h (0x1100000 + 0x100 * unit.val) 0x20000000 value.toNat s)

/-- The route of a write of AON_CTL: a packet, or the sideband's window at index 0x04 (R78, R79). -/
def aonRoute (route : AonRoute) (action_ value : Nat) (s : State) : State :=
  match route with
  | .packet via h => regPacket via h 0x110 action_ value s
  | .window => aonWindowWrite 4 (value ||| action_) s

/-- AON_CTL_WAKE_REQ (R91): a write with WAKE_REQ 1. -/
def execAonCtlWakeReq (route : AonRoute) (value : Word) (s : State) : Host.Outcome State Fault Refusal := .next (aonRoute route 2 value.toNat s)

/-- AON_CTL_DORMANT (R88): a write with DORMANT 1. -/
def execAonCtlDormant (route : AonRoute) (value : Word) (s : State) : Host.Outcome State Fault Refusal := .next (aonRoute route 1 value.toNat s)

/-- AON_CTL_FAULT_CLR (R487): a write with FAULT_CLR 1. -/
def execAonCtlFaultClr (route : AonRoute) (value : Word) (s : State) : Host.Outcome State Fault Refusal := .next (aonRoute route 4 value.toNat s)

/-- AON_CTL_SB_WR_LOCK (R78): a write with SB_WR_LOCK 1. -/
def execAonCtlSbWrLock (route : AonRoute) (value : Word) (s : State) : Host.Outcome State Fault Refusal :=
  .next (aonRoute route 0x80000000 value.toNat s)

/-- Occurrences of defined sources of word w, by bit number with INFO. -/
def occurAll (w : Nat) (l : List (BitVec 5 × Word)) (s : State) : State :=
  each (fun e s => raise (32 * w + e.1.toNat) e.2.toNat s) (l.filter fun e => bit (evtDefined w) e.1.toNat) s

/-- EVT_PENDING_CLEAR (R130): a write of EVT_PENDINGw, with the occurrences that fall in its cycle. They end set: each is a new change from 0 to 1 where the write cleared it. -/
def execEvtPendingClear (via : Ingress) (h : Hdr) (word : Fin 4) (value : Word) (sameCycle : List (BitVec 5 × Word)) (s : State) :
    Host.Outcome State Fault Refusal :=
  .next (occurAll word.val sameCycle (regPacket via h (0x20010 + 4 * word.val) 0 value.toNat s))

end Sys2Proof.Machine
end

