-- ==== Sys2Proof/Machine/HostRx.lean ====
section
/-! DEFINITION. What a host port receives and when it answers: frames, ARP and ICMP, transport datagrams, raster streams with their requests and acknowledgements, and IEEE 1588 (R137 to R150, R161 to R163). -/

namespace Sys2Proof.Machine

/-! ### Discards (Table 5.6) -/

/-- A frame or datagram is discarded and counted, with its reason. -/
def hostDiscard (p reason : Nat) (s : State) : State := (s.count HOST_RX_DISCARD.COUNT p).put HOST_RX_REASON.LAST reason p

/-- A port can receive: PD_HOST is on, the port enabled and LINK is 1. -/
def hostUp (s : State) (p : Nat) : Bool := s.on 6 && s.is HOST_CTL.EN p && s.is HOST_STATUS.LINK p

/-- HOST_IP is 0, or the boot ROM runs (R141). -/
def hostNoIp (s : State) (p : Nat) : Bool := s.get HOST_IP.IP p = 0 || s.pow.romHost

/-! ### Raster streams (R145 to R149) -/

/-- A stream of a port. -/
def State.stream (s : State) (p n : Nat) : Stream := mapGet {} s.host.streams (8 * p + n)

/-- Replace a stream. -/
def State.setStream (s : State) (p n : Nat) (t : Stream) : State :=
  { s with host := { s.host with streams := mapSet {} (8 * p + n) t s.host.streams } }

/-- The raster source of a stream. -/
def streamSource (p n : Nat) : Nat := 2048 + 64 * p + n

/-- The distance of a SEQ from E, signed (R146). -/
def seqDist (e q : Nat) : Int := sext 32 (wrap 32 ((q : Int) - e))

/-- Keep a payload in SEQ order. -/
def holdPayload (e q : Nat) (d : Option (List Byte)) : List (Nat × Option (List Byte)) → List (Nat × Option (List Byte))
  | [] => [(q, d)]
  | x :: l => if seqDist e q < seqDist e x.1 then (q, d) :: x :: l else x :: holdPayload e q d l

/-- What of the held payloads follows E without a gap: the E past them, the payloads still held, and those that pass (R146, R149). -/
def passable : List (Nat × Option (List Byte)) → Nat → Nat × List (Nat × Option (List Byte)) × List (Option (List Byte))
  | [], e => (e, [], [])
  | (q, d) :: l, e =>
    if q = e then
      let r := passable l ((e + 1) % 2 ^ 32)
      (r.1, r.2.1, d :: r.2.2)
    else (e, (q, d) :: l, [])

/-- Put a payload, or the marker of a SEQ given up, in its place, and pass to raster ingest what can pass. -/
def streamTake (p n : Nat) (t : Stream) (q : Nat) (d : Option (List Byte)) (s : State) : State :=
  let r := passable (holdPayload t.expect q d t.held) t.expect
  each (rasterItem (streamSource p n)) r.2.2
    (s.setStream p n { t with expect := r.1, held := r.2.1, requests := t.requests.filter fun x => 0 ≤ seqDist r.1 x.1 })

/-- The missing SEQs of a stream: below the highest held one, and not arrived (R147). -/
def missingSeqs (t : Stream) : List Nat :=
  match t.held.getLast? with
  | none => []
  | some (q, _) => ((List.range (seqDist t.expect q).toNat).map fun k => (t.expect + k) % 2 ^ 32).filter fun x => !t.held.any fun h => h.1 = x

/-- SEQs in rising order grouped into as few ranges as possible. -/
def seqRanges : List Nat → List (Nat × Nat)
  | [] => []
  | q :: qs => match seqRanges qs with
    | (f, n) :: rest => if f = (q + 1) % 2 ^ 32 then (q, n + 1) :: rest else (q, 1) :: (f, n) :: rest
    | [] => [(q, 1)]

/-- Bytes in use in a port's half of Vat region 2. -/
def hostBytes (s : State) (p : Nat) : Nat :=
  let held := [0, 1, 2, 3, 4, 5, 6, 7].foldl (fun m n =>
    (s.stream p n).held.foldl (fun m h => m + (h.2.getD []).length) m) 0
  held + ingressBytes s (streamSource p 0) (streamSource p 0 + 8)

/-- CREDIT: free bytes of a port's half of region 2, 1 MiB. -/
def hostCredit (s : State) (p : Nat) : Nat := 0x100000 - hostBytes s p

/-- Send a status datagram with the lowest 64 ranges (R148). -/
def sendStatus (p n : Nat) (missing : List Nat) (s : State) : State :=
  let t := s.stream p n
  s.emit (.status p n (t.bound.getD 0) t.expect (hostCredit s p) ((seqRanges missing).take 64))

/-- A RASTER datagram of a stream from a source (R145, R146). -/
def rasterRx (p n source : Nat) (resync : Bool) (q : Nat) (payload : List Byte) (s : State) : State :=
  if 7 < n then hostDiscard p 8 s
  else
    let t : Stream := if resync then { bound := some source, expect := q } else s.stream p n
    if t.bound ≠ some source then hostDiscard p 8 s
    else
      let t := { t with lastRx := s.time.raw }
      let d := seqDist t.expect q
      if d < 0 ∨ 4096 ≤ d ∨ t.held.any (fun h => h.1 = q) then hostDiscard p 8 (s.setStream p n t)
      else streamTake p n t q (some payload) s

/-- NAK_REQUEST (R147): the requests for some missing SEQs fall due together, and share one status datagram. -/
def nakRequest (p n : Nat) (due : List Nat) (s : State) : State :=
  let t := s.stream p n
  let ask := (missingSeqs t).filter fun q => due.contains q && mapGet 0 t.requests q < s.get HOST_NAK_CFG.NAK_TRIES p
  if ¬hostUp s p ∨ ask.isEmpty then s
  else
    let t := { t with requests := ask.foldl (fun m q => mapPut q (mapGet 0 m q + 1) m) t.requests }
    sendStatus p n ask (s.setStream p n t)

/-- ACK_INTERVAL in ns. -/
def ackInterval (s : State) (p : Nat) : Nat := max 1 (s.get HOST_NAK_CFG.ACK_INTERVAL p) * 100000

/-- ACK_INTERVAL_STATUS (R147): the periodic status of a stream that has received a datagram within the last ten intervals. -/
def ackStatus (p n : Nat) (s : State) : State :=
  let t := s.stream p n
  if hostUp s p ∧ t.bound ≠ none ∧ s.time.raw - t.lastRx ≤ 10 * ackInterval s p then sendStatus p n (missingSeqs t) s else s

/-- SEQ_GIVEN_UP (R149): a missing SEQ whose requests are spent. -/
def giveUpSeq (p n q : Nat) (s : State) : State :=
  let t := s.stream p n
  if hostUp s p ∧ (missingSeqs t).contains q ∧ s.get HOST_NAK_CFG.NAK_TRIES p ≤ mapGet 0 t.requests q then
    streamTake p n t q none (s.count HOST_RX_GAP.COUNT p)
  else s

/-! ### Transport datagrams (R142 to R144, R150) -/

/-- The class of a transport datagram. -/
def datagramClass (d : List Byte) : Nat := beAt d 0 1 % 16

/-- R143: the datagram's header is one that a port takes in. -/
def datagramOk (d : List Byte) : Bool :=
  let c := datagramClass d
  16 ≤ d.length && beAt d 0 1 / 16 = 1 && (c = 1 || c = 4 || c = 6) && beAt d 1 1 % 64 = 0 && beAt d 10 6 = 0
    && beAt d 8 2 + 16 = d.length && !(c = 4 && bit (beAt d 1 1) 7) && (c ≠ 6 || d.length = 48)

/-- A TRIGGER payload reaches FIRE (Table 6.8, R202): its 48-bit START_AT is judged by the signed difference of R165. -/
def triggerRx (b : List Byte) (s : State) : State :=
  fireTrigger (beAt b 0 2) (wrap 64 ((s.now : Int) + s.until48 (beAt b 4 6))) s

/-- A transport datagram, as the UDP payload, from a sender. -/
def datagramRx (p : Nat) (from_ : NetAddr) (d : List Byte) (s : State) : State :=
  let c := datagramClass d
  let payload := d.drop 16
  if !datagramOk d then hostDiscard p 7 s
  else if hostCredit s p < payload.length then raise HOST_RX_OVERRUN (p + 16 * c) (hostDiscard p 9 s)
  else if c = 1 then carrier (some from_) (.host (if p = 0 then 0 else 1)) payload s
  else if c = 6 then triggerRx payload s
  else rasterRx p (beAt d 2 2) (65536 * from_.ip.toNat + from_.port.toNat) (bit (beAt d 1 1) 6) (beAt d 4 4) payload s

/-! ### Frames (R138 to R141) -/

/-- The frame carries one IEEE 802.1Q tag. -/
def frameTagged (f : List Byte) : Bool := beAt f 12 2 = 0x8100

/-- The place of the Ethertype. -/
def frameType (f : List Byte) : Nat := if frameTagged f then 16 else 12

/-- The MAC mapped from an IPv4 group (RFC 1112). -/
def groupMac (g : Nat) : Nat := 0x01005E000000 + g % 2 ^ 23

/-- PTP is enabled on the port over a transport. -/
def ptpOn (s : State) (p : Nat) (udp : Bool) : Bool := s.is HOST_PTP_CFG.EN p && (s.is HOST_PTP_CFG.UDP p = udp)

/-- A MAC that a port takes frames for (R138); with PTP over UDP, those of its two groups too (Table 5.7). -/
def macTaken (s : State) (p mac : Nat) : Bool :=
  mac = s.get HOST_MAC.MAC p || mac = 0xFFFFFFFFFFFF
    || (s.get HOST_MCAST.GROUP p ≠ 0 && mac = groupMac (s.get HOST_MCAST.GROUP p))
    || (s.is HOST_PTP_CFG.EN p && (mac = 0x011B19000000 || mac = 0x0180C200000E))
    || (ptpOn s p true && (mac = groupMac 0xE0000181 || mac = groupMac 0xE000006B))

/-- Why a frame is not taken in, or 0: FCS, size, VLAN and MAC, in that order (R138). -/
def frameReason (s : State) (p : Nat) (f : List Byte) : Nat :=
  if f.length < 4 ∨ leVal (f.drop (f.length - 4)) ≠ crc32 (f.take (f.length - 4)) then 1
  else if f.length < 64 ∨ (if frameTagged f then 9022 else 9018) < f.length then 2
  else if frameTagged f ≠ s.is HOST_CTL.VLAN_EN p ∨ (frameTagged f ∧ beAt f 14 2 % 4096 ≠ s.get HOST_CTL.VID p)
      ∨ ¬macTaken s p (beAt f 0 6) then 3
  else 0

/-- The Internet checksum of bytes. -/
def inetSum : List Byte → Nat
  | [] => 0
  | [a] => a.toNat * 256
  | a :: b :: l => a.toNat * 256 + b.toNat + inetSum l

/-- A sum folded into 16 bits in ones' complement. -/
def fold16 (v : Nat) : Nat := if v = 0 then 0 else (v - 1) % 65535 + 1

/-- The checksum over bytes that includes its own field is right. -/
def sumOk (bs : List Byte) : Bool := fold16 (inetSum bs) = 0xFFFF

/-- The checksum field for bytes whose field is 0. -/
def sumField (bs : List Byte) : Nat := 0xFFFF - fold16 (inetSum bs)

/-- The header of a frame that a port sends: MACs, the port's tag, and an Ethertype. -/
def frameHead (s : State) (p dst type : Nat) : List Byte :=
  beBytes 6 dst ++ beBytes 6 (s.get HOST_MAC.MAC p)
    ++ (if s.is HOST_CTL.VLAN_EN p then beBytes 2 0x8100 ++ beBytes 2 (s.get HOST_CTL.VID p) else []) ++ beBytes 2 type

/-- A frame padded to 60 bytes. -/
def padFrame (f : List Byte) : List Byte := f ++ zeros (60 - f.length)

/-- An ARP packet for HOST_IP is answered (R138); nothing else of ARP is handled, and none while HOST_IP is 0 (R141). -/
def arpRx (p : Nat) (a : List Byte) (s : State) : State :=
  if 28 ≤ a.length ∧ beAt a 0 2 = 1 ∧ beAt a 2 2 = 0x0800 ∧ beAt a 4 1 = 6 ∧ beAt a 5 1 = 4 ∧ beAt a 6 2 = 1
      ∧ beAt a 24 4 = s.get HOST_IP.IP p ∧ ¬hostNoIp s p then
    let body := beBytes 2 1 ++ beBytes 2 0x0800 ++ beBytes 1 6 ++ beBytes 1 4 ++ beBytes 2 2
      ++ beBytes 6 (s.get HOST_MAC.MAC p) ++ beBytes 4 (s.get HOST_IP.IP p) ++ slice a 8 10
    s.emit (.frame p (padFrame (frameHead s p (beAt a 8 6) 0x0806 ++ body)))
  else hostDiscard p 4 s

/-- An IPv4 header with DF, TTL 64 and its checksum (R139); its identification and type of service are free. -/
def ipHead (tos id len proto src dst : Nat) : List Byte :=
  let h (sum : Nat) : List Byte := beBytes 1 0x45 ++ beBytes 1 tos ++ beBytes 2 len ++ beBytes 2 id ++ beBytes 2 0x4000
    ++ beBytes 1 64 ++ beBytes 1 proto ++ beBytes 2 sum ++ beBytes 4 src ++ beBytes 4 dst
  h (sumField (h 0))

/-- An ICMPv4 message: an echo request to HOST_IP is answered (R138, R141). -/
def icmpRx (p mac : Nat) (ip m : List Byte) (s : State) : State :=
  if 8 ≤ m.length ∧ beAt m 0 2 = 0x0800 ∧ sumOk m ∧ beAt ip 16 4 = s.get HOST_IP.IP p ∧ ¬hostNoIp s p then
    let (v, s) := s.draw 24
    let body := m.drop 4
    let answer := beBytes 2 0 ++ beBytes 2 (sumField (beBytes 4 0 ++ body)) ++ body
    s.emit (.frame p (padFrame (frameHead s p mac 0x0800
      ++ ipHead (v % 256) (v / 256) (20 + m.length) 1 (s.get HOST_IP.IP p) (beAt ip 12 4) ++ answer)))
  else hostDiscard p 4 s

/-- The IPv4 destination is one that a port takes (R139, R141), with PTP over UDP its two groups too. -/
def ipTaken (s : State) (p mac dst : Nat) : Bool :=
  (hostNoIp s p && (mac = s.get HOST_MAC.MAC p || mac = 0xFFFFFFFFFFFF))
    || (dst = s.get HOST_IP.IP p && !hostNoIp s p)
    || (s.get HOST_MCAST.GROUP p ≠ 0 && dst = s.get HOST_MCAST.GROUP p) || dst = 0xFFFFFFFF
    || (ptpOn s p true && (dst = 0xE0000181 || dst = 0xE000006B))

/-- An IPv4 header that a port takes (R139). -/
def ipOk (s : State) (p mac : Nat) (ip : List Byte) : Bool :=
  20 ≤ ip.length && beAt ip 0 1 = 0x45 && sumOk (ip.take 20) && beAt ip 6 2 % 16384 = 0
    && 20 ≤ beAt ip 2 2 && beAt ip 2 2 ≤ ip.length && ipTaken s p mac (beAt ip 16 4)

/-- A UDP datagram's length and checksum are right; a checksum of 0 is accepted (R139). -/
def udpOk (ip u : List Byte) : Bool :=
  8 ≤ u.length && beAt u 4 2 = u.length
    && (beAt u 6 2 = 0 || sumOk (slice ip 12 8 ++ beBytes 2 17 ++ beBytes 2 u.length ++ u))

/-! ### IEEE 1588 (R161 to R163) -/

/-- What a port keeps of IEEE 1588. -/
def State.ptpPort (s : State) (p : Nat) : Ptp := mapGet {} s.host.ptp p

/-- Replace it. -/
def State.setPtp (s : State) (p : Nat) (t : Ptp) : State := { s with host := { s.host with ptp := mapSet {} p t s.host.ptp } }

/-- The port is master (Table 5.7): its own data set is best and SLAVE_ONLY is 0. -/
def ptpMaster (s : State) (p : Nat) : Bool := !s.is HOST_PTP_CFG.SLAVE_ONLY p && !(s.ptpPort p).better

/-- A timestamp taken now, in 2^-16 ns: whole ns of corrected time, within 2 ns of the true passage (R162). -/
def ptpStamp (s : State) : Int × State :=
  let (e, s) := s.draw 18
  ((s.nowQ + e - 131072) / 65536 * 65536, s)

/-- The servo's correction once an offset is measured (R163): an absolute step in an UNSTEPPED epoch, once one delay measurement is complete; afterwards only the rate, whose value the firmware's servo chooses. -/
def servoCorrect (offset : Int) (s : State) : State :=
  if s.is TIME_STATUS.STEPPED then
    let (r, s) := s.draw 32
    timeSetRate (sext 32 r) s
  else (timeStepDo 3 false s.time.raw (s.nowQ - offset) s).2

/-- A complete Sync reaches the servo (R163): the offset from master is arrival - origin - delay - ASYM. -/
def servoRun (p : Nat) (s : State) : State :=
  let t := s.ptpPort p
  match t.sync, t.delay with
  | some (origin, arrival), some delay =>
    if s.get TIME_CTL.SRC = 1 ∧ ¬ptpMaster s p ∧ s.pow.firmware then
      servoCorrect (arrival - origin - delay - s.getS HOST_PTP_CFG.ASYM p * 65536) s
    else s
  | _, _ => s

/-- The time that a message carries with its correction, 2^-16 ns. -/
def messageTime (m : PtpMessage) : Int := m.stamp.toNat * 65536 + sext 64 m.correction.toNat

/-- A message that a slave, or a peer that measures its link, uses. -/
def ptpSlaveRx (p : Nat) (m : PtpMessage) (s : State) : State :=
  let t := s.ptpPort p
  match m.kind with
  | .sync =>
    let (a, s) := ptpStamp s
    s.setPtp p { t with syncSeq := some (m.seq.toNat, a - sext 64 m.correction.toNat) }
  | .followUp => match t.syncSeq with
    | some (q, a) => if q = m.seq.toNat then servoRun p (s.setPtp p { t with syncSeq := none, sync := some (messageTime m, a) }) else s
    | none => s
  | .delayResp => match t.req, t.sync with
    | some (q, t3), some (origin, arrival) =>
      if q = m.seq.toNat ∧ ¬s.is HOST_PTP_CFG.P2P p then
        let t4 : Int := m.stamp.toNat * 65536 - sext 64 m.correction.toNat
        s.setPtp p { t with req := none, delay := some (((arrival - origin) + (t4 - t3)) / 2) }
      else s
    | _, _ => s
  | _ => s

/-- A peer delay message (P2P). -/
def ptpPeerRx (p : Nat) (m : PtpMessage) (s : State) : State :=
  let t := s.ptpPort p
  match m.kind with
  | .pdelayReq =>
    let (t2, s) := ptpStamp s
    let (t3, s) := ptpStamp s
    (s.emit (.ptp p .pdelayResp m.seq.toNat t2)).emit (.ptp p .pdelayRespFollowUp m.seq.toNat t3)
  | .pdelayResp =>
    if t.req.any fun r => r.1 = m.seq.toNat then
      let (t4, s) := ptpStamp s
      s.setPtp p { t with pdelay := some (m.stamp.toNat * 65536 + sext 64 m.correction.toNat, t4) }
    else s
  | _ => match t.req, t.pdelay with
    | some (q, t1), some (t2, t4) =>
      if q = m.seq.toNat then s.setPtp p { t with req := none, pdelay := none, delay := some (((t4 - t1) - (messageTime m - t2)) / 2) } else s
    | _, _ => s

/-- An IEEE 1588 message (R161): one of another domain, over the other transport or with PTP off is not for this port; management and signalling are discarded. -/
def ptpRx (p : Nat) (m : PtpMessage) (s : State) : State :=
  if ¬hostUp s p ∨ ¬ptpOn s p m.udp ∨ m.domain.toNat ≠ s.get HOST_PTP_CFG.DOMAIN p then s
  else match m.kind with
    | .other => hostDiscard p 4 s
    | .announce => s.setPtp p { s.ptpPort p with better := m.better }
    | .delayReq =>
      if ptpMaster s p ∧ ¬s.is HOST_PTP_CFG.P2P p then
        let (a, s) := ptpStamp s
        s.emit (.ptp p .delayResp m.seq.toNat a)
      else s
    | .sync | .followUp | .delayResp => if ptpMaster s p then s else ptpSlaveRx p m s
    | .pdelayReq | .pdelayResp | .pdelayRespFollowUp => if s.is HOST_PTP_CFG.P2P p then ptpPeerRx p m s else s

/-- The next sequenceId is used. -/
def ptpNext (p : Nat) (s : State) : State :=
  let t := s.ptpPort p
  s.setPtp p { t with seq := (t.seq + 1) % 65536 }

/-- A request leaves, and its departure is kept for the answer. -/
def ptpAsk (p : Nat) (kind : PtpKind) (s : State) : State :=
  let (d, s) := ptpStamp s
  let t := s.ptpPort p
  ptpNext p ((s.setPtp p { t with req := some (t.seq, d), pdelay := none }).emit (.ptp p kind t.seq d))

/-- PTP_MESSAGE_INTERVAL (R161): a message of a kind falls due: Sync with its Follow_Up and Announce from a master, Delay_Req from a slave, Pdelay_Req with P2P. -/
def ptpInterval (p : Nat) (kind : PtpKind) (s : State) : State :=
  if ¬hostUp s p ∨ ¬s.is HOST_PTP_CFG.EN p ∨ ¬s.pow.firmware then s
  else
    let q := (s.ptpPort p).seq
    match kind with
    | .sync =>
      if ptpMaster s p then
        let (d, s) := ptpStamp s
        ptpNext p ((s.emit (.ptp p .sync q d)).emit (.ptp p .followUp q d))
      else s
    | .announce => if ptpMaster s p then ptpNext p (s.emit (.ptp p .announce q s.nowQ)) else s
    | .delayReq => if ¬ptpMaster s p ∧ ¬s.is HOST_PTP_CFG.P2P p then ptpAsk p .delayReq s else s
    | .pdelayReq => if s.is HOST_PTP_CFG.P2P p then ptpAsk p .pdelayReq s else s
    | .followUp | .delayResp | .pdelayResp | .pdelayRespFollowUp | .other => s

/-- The kind that messageType names. -/
def ptpKind (n : Nat) : PtpKind :=
  if n = 0 then .sync else if n = 1 then .delayReq else if n = 2 then .pdelayReq else if n = 3 then .pdelayResp
  else if n = 8 then .followUp else if n = 9 then .delayResp else if n = 10 then .pdelayRespFollowUp else if n = 11 then .announce
  else .other

/-- An IEEE 1588 message by its bytes: how an Announce compares is free, because this spec gives no data set of the port's own. -/
def ptpBytes (p : Nat) (udp : Bool) (b : List Byte) (s : State) : State :=
  if b.length < 34 then hostDiscard p 4 s
  else
    let (v, s) := s.draw 1
    ptpRx p
      { kind := ptpKind (beAt b 0 1 % 16), domain := BitVec.ofNat 8 (beAt b 4 1), seq := BitVec.ofNat 16 (beAt b 30 2)
        stamp := BitVec.ofNat 64 (beAt b 34 6 * 1000000000 + beAt b 40 4), correction := BitVec.ofNat 64 (beAt b 8 8)
        udp := udp, better := v = 1 } s

/-! ### What arrives -/

/-- An IPv4 datagram (R138, R139). -/
def ipRx (p mac srcMac : Nat) (b : List Byte) (s : State) : State :=
  if !ipOk s p mac b then hostDiscard p 5 s
  else
    let ip := b.take (beAt b 2 2)
    let u := ip.drop 20
    if beAt ip 9 1 = 1 then icmpRx p srcMac ip u s
    else if beAt ip 9 1 ≠ 17 then hostDiscard p 4 s
    else if !udpOk ip u then hostDiscard p 6 s
    else if ptpOn s p true && (beAt u 2 2 = 319 || beAt u 2 2 = 320) then ptpBytes p true (u.drop 8) s
    else if beAt u 2 2 ≠ s.get HOST_UDP.PORT p then hostDiscard p 6 s
    else
      datagramRx p
        { mac := BitVec.ofNat 48 srcMac, ip := BitVec.ofNat 32 (beAt ip 12 4), port := BitVec.ofNat 16 (beAt u 0 2)
          sentTo := BitVec.ofNat 32 (beAt ip 16 4) } (u.drop 8) s

/-- HOST_FRAME_RX (R138): a frame from the destination MAC to the FCS. -/
def frameRx (p : Nat) (f : List Byte) (s : State) : State :=
  if !hostUp s p then s
  else
    let r := frameReason s p f
    let at_ := frameType f
    let body := (f.take (f.length - 4)).drop (at_ + 2)
    if r ≠ 0 then hostDiscard p r s
    else if beAt f at_ 2 = 0x0806 then arpRx p body s
    else if beAt f at_ 2 = 0x0800 then ipRx p (beAt f 0 6) (beAt f 6 6) body s
    else if beAt f at_ 2 = 0x88F7 ∧ ptpOn s p false then ptpBytes p false body s
    else hostDiscard p 4 s

/-- HOST_FRAME_RX (R138). -/
def execHostFrameRx (port : Fin 2) (frame : List Byte) (s : State) : Host.Outcome State Fault Refusal := .next (frameRx port.val frame s)

/-- RASTER_DATAGRAM_RX (R146): a datagram of class RASTER; one of another class is none. -/
def execRasterDatagramRx (port : Fin 2) (source : NetAddr) (datagram : List Byte) (s : State) : Host.Outcome State Fault Refusal :=
  .next (if hostUp s port.val && datagramClass datagram = 4 then datagramRx port.val source datagram s else s)

/-- TRIGGER_DATAGRAM_RX (R143, R201): a datagram of class TRIGGER; one of another class is none. -/
def execTriggerDatagramRx (port : Fin 2) (source : NetAddr) (datagram : List Byte) (s : State) : Host.Outcome State Fault Refusal :=
  .next (if hostUp s port.val && datagramClass datagram = 6 then datagramRx port.val source datagram s else s)

/-- NAK_REQUEST (R147). -/
def execNakRequest (port : Fin 2) (stream : Fin 8) (due : List Word) (s : State) : Host.Outcome State Fault Refusal :=
  .next (nakRequest port.val stream.val (due.map BitVec.toNat) s)

/-- ACK_INTERVAL_STATUS (R147). -/
def execAckIntervalStatus (port : Fin 2) (stream : Fin 8) (s : State) : Host.Outcome State Fault Refusal :=
  .next (ackStatus port.val stream.val s)

/-- SEQ_GIVEN_UP (R149). -/
def execSeqGivenUp (port : Fin 2) (stream : Fin 8) (seq : Word) (s : State) : Host.Outcome State Fault Refusal :=
  .next (giveUpSeq port.val stream.val seq.toNat s)

/-- PTP_MESSAGE_RX (R161). -/
def execPtpMessageRx (port : Fin 2) (message : PtpMessage) (s : State) : Host.Outcome State Fault Refusal := .next (ptpRx port.val message s)

/-- PTP_MESSAGE_INTERVAL (R161). -/
def execPtpMessageInterval (port : Fin 2) (kind : PtpKind) (s : State) : Host.Outcome State Fault Refusal :=
  .next (ptpInterval port.val kind s)

end Sys2Proof.Machine
end

