-- ==== Sys2Proof/Machine/FabCell.lean ====
section
/-! DEFINITION. Cells on the fabric: reception with replay and credit, delivery by class, forwarding and broadcast, and fabric time (R180, R182, R185 to R202, R216). -/

namespace Sys2Proof.Machine

/-! ### Cells (Table 6.6) -/

/-- DST. -/
def cellDst (c : List Byte) : Nat := beAt c 0 2 % 1024
/-- SRC. -/
def cellSrc (c : List Byte) : Nat := beAt c 2 2 % 1024
/-- HOPS. -/
def cellHops (c : List Byte) : Nat := beAt c 4 1 % 64
/-- SEQ. -/
def cellSeq (c : List Byte) : Nat := beAt c 6 2
/-- The payload. -/
def cellPayload (c : List Byte) : List Byte := c.drop 8

/-- A cell with HOPS one lower. -/
def cellOn (c : List Byte) : List Byte := c.take 4 ++ beBytes 1 (cellHops c - 1) ++ c.drop 5

/-! ### Forwarding (R193, R194) -/

/-- Drop a cell that would be forwarded (R194). -/
def fabRouteDrop (reason : Nat) (c : List Byte) (s : State) : State :=
  let info := cellDst c + reason * 4096 + cellClass c * 65536
  raise FAB_ROUTE_DROP info ((s.count FAB_ROUTE_DROP_COUNT.COUNT).put FAB_DROP_INFO.INFO info)

/-- Forward a cell by a port, or drop it. -/
def fabForward (k : Nat) (c : List Byte) (s : State) : State :=
  if 8 ≤ k then fabRouteDrop 0 c s
  else if !fabActive s k then fabRouteDrop 1 c s
  else if cellHops c = 0 then fabRouteDrop 2 c s
  else if (s.fabPort k).maxCell < c.length then fabRouteDrop 3 c s
  else fabPush k (cellOn c) s

/-- The upstream port of another node by the map: the lowest of its ports to a node nearest the root, one hop nearer than itself (R189). -/
def peerUpstream (s : State) (u : Nat) : Option Nat :=
  let m := topoAll s
  let root := s.get FAB_ROOT_UID.UID
  let near := topoFrom m root
  let hops (v : Nat) : Option Nat := (near.find? fun e => e.1 = v).map Prod.snd
  if u = root then none
  else match topoOf m u, hops u with
    | some t, some d =>
      let ports := (t.links.filter fun l => linkIn m u l.2 && (hops l.2).any fun h => h + 1 = d).map Prod.fst
      ports.foldl (fun b k => match b with | some x => some (min x k) | none => some k) none
    | _, _ => none

/-- A port of the election tree: the upstream port, or one whose peer names the link as its upstream port (R193). -/
def treePort (s : State) (k : Nat) : Bool :=
  fabActive s k && (s.fab.upstream = some k || peerUpstream s (s.get FAB_PEER_UID.UID k) = some (s.get FAB_STATUS.PEER_PORT k))

/-! ### Delivery to this node -/

/-- Fin 8 of a port number. -/
def fabFin (k : Nat) : Fin 8 := if h : k < 8 then ⟨k, h⟩ else 0

/-- A RASTER cell: one out of SEQ from its node ends the strip in progress as bad (R216). -/
def fabRaster (c : List Byte) (s : State) : State :=
  let n := cellSrc c
  let gap : Bool := match s.ing.seqs.find? fun e => e.1 = n with
    | some e => e.2 ≠ cellSeq c
    | none => false
  let s := { s with ing := { s.ing with seqs := mapPut n ((cellSeq c + 1) % 65536) s.ing.seqs } }
  rasterItem n (some (cellPayload c)) (onlyIf gap (rasterItem n none) s)

/-- A cell for this node. Replies and events are for hosts, and this node asks for none. -/
def fabDeliver (k : Nat) (c : List Byte) (s : State) : State :=
  let cls := cellClass c
  if cls = 1 then carrier none (.fab (fabFin k)) (cellPayload c) s
  else if cls = 4 then (if s.on 2 then fabRaster c s else s)
  else if cls = 6 then triggerRx (cellPayload c) s
  else if cls = 7 then nozzleReport (cellSrc c) (cellPayload c) s
  else if cls = 8 then pairSyncRx c s
  else s

/-- What becomes of a cell other than a TIME cell: broadcast, delivered or forwarded (R192 to R194, R202). -/
def fabSwitch (k : Nat) (c : List Byte) (s : State) : State :=
  if cellDst c = 1023 then
    if treePort s k then
      let s := fabDeliver k c s
      each (fun x s => fabForward x c s) (fabPorts.filter fun x => x ≠ k && treePort s x) s
    else s
  else if fabRoute s (cellDst c) = 8 then fabDeliver k c s
  else fabForward (fabRoute s (cellDst c)) c s

/-! ### Fabric time (R196 to R199) -/

/-- Corrected time as a port stamps it, in 2^-5 ns: whole ns without TIME_FINE (R196, Table 6.5). -/
def fabStamp (s : State) (k : Nat) : Int :=
  if bit (s.fabPort k).features 1 then s.nowQ / 2048 else s.nowQ / 65536 * 32

/-- The payload of a TIME cell that leaves now (Table 6.7). -/
def timePayload (s : State) (kind id : Nat) (tb : Int) : List Byte :=
  beBytes 1 kind ++ beBytes 1 id ++ beBytes 2 (s.get FAB_TOPO.GEN) ++ beBytes 8 (s.get FAB_ROOT_UID.UID)
    ++ beBytes 8 (wrap 64 (asr s.nowQ 16)) ++ beBytes 2 (wrap 16 s.nowQ) ++ beBytes 8 (wrap 64 (asr tb 5)) ++ beBytes 2 (wrap 5 tb * 2048)

/-- Send a TIME cell over one link: DST 1023, HOPS 0. -/
def sendTime (kind id : Nat) (tb : Int) (k : Nat) (s : State) : State :=
  fabPush k (mkCell 5 1023 s.node 0 (fabSeq s 1023 5) (timePayload s kind id tb)) (fabSeqStep 1023 5 s)

/-- A time in a TIME cell, in 2^-5 ns. -/
def cellTime (b : List Byte) (at_ : Nat) : Int := (beAt b at_ 8 * 65536 + beAt b (at_ + 8) 2 : Nat) / 2048

/-- FAB_DELAY_REQ_TIMER (R197): each ACTIVE port sends a DELAY_REQ. -/
def delayReq (k : Nat) (s : State) : State :=
  let p := s.fabPort k
  let s := s.setFabPort k { p with delayReq := some (p.reqId, fabStamp s k * 2048), reqId := (p.reqId + 1) % 256 }
  sendTime 2 p.reqId 0 k s

/-- DELAY_RESP: one within 10 us enters the average of the last 16 (R197). -/
def delayResp (k : Nat) (b : List Byte) (s : State) : State :=
  let p := s.fabPort k
  match p.delayReq with
  | none => s
  | some (id, t1) =>
    let t4 := fabStamp s k
    if id ≠ beAt b 1 1 ∨ 320000 < t4 - t1 / 2048 then s
    else
      let mean := tdiv ((t4 - t1 / 2048) - (cellTime b 12 - cellTime b 22)) 2
      let ds := ((mean + tdiv (s.getS FAB_ASYM.ASYM k * 32) 1000) :: p.delays).take 16
      (s.setFabPort k { p with delayReq := none, delays := ds }).putS FAB_DELAY.DELAY (tdiv (ds.foldl (· + ·) 0) ds.length) k

/-- The servo's answer to an error (R198): an absolute step in an UNSTEPPED epoch once FAB_DELAY is valid, afterwards a rate that the servo chooses. -/
def fabCorrect (k : Nat) (error : Int) (s : State) : State :=
  if s.is TIME_STATUS.STEPPED then
    let (r, s) := s.draw 32
    timeSetRate (sext 32 r) s
  else if (s.fabPort k).delays.isEmpty then s
  else (timeStepDo 3 false s.time.raw (s.nowQ - error * 2048) s).2

/-- SYNC on the upstream port from this node's root (R198). -/
def fabSync (k : Nat) (b : List Byte) (s : State) : State :=
  if s.fab.upstream ≠ some k ∨ beAt b 4 8 ≠ s.get FAB_ROOT_UID.UID then s
  else
    let error := fabStamp s k - (cellTime b 12 + s.getS FAB_DELAY.DELAY k)
    let s := s.putS FAB_TIME_STATUS.ERROR (clampI error (-32768) 32767)
    if s.get TIME_CTL.SRC ≠ 2 then s
    else
      let good := if error.natAbs ≤ 32 then s.fab.syncGood + 1 else 0
      let s := { s with fab := { s.fab with syncGood := good } }
      fabCorrect k error (onlyIf (16 ≤ good) (fun s => s.put FAB_TIME_STATUS.LOCKED 1) s)

/-- A TIME cell: FAB_TIME_CFG.EN uses it (Table 6.12). -/
def fabTime (k : Nat) (b : List Byte) (s : State) : State :=
  if !s.is FAB_TIME_CFG.EN then s
  else if beAt b 0 1 = 1 then fabSync k b s
  else if beAt b 0 1 = 2 then sendTime 3 (beAt b 1 1) (fabStamp s k) k s
  else if beAt b 0 1 = 3 then delayResp k b s
  else s

/-- FAB_SYNC_TIMER (R198): the root, or a LOCKED node whose SRC is FABRIC, sends SYNC on its tree ports but the upstream one. -/
def syncTimer (s : State) : State :=
  if s.is FAB_TIME_CFG.EN ∧ (s.is FAB_NODE.ROOT ∨ (s.is FAB_TIME_STATUS.LOCKED ∧ s.get TIME_CTL.SRC = 2)) then
    each (sendTime 1 0 0) (fabPorts.filter fun k => treePort s k && s.fab.upstream ≠ some k) s
  else s

/-! ### Reception (R180, R182, R185) -/

/-- A cell that has been received well: a TIME or TRIGGER cell of another length is counted (R182), and a reserved class is dropped. -/
def fabTake (k : Nat) (c : List Byte) (s : State) : State :=
  let cls := cellClass c
  if cls = 0 ∨ 8 < cls then s
  else if (cls = 5 ∨ cls = 6) ∧ beAt c 5 1 ≠ 32 then s.count FAB_DROP.COUNT k
  else if cls = 5 then fabTime k (cellPayload c) s
  else fabSwitch k c s

/-- The raster source whose ingress slots a cell holds, if it is raster for this node. -/
def lentFor (s : State) (c : List Byte) : Option Nat :=
  if cellDst c = 1023 ∨ fabRoute s (cellDst c) = 8 then
    (if cellClass c = 4 then some (cellSrc c) else if cellClass c = 8 then some 4096 else none)
  else none

/-- The slot that a cell has used: raster keeps it until the ingress buffer has let it go; TIME and TRIGGER cells need no credit. -/
def fabSlot (k : Nat) (c : List Byte) (s : State) : State :=
  if cellFree c then s
  else match lentFor s c with
    | some n => { s with fab := { s.fab with lent := s.fab.lent ++ [(k, n)] } }
    | none => fabOwe k s

/-- The cell is not taken: a NAK names the last good LSEQ, once, until the expected cell comes (R180). -/
def fabRefuse (k : Nat) (s : State) : State :=
  let p := s.fabPort k
  if p.nakking then s else fabAck k true (s.setFabPort k { p with nakking := true })

/-- A cell in sequence. -/
def fabInOrder (k : Nat) (c : List Byte) (s : State) : State :=
  let p := s.fabPort k
  let s := fabSlot k c (s.setFabPort k { p with rxNext := (p.rxNext + 1) % 4096, nakking := false, sinceAck := p.sinceAck + 1 })
  let s := fabTake k c s
  if 8 ≤ (s.fabPort k).sinceAck ∧ fabActive s k then fabAck k false s else s

/-- A cell is whole: its header and LEN bytes, under the right CRC. -/
def cellWhole (c : List Byte) (crc : Nat) : Bool := 8 ≤ c.length && c.length = 8 + beAt c 5 1 && crc32c c = crc

/-- FAB_CELL_RX (R180). -/
def cellRx (k lseq : Nat) (noreplay : Bool) (c : List Byte) (crc : Nat) (s : State) : State :=
  if s.on 7 ∧ fabActive s k then
    let s := fabTraffic k s
    if !cellWhole c crc then
      let s := s.count FAB_CRC_ERR.COUNT k
      if noreplay then s else fabRefuse k s
    else if noreplay then fabTake k c s
    else if lseq = (s.fabPort k).rxNext then fabInOrder k c s
    else fabRefuse k s
  else s

/-- FAB_CELL_RX (R180). -/
def execFabCellRx (port : Fin 8) (lseq : BitVec 12) (noreplay : Bool) (cell : List Byte) (crc : Word) (s : State) :
    Host.Outcome State Fault Refusal :=
  .next (cellRx port.val lseq.toNat noreplay cell crc.toNat s)

/-- FAB_DELAY_REQ_TIMER (R197). -/
def execFabDelayReqTimer (s : State) : Host.Outcome State Fault Refusal :=
  .next (if s.is FAB_TIME_CFG.EN then each delayReq (activePorts s) s else s)

/-- FAB_TIME_CELL_RX (R197, R198): a TIME cell, received without error. -/
def execFabTimeCellRx (port : Fin 8) (cell : List Byte) (s : State) : Host.Outcome State Fault Refusal :=
  .next (if s.on 7 && fabActive s port.val && cellClass cell = 5 then fabTake port.val cell (fabTraffic port.val s) else s)

/-- FAB_SYNC_TIMER (R198). -/
def execFabSyncTimer (s : State) : Host.Outcome State Fault Refusal := .next (syncTimer s)

/-- FAB_SYNC_LOSS (R199). -/
def execFabSyncLoss (s : State) : Host.Outcome State Fault Refusal := .next (fabUnlock s)

/-- TRIGGER_CELL_RX (R201, R202): a TRIGGER cell that has been received in sequence goes to FIRE, and then on. -/
def execTriggerCellRx (port : Fin 8) (cell : List Byte) (s : State) : Host.Outcome State Fault Refusal :=
  .next (if s.on 7 && fabActive s port.val && cellClass cell = 6 then fabTake port.val cell (fabTraffic port.val s) else s)

end Sys2Proof.Machine
end

