-- ==== Sys2Proof/Machine/Starter.lean ====
section
/-! DEFINITION. What the end of a wake, of a training or of a page write sets going: waiting commands, the host boot of the ROM, and the start of the firmware (R80, R86, R99, R542). -/

namespace Sys2Proof.Machine

/-! ### The boot configuration (R542) -/

/-- What an access by the firmware knows of its sender: master class CORE. -/
def coreEnv : Env := { via := .sideband, cls := 3, endpoint := 65568, opcode := 3 }

/-- One record as a MODIFY_REG of master class CORE: its status and the state after it. CORE holds every right (R126), so step 11 passes. -/
def bootModify (a mask value : Nat) (s : State) : Res :=
  let ps := beBytes 8 a ++ beBytes 4 mask ++ beBytes 4 value
  if !accessOk (limits (.host 0) 0x32) 3 ps s then no stBadParam s
  else match (needsOf 3 ps false s).find? fun d => d < 18 && !s.on d with
    | some d => no stDormant (raise SYS_DORMANT_ACCESS d s)
    | none => modifyAccess coreEnv a mask value s

/-- Apply record i: one that is refused is skipped and counted. A DORMANT request that a record makes ends the boot. -/
def bootRecord (i : Nat) (s : State) : State :=
  if s.on 1 then
    let at_ := 16 + 16 * i
    let r := bootModify (s.mramLe at_ 8) (s.mramLe (at_ + 8) 4) (s.mramLe (at_ + 12) 4) s
    if r.st = stOk ∨ r.st = stStale then afterReply r.s else r.s.count NVM_BOOT_SKIP.COUNT
  else s

/-- The area of the boot configuration holds only zeros. -/
def bootEmpty (s : State) : Bool := s.mram.all fun c => decide (16384 ≤ c.1) || decide (c.2 = 0)

/-- MAGIC, COUNT and CRC are right. -/
def bootHeaderOk (s : State) : Bool :=
  let n := s.mramLe 4 2
  s.mramLe 0 4 = 0x46434742 && n ≤ 1023 && s.mramLe 8 4 = crc32c (s.mramBytes 16 (16 * n))

/-- The boot configuration is applied. -/
def bootConfig (s : State) : State :=
  if bootEmpty s then s
  else if bootHeaderOk s then each bootRecord (List.range (s.mramLe 4 2)) s
  else s.put NVM_STATUS.BOOT_BAD 1

/-- A record accesses DRAM while a controller is TRAINING: the access waits (R241), and the boot with it. -/
def bootWaits (s : State) : Bool :=
  (dramState s 0 = 1 || dramState s 1 = 1) && !bootEmpty s && bootHeaderOk s
    && (List.range (s.mramLe 4 2)).any fun i => isDram (s.mramLe (16 + 16 * i) 8)

/-- Step 9 of Table 3.8, after the boot configuration. -/
def bootEnd (s : State) : State :=
  if bootWaits s then s
  else
    let s := bootConfig { s with pow := { s.pow with booting := false } }
    if s.on 1 then bootDone s else s

/-! ### The firmware wakes the other domains (Table 3.8, step 8) -/

/-- The order of step 8; PD_PIPE takes PD_VAT with it (R63). -/
def bootOrder : List Nat := [2, 4, 5, 6, 7, 17, 16, 8, 9, 10, 11, 12, 13, 14, 15]

/-- A domain of the order is still waking. -/
def bootWaking (d : Nat) (s : State) : Bool := s.pd d = 3 || (d = 2 && s.pd 3 = 3)

/-- Wake the domains in order; one that is on already, or has failed, is passed. -/
def bootFrom : List Nat → State → State
  | [], s => bootEnd { s with pow := { s.pow with bootQueue := [] } }
  | d :: ds, s =>
    let t := startWake d s
    if bootWaking d t then { t with pow := { t.pow with bootQueue := d :: ds } } else bootFrom ds t

/-- Go on with the boot, if the domain it waits for is no longer waking. -/
def bootGo (s : State) : State :=
  if s.pow.booting then
    match s.pow.bootQueue with
    | [] => bootEnd s
    | d :: ds => if bootWaking d s then s else bootFrom ds s
  else s

/-- FIRMWARE_START (R80, step 8). -/
def firmwareStart (s : State) : State :=
  let b := s.get AON_STATUS.BOOT
  if s.on 1 ∧ ¬s.pow.firmware ∧ (b = 2 ∨ b = 3 ∨ b = 4) then
    bootFrom bootOrder { s with pow := { s.pow with firmware := true, booting := true, rom := false } }
  else s

/-! ### What goes on after an event -/

/-- The boot and the waiting commands go on. -/
def goOnAll (s : State) : State := resume (bootGo s)

/-- WAKE_STEP_READY, and what it lets go on. -/
def stepReady (d : Nat) (s : State) : State := goOnAll (hostBootReady (wakeReady d s))

/-- WAKE_STEP_TIMEOUT, and what a failed wake lets go on. -/
def stepTimeout (d : Nat) (s : State) : State :=
  let t := wakeTimeout d s
  goOnAll (if (s.wakeOf d).isSome ∧ (t.wakeOf d).isNone then hostBootFailed d t else t)

/-! ### Commands -/

/-- POWER_GOOD_LOST (R42, R83): a wake that the loss ends has failed. -/
def execPowerGoodLost (group : Fin 4) (s : State) : Host.Outcome State Fault Refusal :=
  .next (goOnAll (powerGoodLost group.val s))

/-- WAKE_STEP_READY (R73). -/
def execWakeStepReady (domain : Fin 18) (s : State) : Host.Outcome State Fault Refusal := .next (stepReady domain.val s)

/-- WAKE_STEP_TIMEOUT (R75). -/
def execWakeStepTimeout (domain : Fin 18) (s : State) : Host.Outcome State Fault Refusal := .next (stepTimeout domain.val s)

/-- FIRMWARE_START (R80). -/
def execFirmwareStart (s : State) : Host.Outcome State Fault Refusal := .next (firmwareStart s)

/-- DRAM_TRAINING_END (R241): commands that wait for the controller go on. -/
def execDramTrainingEnd (ctrl : Fin 2) (outcome : TrainOutcome) (s : State) : Host.Outcome State Fault Refusal :=
  .next (goOnAll (dramTrainingEnd ctrl.val outcome s))

/-- NVM_PAGE_WRITTEN (R543, R545): an NVM_READ that waits for the NVM_WRITE goes on (R544). -/
def execNvmPageWritten (firstBad secondBad : Bool) (s : State) : Host.Outcome State Fault Refusal :=
  .next (if s.on 17 then resume (nvmPageWritten firstBad secondBad s) else s)

/-- EVENT_BATCH_SEND (R133): the batching window of a slot closes. -/
def execEventBatchSend (slot : Fin 16) (s : State) : Host.Outcome State Fault Refusal :=
  .next (if s.on 1 then closeBatch slot.val s else s)

/-- NMAP_SWAP_CHECKS_END (R307). -/
def execNmapSwapChecksEnd (s : State) : Host.Outcome State Fault Refusal := .next (if s.on 2 then swapChecksEnd s else s)

/-- NMAP_HOLD_EXPIRY (R312). -/
def execNmapHoldExpiry (s : State) : Host.Outcome State Fault Refusal := .next (if s.on 2 then holdExpiry s else s)

/-- INTERNAL_SWAP_START (R305). -/
def execInternalSwapStart (s : State) : Host.Outcome State Fault Refusal := .next (if s.on 2 then internalStart s else s)

/-- INTERNAL_SWAP_READY (R305). -/
def execInternalSwapReady (s : State) : Host.Outcome State Fault Refusal := .next (if s.on 2 then internalReady s else s)

/-- NMAP_SWAP_TAKE_EFFECT (R310): within 10 us while the bar is not armed. While it is armed the swap waits for fire k, whose decision takes it, and the command does nothing. -/
def execNmapSwapTakeEffect (s : State) : Host.Outcome State Fault Refusal :=
  .next (if s.on 2 ∧ ¬armed s then nmapTakeEffect s else s)

/-- WAVEFORM_SWAP_EFFECT (R359). -/
def execWaveformSwapEffect (s : State) : Host.Outcome State Fault Refusal := .next (if s.on 2 then wfSwapUnarmed s else s)

end Sys2Proof.Machine
end

