-- ==== Sys2Proof/Machine/Sideband.lean ====
section
/-! DEFINITION. Index 0x80 of the sideband (R92, R123). -/

namespace Sys2Proof.Machine

/-- The empty reply that PD_AON builds (R92): SRC is the command's DST, and the version is the command's. -/
def aonReply (p : Packet) (st : Nat) : Packet :=
  { opcode := p.opcode, reply := true
    hdr := { vmaj := p.hdr.vmaj, vmin := p.hdr.vmin, tag := p.hdr.tag, wake := p.hdr.wake, noreply := p.hdr.noreply
             ordered := p.hdr.ordered, src := p.hdr.dst, dst := p.hdr.src, alive := p.hdr.alive
             status := BitVec.ofNat 8 st, cookie := p.hdr.cookie }
    params := [] }

/-- Keep PD_AON's reply for a read. -/
def aonAnswer (p : Packet) (st : Nat) (s : State) : State := { s with cmd := { s.cmd with sbReply := (aonReply p st).bytes } }

/-- A packet that PD_AON serves (R92). -/
def aonPacket (bs : List Byte) (s : State) : State :=
  let s := { s with cmd := { s.cmd with sbReply := [] } }
  match Packet.parse bs with
  | none => s
  | some p =>
    if p.reply then s
    else if ¬p.hdr.wake then aonAnswer p stDormant s
    else if s.pow.phase = .dormant ∧ s.is AON_CTL.WAKE_SB_EN then aonAnswer p stBusy (dormantExit 2 s)
    else aonAnswer p stWakeFailed s

/-- An I²C write to index 0x80: the command path takes it, or PD_AON while PD_CORE is off. Nothing answers while PORST_N is low. -/
def sidebandWrite (bs : List Byte) (s : State) : State :=
  if s.on 1 then carrier none .sideband bs s
  else if s.pow.phase = .held then s
  else aonPacket bs s

/-- An I²C read at index 0x80 (R123). -/
def sidebandRead (s : State) : State :=
  if s.pow.phase = .held then s
  else { s.emit (.sideband s.cmd.sbReply) with cmd := { s.cmd with sbReply := [] } }

/-- SIDEBAND_CMD_WRITE (R123). -/
def execSidebandCmdWrite (bytes : List Byte) (s : State) : Host.Outcome State Fault Refusal := .next (sidebandWrite bytes s)

/-- SIDEBAND_REPLY_READ (R123). -/
def execSidebandReplyRead (s : State) : Host.Outcome State Fault Refusal := .next (sidebandRead s)

/-- SIDEBAND_PACKET_AON (R92). -/
def execSidebandPacketAon (bytes : List Byte) (s : State) : Host.Outcome State Fault Refusal := .next (sidebandWrite bytes s)

end Sys2Proof.Machine
end

