-- ==== Sys2Proof/Machine/Jtag.lean ====
section
/-! DEFINITION. The IEEE 1149.1 test access port (R59 to R61). -/

namespace Sys2Proof.Machine

/-- The controller's next state at a rising edge of TCK (IEEE 1149.1). -/
def tapNext (t : Tap) (tms : Bool) : Tap :=
  match t with
  | .testLogicReset => if tms then .testLogicReset else .runTestIdle
  | .runTestIdle => if tms then .selectDr else .runTestIdle
  | .selectDr => if tms then .selectIr else .captureDr
  | .captureDr => if tms then .exit1Dr else .shiftDr
  | .shiftDr => if tms then .exit1Dr else .shiftDr
  | .exit1Dr => if tms then .updateDr else .pauseDr
  | .pauseDr => if tms then .exit2Dr else .pauseDr
  | .exit2Dr => if tms then .updateDr else .shiftDr
  | .updateDr => if tms then .selectDr else .runTestIdle
  | .selectIr => if tms then .testLogicReset else .captureIr
  | .captureIr => if tms then .exit1Ir else .shiftIr
  | .shiftIr => if tms then .exit1Ir else .shiftIr
  | .exit1Ir => if tms then .updateIr else .pauseIr
  | .pauseIr => if tms then .exit2Ir else .pauseIr
  | .exit2Ir => if tms then .updateIr else .shiftIr
  | .updateIr => if tms then .selectDr else .runTestIdle

/-- The instruction as it acts (R59, R61): EXTEST, CLAMP and HIGHZ act as BYPASS without TESTMODE, and so does every code outside Table 2.13. -/
def tapActs (s : State) : Nat :=
  let c := s.jtag.ir.toNat
  if c = 1 ∨ c = 2 then c else if (c = 0 ∨ c = 4 ∨ c = 5) ∧ s.pow.testmode then c else 0xFF

/-- The instruction selects the boundary register. -/
def tapBoundary (s : State) : Bool := tapActs s = 0 || tapActs s = 2

/-- IDCODE (R60). -/
def idcode : Nat := 0xB8131B4F

/-- The bits of a number, least significant first. -/
def lowBits (n v : Nat) : List Bool := (List.range n).map (bit v)

/-- Free bits, for what the boundary cells capture from the pins. -/
def drawBools : Nat → State → List Bool × State
  | 0, s => ([], s)
  | n + 1, s =>
    let (b, s) := s.draw 1
    let (bs, s) := drawBools n s
    (decide (b = 1) :: bs, s)

/-- Replace the port's state. -/
def State.setJtag (s : State) (j : Jtag) : State := { s with jtag := j }

/-- Test-logic reset: IDCODE is selected (R59). -/
def tapReset (s : State) : State := s.setJtag { s.jtag with state := .testLogicReset, ir := 1, tdo := none }

/-- Capture-DR. -/
def tapCaptureDr (s : State) : State :=
  if tapActs s = 1 then s.setJtag { s.jtag with dr := lowBits 32 idcode }
  else if tapBoundary s then
    let (bs, s) := drawBools Config.boundaryCells s
    s.setJtag { s.jtag with dr := bs }
  else s.setJtag { s.jtag with dr := [false] }

/-- Capture-IR: the two bits nearest TDO are 01 (IEEE 1149.1); the other bits are free. -/
def tapCaptureIr (s : State) : State :=
  let (v, s) := s.draw 6
  s.setJtag { s.jtag with irShift := BitVec.ofNat 8 (4 * v + 1) }

/-- What a rising edge does in the state it ends. -/
def tapRise (tdi : Bool) (s : State) : State :=
  match s.jtag.state with
  | .captureDr => tapCaptureDr s
  | .captureIr => tapCaptureIr s
  | .shiftDr => s.setJtag { s.jtag with dr := s.jtag.dr.drop 1 ++ [tdi] }
  | .shiftIr => s.setJtag { s.jtag with irShift := BitVec.ofNat 8 (s.jtag.irShift.toNat / 2 + 128 * b2n tdi) }
  | _ => s

/-- What a falling edge does: the latches update, and TDO changes. -/
def tapFall (s : State) : State :=
  match s.jtag.state with
  | .testLogicReset => tapReset s
  | .updateIr => s.setJtag { s.jtag with ir := s.jtag.irShift, tdo := none }
  | .updateDr => s.setJtag { s.jtag with boundary := if tapBoundary s then s.jtag.dr else s.jtag.boundary, tdo := none }
  | .shiftDr => s.setJtag { s.jtag with tdo := some (s.jtag.dr.headD false) }
  | .shiftIr => s.setJtag { s.jtag with tdo := some (bit s.jtag.irShift.toNat 0) }
  | _ => s.setJtag { s.jtag with tdo := none }

/-- An edge of TCK. TRST_N low resets the port at once. -/
def tapEdge (rising tms tdi trstN : Bool) (s : State) : State :=
  if !trstN then tapReset s
  else if rising then
    let t := tapRise tdi s
    t.setJtag { t.jtag with state := tapNext s.jtag.state tms }
  else tapFall s

/-- JTAG_TCK_EDGE (R59). -/
def execJtagTckEdge (rising tms tdi trstN : Bool) (s : State) : Host.Outcome State Fault Refusal :=
  .next (tapEdge rising tms tdi trstN s)

end Sys2Proof.Machine
end

