-- ==== Sys2Proof/Machine/Dispatch.lean ====
section
/-! DEFINITION. What each command does to everything but the queue: one arm for each constructor of Instr. -/

namespace Sys2Proof.Machine

/-- The effect of a command on everything but the queue. -/
def exec (i : Instr) (s : State) : Host.Outcome State Fault Refusal :=
  match i with
  | .powerOnReset sbAddr bootSel testmode => Sys2Proof.Machine.execPowerOnReset sbAddr bootSel testmode s
  | .powerGoodLost group => Sys2Proof.Machine.execPowerGoodLost group s
  | .refclkLost => Sys2Proof.Machine.execRefclkLost s
  | .thermalTrip => Sys2Proof.Machine.execThermalTrip s
  | .tempSensorReading readings => Sys2Proof.Machine.execTempSensorReading readings s
  | .sysTempCfgWrite via h value => Sys2Proof.Machine.execSysTempCfgWrite via h value s
  | .blockIdle domain block => Sys2Proof.Machine.execBlockIdle domain block s
  | .napEntry domain requested => Sys2Proof.Machine.execNapEntry domain requested s
  | .domainWakeRequest domain => Sys2Proof.Machine.execDomainWakeRequest domain s
  | .wakeStepReady domain => Sys2Proof.Machine.execWakeStepReady domain s
  | .wakeStepTimeout domain => Sys2Proof.Machine.execWakeStepTimeout domain s
  | .wakeBackoffExpiry domain => Sys2Proof.Machine.execWakeBackoffExpiry domain s
  | .norImageLoad quad single => Sys2Proof.Machine.execNorImageLoad quad single s
  | .hostBootStart => Sys2Proof.Machine.execHostBootStart s
  | .firmwareStart => Sys2Proof.Machine.execFirmwareStart s
  | .wakeNLow => Sys2Proof.Machine.execWakeNLow s
  | .aonCtlWakeReq route value => Sys2Proof.Machine.execAonCtlWakeReq route value s
  | .aonCtlDormant route value => Sys2Proof.Machine.execAonCtlDormant route value s
  | .aonCtlFaultClr route value => Sys2Proof.Machine.execAonCtlFaultClr route value s
  | .aonCtlSbWrLock route value => Sys2Proof.Machine.execAonCtlSbWrLock route value s
  | .sysPlWrite via h value => Sys2Proof.Machine.execSysPlWrite via h value s
  | .clockSwitch => Sys2Proof.Machine.execClockSwitch s
  | .vidSettled => Sys2Proof.Machine.execVidSettled s
  | .sidebandAonWrite index value => Sys2Proof.Machine.execSidebandAonWrite index value s
  | .sidebandCmdWrite bytes => Sys2Proof.Machine.execSidebandCmdWrite bytes s
  | .sidebandReplyRead => Sys2Proof.Machine.execSidebandReplyRead s
  | .sidebandPacketAon bytes => Sys2Proof.Machine.execSidebandPacketAon bytes s
  | .cmdPacketDiscard via carrier => Sys2Proof.Machine.execCmdPacketDiscard via carrier s
  | .unknownOpcode via h opcode params => Sys2Proof.Machine.execUnknownOpcode via h opcode params s
  | .readReg via h params => Sys2Proof.Machine.execReadReg via h params s
  | .writeReg via h params => Sys2Proof.Machine.execWriteReg via h params s
  | .modifyReg via h params => Sys2Proof.Machine.execModifyReg via h params s
  | .readBlock via h params => Sys2Proof.Machine.execReadBlock via h params s
  | .writeBlock via h params => Sys2Proof.Machine.execWriteBlock via h params s
  | .ping via h params => Sys2Proof.Machine.execPing via h params s
  | .negotiate via h params => Sys2Proof.Machine.execNegotiate via h params s
  | .fwLoad via h params => Sys2Proof.Machine.execFwLoad via h params s
  | .fwActivate via h params => Sys2Proof.Machine.execFwActivate via h params s
  | .eventBatchSend slot => Sys2Proof.Machine.execEventBatchSend slot s
  | .evtPendingClear via h word value sameCycle => Sys2Proof.Machine.execEvtPendingClear via h word value sameCycle s
  | .accViolInfoClear via h => Sys2Proof.Machine.execAccViolInfoClear via h s
  | .accCtlLock via h => Sys2Proof.Machine.execAccCtlLock via h s
  | .hostFrameRx port frame => Sys2Proof.Machine.execHostFrameRx port frame s
  | .hostLinkChange port blockLock align fecLock hiSer tenGig => Sys2Proof.Machine.execHostLinkChange port blockLock align fecLock hiSer tenGig s
  | .hostAlternateTimeout port => Sys2Proof.Machine.execHostAlternateTimeout port s
  | .hostCtlWrite via h port value => Sys2Proof.Machine.execHostCtlWrite via h port value s
  | .rasterDatagramRx port source datagram => Sys2Proof.Machine.execRasterDatagramRx port source datagram s
  | .triggerDatagramRx port source datagram => Sys2Proof.Machine.execTriggerDatagramRx port source datagram s
  | .nakRequest port stream due => Sys2Proof.Machine.execNakRequest port stream due s
  | .ackIntervalStatus port stream => Sys2Proof.Machine.execAckIntervalStatus port stream s
  | .seqGivenUp port stream seq => Sys2Proof.Machine.execSeqGivenUp port stream seq s
  | .ptpMessageRx port message => Sys2Proof.Machine.execPtpMessageRx port message s
  | .timeRateWrite via h value => Sys2Proof.Machine.execTimeRateWrite via h value s
  | .timeCtlEpochReset via h value => Sys2Proof.Machine.execTimeCtlEpochReset via h value s
  | .timeCtlSrcWrite via h value => Sys2Proof.Machine.execTimeCtlSrcWrite via h value s
  | .timeStep via h params => Sys2Proof.Machine.execTimeStep via h params s
  | .timeStepGo via h value => Sys2Proof.Machine.execTimeStepGo via h value s
  | .timeCmpArm via h cmp value => Sys2Proof.Machine.execTimeCmpArm via h cmp value s
  | .timeCmpReached cmp => Sys2Proof.Machine.execTimeCmpReached cmp s
  | .timeLnchEnWrite via h slot value => Sys2Proof.Machine.execTimeLnchEnWrite via h slot value s
  | .launchSent slot => Sys2Proof.Machine.execLaunchSent slot s
  | .fabCtlEnWrite via h port value => Sys2Proof.Machine.execFabCtlEnWrite via h port value s
  | .fabCtlRetrain via h port value => Sys2Proof.Machine.execFabCtlRetrain via h port value s
  | .fabFarEndDetected port => Sys2Proof.Machine.execFabFarEndDetected port s
  | .fabTrainBlockRx port block => Sys2Proof.Machine.execFabTrainBlockRx port block s
  | .fabStateTimeout port => Sys2Proof.Machine.execFabStateTimeout port s
  | .fabBlockLockGained port => Sys2Proof.Machine.execFabBlockLockGained port s
  | .fabBlockLockLost port => Sys2Proof.Machine.execFabBlockLockLost port s
  | .fabCapFrameRx port frame => Sys2Proof.Machine.execFabCapFrameRx port frame s
  | .fabCapRetry port => Sys2Proof.Machine.execFabCapRetry port s
  | .fabCellRx port lseq noreplay cell crc => Sys2Proof.Machine.execFabCellRx port lseq noreplay cell crc s
  | .fabAckRx port ackLseq nak credit => Sys2Proof.Machine.execFabAckRx port ackLseq nak credit s
  | .fabReplayTimeout port => Sys2Proof.Machine.execFabReplayTimeout port s
  | .fabAckTimer port => Sys2Proof.Machine.execFabAckTimer port s
  | .fabSleepEntry port => Sys2Proof.Machine.execFabSleepEntry port s
  | .fabSleepExit port => Sys2Proof.Machine.execFabSleepExit port s
  | .fabElectRx port frame => Sys2Proof.Machine.execFabElectRx port frame s
  | .fabElectTimer => Sys2Proof.Machine.execFabElectTimer s
  | .fabTopoRx port frame => Sys2Proof.Machine.execFabTopoRx port frame s
  | .fabTopoTimer => Sys2Proof.Machine.execFabTopoTimer s
  | .fabIdAssign => Sys2Proof.Machine.execFabIdAssign s
  | .fabAssignRx port frame => Sys2Proof.Machine.execFabAssignRx port frame s
  | .fabRoutingUpdate => Sys2Proof.Machine.execFabRoutingUpdate s
  | .fabDelayReqTimer => Sys2Proof.Machine.execFabDelayReqTimer s
  | .fabTimeCellRx port cell => Sys2Proof.Machine.execFabTimeCellRx port cell s
  | .fabSyncTimer => Sys2Proof.Machine.execFabSyncTimer s
  | .fabSyncLoss => Sys2Proof.Machine.execFabSyncLoss s
  | .triggerCellRx port cell => Sys2Proof.Machine.execTriggerCellRx port cell s
  | .jobOpen via h params => Sys2Proof.Machine.execJobOpen via h params s
  | .jobClose via h params => Sys2Proof.Machine.execJobClose via h params s
  | .pageQueue via h params => Sys2Proof.Machine.execPageQueue via h params s
  | .pageCancel via h params => Sys2Proof.Machine.execPageCancel via h params s
  | .stripRingWriteResume => Sys2Proof.Machine.execStripRingWriteResume s
  | .codecEncGo via h value => Sys2Proof.Machine.execCodecEncGo via h value s
  | .codecEncAbort via h value => Sys2Proof.Machine.execCodecEncAbort via h value s
  | .codecChained => Sys2Proof.Machine.execCodecChained s
  | .codecEncDone => Sys2Proof.Machine.execCodecEncDone s
  | .dramCtlEnWrite via h ctrl value => Sys2Proof.Machine.execDramCtlEnWrite via h ctrl value s
  | .dramCtlRetrain via h ctrl value => Sys2Proof.Machine.execDramCtlRetrain via h ctrl value s
  | .dramTrainingEnd ctrl outcome => Sys2Proof.Machine.execDramTrainingEnd ctrl outcome s
  | .dramTempCheck ctrl => Sys2Proof.Machine.execDramTempCheck ctrl s
  | .dramWckTracking ctrl => Sys2Proof.Machine.execDramWckTracking ctrl s
  | .dramMr4Change ctrl rate => Sys2Proof.Machine.execDramMr4Change ctrl rate s
  | .dramEccEnWrite via h value => Sys2Proof.Machine.execDramEccEnWrite via h value s
  | .dramEccInitDone => Sys2Proof.Machine.execDramEccInitDone s
  | .dramMapWrite via h map value => Sys2Proof.Machine.execDramMapWrite via h map value s
  | .dmaEnWrite via h channel value => Sys2Proof.Machine.execDmaEnWrite via h channel value s
  | .dmaStopDone channel => Sys2Proof.Machine.execDmaStopDone channel s
  | .dmaShadowValidWrite via h channel value => Sys2Proof.Machine.execDmaShadowValidWrite via h channel value s
  | .dmaShadowTake channel => Sys2Proof.Machine.execDmaShadowTake channel s
  | .dmaDescFetched channel => Sys2Proof.Machine.execDmaDescFetched channel s
  | .dmaDescComplete channel => Sys2Proof.Machine.execDmaDescComplete channel s
  | .posCtlEnWrite via h channel value => Sys2Proof.Machine.execPosCtlEnWrite via h channel value s
  | .posClrFault via h channel value => Sys2Proof.Machine.execPosClrFault via h channel value s
  | .posZArm via h channel value => Sys2Proof.Machine.execPosZArm via h channel value s
  | .posQuadEdge channel lineA lineB => Sys2Proof.Machine.execPosQuadEdge channel lineA lineB s
  | .posIndexEdge channel => Sys2Proof.Machine.execPosIndexEdge channel s
  | .posScSample channel sine cosine => Sys2Proof.Machine.execPosScSample channel sine cosine s
  | .posSsiRead channel ready bits parity => Sys2Proof.Machine.execPosSsiRead channel ready bits parity s
  | .posObsUpdate => Sys2Proof.Machine.execPosObsUpdate s
  | .posStandstill channel => Sys2Proof.Machine.execPosStandstill channel s
  | .cmpPulseEnd cmp => Sys2Proof.Machine.execCmpPulseEnd cmp s
  | .cmpCtlEnWrite via h cmp value => Sys2Proof.Machine.execCmpCtlEnWrite via h cmp value s
  | .cmpEntryCommit via h cmp entry value => Sys2Proof.Machine.execCmpEntryCommit via h cmp entry value s
  | .nmapLoad via h params => Sys2Proof.Machine.execNmapLoad via h params s
  | .nmapSwap via h params => Sys2Proof.Machine.execNmapSwap via h params s
  | .nmapSwapChecksEnd => Sys2Proof.Machine.execNmapSwapChecksEnd s
  | .nmapHoldExpiry => Sys2Proof.Machine.execNmapHoldExpiry s
  | .internalSwapStart => Sys2Proof.Machine.execInternalSwapStart s
  | .internalSwapReady => Sys2Proof.Machine.execInternalSwapReady s
  | .nmapSwapTakeEffect => Sys2Proof.Machine.execNmapSwapTakeEffect s
  | .fireArm via h params => Sys2Proof.Machine.execFireArm via h params s
  | .fireDecision unserved => Sys2Proof.Machine.execFireDecision unserved s
  | .fireInstant => Sys2Proof.Machine.execFireInstant s
  | .fireStall => Sys2Proof.Machine.execFireStall s
  | .fireStop via h params => Sys2Proof.Machine.execFireStop via h params s
  | .fireStopComplete => Sys2Proof.Machine.execFireStopComplete s
  | .fireWfGo via h => Sys2Proof.Machine.execFireWfGo via h s
  | .waveformSwapEffect => Sys2Proof.Machine.execWaveformSwapEffect s
  | .hlFireDelayWrite via h port value => Sys2Proof.Machine.execHlFireDelayWrite via h port value s
  | .hlWfCfgWrite via h port limit value => Sys2Proof.Machine.execHlWfCfgWrite via h port limit value s
  | .hlCtlEnWrite via h port value => Sys2Proof.Machine.execHlCtlEnWrite via h port value s
  | .hlCtlRetrain via h port value => Sys2Proof.Machine.execHlCtlRetrain via h port value s
  | .hlLockHeld port => Sys2Proof.Machine.execHlLockHeld port s
  | .hlAlignDone port errorFree => Sys2Proof.Machine.execHlAlignDone port errorFree s
  | .hlStateTimeout port => Sys2Proof.Machine.execHlStateTimeout port s
  | .hlBlockLockLost port => Sys2Proof.Machine.execHlBlockLockLost port s
  | .hlLockNotRegained port => Sys2Proof.Machine.execHlLockNotRegained port s
  | .hlCapRx port frame => Sys2Proof.Machine.execHlCapRx port frame s
  | .hlCapRetry port => Sys2Proof.Machine.execHlCapRetry port s
  | .hlEchoTimer port => Sys2Proof.Machine.execHlEchoTimer port s
  | .hlEchoRspRx port frame roundTrip => Sys2Proof.Machine.execHlEchoRspRx port frame roundTrip s
  | .hlIdDataRx port frame => Sys2Proof.Machine.execHlIdDataRx port frame s
  | .hlCapsComplete port => Sys2Proof.Machine.execHlCapsComplete port s
  | .hlIdAccept via h port value => Sys2Proof.Machine.execHlIdAccept via h port value s
  | .hlTrimAckRx port frame => Sys2Proof.Machine.execHlTrimAckRx port frame s
  | .hlTrimAckTimeout port bank segment => Sys2Proof.Machine.execHlTrimAckTimeout port bank segment s
  | .hlAckRx port frame => Sys2Proof.Machine.execHlAckRx port frame s
  | .hlAckTimeout port => Sys2Proof.Machine.execHlAckTimeout port s
  | .hlTempRx port frame => Sys2Proof.Machine.execHlTempRx port frame s
  | .hlTempCfgWrite via h port value => Sys2Proof.Machine.execHlTempCfgWrite via h port value s
  | .hlMeasGo via h => Sys2Proof.Machine.execHlMeasGo via h s
  | .hlMeasAbort via h => Sys2Proof.Machine.execHlMeasAbort via h s
  | .hlMeasSettleEnd settled => Sys2Proof.Machine.execHlMeasSettleEnd settled s
  | .hlMeasDataRx port frame => Sys2Proof.Machine.execHlMeasDataRx port frame s
  | .calTempCheck => Sys2Proof.Machine.execCalTempCheck s
  | .calAutoRunStart => Sys2Proof.Machine.execCalAutoRunStart s
  | .calForcedRunStart => Sys2Proof.Machine.execCalForcedRunStart s
  | .calRun via h params => Sys2Proof.Machine.execCalRun via h params s
  | .calItemEnd item index agree => Sys2Proof.Machine.execCalItemEnd item index agree s
  | .csiPacketRx port packet => Sys2Proof.Machine.execCsiPacketRx port packet s
  | .camFrameTimeout port exposure => Sys2Proof.Machine.execCamFrameTimeout port exposure s
  | .ispLineProcessed => Sys2Proof.Machine.execIspLineProcessed s
  | .ispCommit via h port value => Sys2Proof.Machine.execIspCommit via h port value s
  | .ispShadowTaken port => Sys2Proof.Machine.execIspShadowTaken port s
  | .camCtlWrite via h port value => Sys2Proof.Machine.execCamCtlWrite via h port value s
  | .inspectSet via h params => Sys2Proof.Machine.execInspectSet via h params s
  | .nhaGroupAnalyse port => Sys2Proof.Machine.execNhaGroupAnalyse port s
  | .nozzleReportRx cell => Sys2Proof.Machine.execNozzleReportRx cell s
  | .nhaReportTimeout source bseq => Sys2Proof.Machine.execNhaReportTimeout source bseq s
  | .nhaRwaitExpiry source ringRow => Sys2Proof.Machine.execNhaRwaitExpiry source ringRow s
  | .nhaWindowClose => Sys2Proof.Machine.execNhaWindowClose s
  | .nhaSourceEnWrite via h source value => Sys2Proof.Machine.execNhaSourceEnWrite via h source value s
  | .pairCtlClaim via h value => Sys2Proof.Machine.execPairCtlClaim via h value s
  | .pairCtlRelease via h value => Sys2Proof.Machine.execPairCtlRelease via h value s
  | .pairCtlEnWrite via h value => Sys2Proof.Machine.execPairCtlEnWrite via h value s
  | .pairGuardPass => Sys2Proof.Machine.execPairGuardPass s
  | .ownPeerNChange low => Sys2Proof.Machine.execOwnPeerNChange low s
  | .pairWatchStart => Sys2Proof.Machine.execPairWatchStart s
  | .pairConflictTimeout => Sys2Proof.Machine.execPairConflictTimeout s
  | .pairHbSend => Sys2Proof.Machine.execPairHbSend s
  | .pairHbLoss => Sys2Proof.Machine.execPairHbLoss s
  | .pairSyncRx cell => Sys2Proof.Machine.execPairSyncRx cell s
  | .pairSwap via h params => Sys2Proof.Machine.execPairSwap via h params s
  | .hoopWdogExpiry core => Sys2Proof.Machine.execHoopWdogExpiry core s
  | .hoopKick cores => Sys2Proof.Machine.execHoopKick cores s
  | .hoopCtlForce via h value => Sys2Proof.Machine.execHoopCtlForce via h value s
  | .hoopHoldExpiry => Sys2Proof.Machine.execHoopHoldExpiry s
  | .hoopCfgWrite via h value => Sys2Proof.Machine.execHoopCfgWrite via h value s
  | .axisMove via h params => Sys2Proof.Machine.execAxisMove via h params s
  | .axisStop via h params => Sys2Proof.Machine.execAxisStop via h params s
  | .axisHome via h params => Sys2Proof.Machine.execAxisHome via h params s
  | .axisProfileTick axis => Sys2Proof.Machine.execAxisProfileTick axis s
  | .axisMicrostep axis => Sys2Proof.Machine.execAxisMicrostep axis s
  | .axisPwmPeriod axis => Sys2Proof.Machine.execAxisPwmPeriod axis s
  | .axisDriverFault axis => Sys2Proof.Machine.execAxisDriverFault axis s
  | .axisLimitTrip axis hi since => Sys2Proof.Machine.execAxisLimitTrip axis hi since s
  | .axisLimitRelease axis hi => Sys2Proof.Machine.execAxisLimitRelease axis hi s
  | .axisCtlWrite via h axis value => Sys2Proof.Machine.execAxisCtlWrite via h axis value s
  | .axisPosCommit via h axis value => Sys2Proof.Machine.execAxisPosCommit via h axis value s
  | .lampPwmPeriod channel => Sys2Proof.Machine.execLampPwmPeriod channel s
  | .lampStrobeOpen channel => Sys2Proof.Machine.execLampStrobeOpen channel s
  | .lampStrobeClose channel => Sys2Proof.Machine.execLampStrobeClose channel s
  | .lampSetWrite via h channel value => Sys2Proof.Machine.execLampSetWrite via h channel value s
  | .lampFadeTick channel => Sys2Proof.Machine.execLampFadeTick channel s
  | .ntcEvaluation codes => Sys2Proof.Machine.execNtcEvaluation codes s
  | .lampGlobalLoad via h => Sys2Proof.Machine.execLampGlobalLoad via h s
  | .lampCtlWrite via h channel value => Sys2Proof.Machine.execLampCtlWrite via h channel value s
  | .mxSlot => Sys2Proof.Machine.execMxSlot s
  | .chkGo via h unit value => Sys2Proof.Machine.execChkGo via h unit value s
  | .chkAbort via h unit value => Sys2Proof.Machine.execChkAbort via h unit value s
  | .chkInit via h unit value => Sys2Proof.Machine.execChkInit via h unit value s
  | .chkScanEnd unit => Sys2Proof.Machine.execChkScanEnd unit s
  | .nvmWrite via h params => Sys2Proof.Machine.execNvmWrite via h params s
  | .nvmRead via h params => Sys2Proof.Machine.execNvmRead via h params s
  | .nvmPageWritten firstBad secondBad => Sys2Proof.Machine.execNvmPageWritten firstBad secondBad s
  | .jtagTckEdge rising tms tdi trstN => Sys2Proof.Machine.execJtagTckEdge rising tms tdi trstN s
  | .ptpMessageInterval port kind => Sys2Proof.Machine.execPtpMessageInterval port kind s
  | .fabSleepRx port => Sys2Proof.Machine.execFabSleepRx port s
  | .hlHoldExitIdleEnd port => Sys2Proof.Machine.execHlHoldExitIdleEnd port s
  | .dmaTransferFault channel => Sys2Proof.Machine.execDmaTransferFault channel s
  | .camUlpsChange port ulps => Sys2Proof.Machine.execCamUlpsChange port ulps s
  | .nhaLagTimeout => Sys2Proof.Machine.execNhaLagTimeout s
  | .axisFltNRelease axis => Sys2Proof.Machine.execAxisFltNRelease axis s

end Sys2Proof.Machine
end

