-- ==== Sys2Proof/Machine/Tick.lean ====
section
/-! DEFINITION. What the block does at a clock when no command waits (notes/assumptions/4.md): shared time runs (Table 3.8, R90, R152). -/

namespace Sys2Proof.Machine

/-- The raw counter moves on by a number of 2^-16 ns (R90). -/
def timeAdvance (q : Nat) (s : State) : State :=
  let v := s.time.raw * 65536 + s.time.frac + q
  { s with time := { s.time with raw := v / 65536 % 2 ^ 64, frac := v % 65536 } }

/-- What one clock adds, in 2^-16 ns: 1 ns per TIME clock; PERIOD per AON clock in DORMANT; 50 ns per AON clock otherwise. -/
def clockStep (s : State) : Nat :=
  if s.time.locked then 65536
  else if s.pow.phase = .dormant then s.get AON_TIME_CAL.PERIOD
  else 50 * 65536

/-- One clock: the raw counter advances, and compares and launches are judged against the new time (R90, R165, R168). -/
def clockTick (s : State) : State :=
  if s.time.running then timeJudge (timeAdvance (clockStep s) s) else s

end Sys2Proof.Machine
end

