-- ==== Sys2Proof/Safety.lean ====
section
/-! DEFINITION. The terms that the statements speak in: sound states, a packet that will be carried out, the answer to it, and what a command leaves alone. -/

namespace Sys2Proof.Machine

/-! ### Sound memories -/

/-- Both byte memories are in canonical form. -/
def State.MemSound (s : State) : Prop := Memory.wf s.mem = true ∧ Memory.wf s.mram = true

/-! ### A packet that will be carried out (Table 4.5) -/

/-- The command as it stands in the queue of outstanding commands. -/
def asWaiting (via : Ingress) (op : Nat) (h : Hdr) (ps : List Byte) : Waiting :=
  { via := via, hdr := h, opcode := op, params := ps, needs := [], peer := none }

/-- The state in which an accepted command starts (after step 8): its ALIVE is in the window of its endpoint, and it is the one outstanding command. -/
def accepted (via : Ingress) (op : Nat) (h : Hdr) (ps : List Byte) (s : State) : State :=
  let k := packetKey via h
  let e := s.endpoint k
  let t := (dropReply via s).setEndpoint k { e with window := (h.alive.toNat :: e.window).take 8 }
  notePeer via h none { t with cmd := { t.cmd with waiting := [asWaiting via op h ps] } }

/-- The domains that an accepted command needs. -/
def acceptedNeeds (via : Ingress) (op : Nat) (h : Hdr) (ps : List Byte) (s : State) : List Nat :=
  needsOf op ps h.ordered (accepted via op h ps s)

/-- Steps 3 to 8 of Table 4.5 let a packet pass; no other command is outstanding, and no accepted DORMANT request waits for its reply. -/
def headerReady (via : Ingress) (op : Nat) (h : Hdr) (ps : List Byte) (s : State) : Bool :=
  arrives s via && !s.pow.asked && (h.dst.toNat = s.node || h.dst.toNat = 1023) && s.cmd.waiting.isEmpty
    && headerStatus via op h ps.length (s.endpoint (packetKey via h)) = stOk

/-- Steps 9 to 12 of Table 4.5 let it pass too: opcode and flags agreed, parameters valid, rights held, and every domain and memory it needs ready. -/
def bodyReady (via : Ingress) (op : Nat) (h : Hdr) (ps : List Byte) (s : State) : Bool :=
  let a := accepted via op h ps s
  let e := s.endpoint (packetKey via h)
  !(s.pow.romHost && !romServes op) && opcodeStatus e.features (asWaiting via op h ps) = stOk
    && paramsOk (limits via e.version) op ps a && (denied (viaClass via) op ps a).isNone
    && (acceptedNeeds via op h ps s).all (needMet a (packetKey via h))

/-- A packet that steps 1 to 12 of Table 4.5 let pass, on a device with no other command outstanding. -/
def PacketReady (via : Ingress) (op : Nat) (h : Hdr) (ps : List Byte) (s : State) : Prop :=
  headerReady via op h ps s = true ∧ bodyReady via op h ps s = true

/-- The state in which the action of an accepted command begins: the blocks it needs have a request (R64). -/
def actionState (via : Ingress) (op : Nat) (h : Hdr) (ps : List Byte) (s : State) : State :=
  requestBlocks op ps (acceptedNeeds via op h ps s) (accepted via op h ps s)

/-- What the action of an accepted command answers (step 13). -/
def acted (via : Ingress) (op : Nat) (h : Hdr) (ps : List Byte) (s : State) : Res :=
  action (asWaiting via op h ps) (envOf (asWaiting via op h ps)) (actionState via op h ps s)

/-- The state after an action's answer: the command is no longer outstanding, and its reply has left (R103, R113). -/
def answered (via : Ingress) (op : Nat) (h : Hdr) (ps : List Byte) (r : Res) : State :=
  finish (asWaiting via op h ps) r.st (if r.st = stOk ∨ r.st = stStale then r.data else []) r.s

/-- The command answers a next state that has a property. -/
def Gives (c : Instr) (s : State) (P : State → Prop) : Prop := ∃ t : State, exec c s = .next t ∧ P t

/-- No command waits, and neither the firmware's start nor the boot ROM's host boot is under way: nothing but the event itself goes on. -/
def State.Settled (s : State) : Prop := s.cmd.waiting = [] ∧ s.pow.booting = false ∧ s.pow.hostBoot = false

/-- The command completes: it is answered with a status after an action whose data and state have a property. -/
def Completes (c : Instr) (via : Ingress) (op : Nat) (h : Hdr) (ps : List Byte) (s : State) (st : Nat) (P : List Byte → State → Prop) : Prop :=
  ∃ r : Res, exec c s = .next (answered via op h ps r) ∧ r.st = st ∧ P r.data r.s

/-- A packet that is ready runs: it completes with a status, and its data and state have a property. -/
def Runs (c : Instr) (via : Ingress) (op : Nat) (h : Hdr) (ps : List Byte) (s : State) (st : Nat) (P : List Byte → State → Prop) : Prop :=
  PacketReady via op h ps s → Completes c via op h ps s st P

/-- The WRITE_REG of a value to a register, when it is ready, is answered OK after an action whose state has a property. -/
def Writes (c : Instr) (via : Ingress) (h : Hdr) (a v : Nat) (s : State) (P : State → Prop) : Prop :=
  Runs c via 2 h (writeParams a v) s stOk fun _ t => P t

/-! ### What stays as it is -/

/-- Every byte of memory outside a range reads as before; region 9 of the Vat shows the storage of region 10 (R25). -/
def SameBytesOutside (a n : Nat) (s t : State) : Prop := ∀ x, memKey x < a ∨ a + n ≤ memKey x → t.byte x = s.byte x

/-- Every register field but one reads as before. -/
def SameRegsBut (F : Fld) (i j : Nat) (s t : State) : Prop := ∀ (G : Fld) (i' j' : Nat), G.key i' j' ≠ F.key i j → t.get G i' j' = s.get G i' j'

/-- Both memories are as before. -/
def SameMemory (s t : State) : Prop := t.mem = s.mem ∧ t.mram = s.mram

/-- Every register field outside a range of byte addresses reads as before. -/
def SameOutside (lo hi : Nat) (s t : State) : Prop :=
  ∀ (F : Fld) (i j : Nat), F.key i j < 8 * lo ∨ 8 * hi ≤ F.key i j → t.get F i j = s.get F i j

/-- What raising an event, or sending a packet, leaves alone: both memories and every register but those of NVM and the TX_SLEEP bits, and what every block keeps but EVT's records, what has left the device, the fabric ports, the transport SEQs and the MRAM's queue (R129 to R133, R541). -/
structure Quiet (s t : State) : Prop where
  regs : ∀ (F : Fld) (i j : Nat), F.key i j < 8 * 0x1200000 ∨ 8 * 0x1300000 ≤ F.key i j → (∀ k < 8, F.key i j ≠ FAB_STATUS.TX_SLEEP.key k 0) →
    t.get F i j = s.get F i j
  mem : t.mem = s.mem
  mram : t.mram = s.mram
  pending : t.pending = s.pending
  draws : t.draws = s.draws
  pow : t.pow = s.pow
  cave : t.cave = s.cave
  cmd : t.cmd = s.cmd
  time : t.time = s.time
  jtag : t.jtag = s.jtag
  ing : t.ing = s.ing
  nmap : t.nmap = s.nmap
  fire : t.fire = s.fire
  hl : t.hl = s.hl
  pair : t.pair = s.pair
  cam : t.cam = s.cam
  axes : t.axes = s.axes
  lamp : t.lamp = s.lamp
  pos : t.pos = s.pos
  dram : t.dram = s.dram
  nha : t.nha = s.nha
  cal : t.cal = s.cal

/-! ### Counts -/

/-- The raw count of a position channel becomes r, and the held count follows it (R273). -/
def Follows (n : Nat) (r : Int) (s t : State) : Prop :=
  let back : Int := (if s.is POS_STATUS.DIR n then -1 else 1) * (posH s n - r)
  let w : Int := s.get POS_BACKLASH.WINDOW n
  t.getS POS_RAW.R n = r
    ∧ posH t n = (if 0 ≤ back ∧ back ≤ w then posH s n else r)
    ∧ t.get POS_STATUS.DIR n = (if back ≤ w then s.get POS_STATUS.DIR n else 1 - s.get POS_STATUS.DIR n)
    ∧ t.is POS_STATUS.HELD n = decide (0 < back ∧ back ≤ w) ∧ posState t n = posState s n

/-- The counts and the direction of a position channel are as before. -/
def SameCount (n : Nat) (s t : State) : Prop :=
  t.get POS_RAW.R n = s.get POS_RAW.R n ∧ t.get POS_HELD.H n = s.get POS_HELD.H n ∧ t.get POS_STATUS.DIR n = s.get POS_STATUS.DIR n

end Sys2Proof.Machine
end

