-- ==== Sys2Proof/Certificates/Slice0/Obligations.lean ====
section
/-! DEFINITION. The statements for the provers: what each command does, where it completes, what it leaves alone, and the invariants. -/

open Sys2Proof Sys2Proof.Machine

/-- A step carries out the command at the front of the queue, on the state with the rest of the queue; a command put in front by withCommand is the next one. With an empty queue one clock passes (log entry 4: the model's choice), and without a running clock nothing changes. -/
def Obligations.StepTakesFront : Prop :=
  (∀ (c : Instr) (cs : List Instr) (s : State), step { s with pending := c :: cs } = exec c { s with pending := cs })
  ∧ (∀ (c : Instr) (s : State), step (s.withCommand c) = exec c s)
  ∧ (∀ s : State, s.pending = [] → step s = .next (if s.time.running then timeJudge (timeAdvance (clockStep s) s) else s))

/-- The state before the rising edge of PORST_N: no command waits, nothing is sent, both memories are in canonical form, every domain but PD_AON is off, and every register field reads as its reset value. -/
def Obligations.ResetIsSound : Prop :=
  State.reset.MemSound ∧ State.reset.pending = [] ∧ State.reset.tx = []
    ∧ (∀ d ∈ pllDomains, State.reset.pd d = 0)
    ∧ ∀ (F : Fld) (i j : Nat), State.reset.get F i j = F.rst i j

/-- Whatever command is at the front of the queue, and at a clock with an empty one, the byte memory and the MRAM keep their canonical form: addresses rise strictly and no listed byte is the one an unlisted address reads as (R25, R28; the form is the model's, so that equal memories are equal data). -/
def Obligations.StepKeepsMemory : Prop :=
  ∀ s t : State, s.MemSound → step s = .next t → t.MemSound

/-- Power-on reset (R13, R37, R61, R80 step 1): from every state the straps are sampled, shared time starts at 0, nothing but the MRAM and the queue outlives it, and Starter wakes PD_CORE unless TESTMODE is high. Memory reads as unwritten (log entry 3). -/
def Obligations.PowerOnResetStarts : Prop :=
  ∀ (s : State) (a b : BitVec 2) (m : Bool), Gives (.powerOnReset a b m) s fun t =>
    t.pow.sbAddr = a.toNat ∧ t.pow.bootSel = b.toNat ∧ t.pow.testmode = m
      ∧ t.time.raw = 0 ∧ t.time.running = true ∧ t.time.locked = false
      ∧ t.mem = [] ∧ t.mram = s.mram ∧ t.pending = s.pending ∧ t.pow.vid = 1
      ∧ t.pd 1 = (if m then 0 else 3) ∧ t.pow.vregEn = (if m then 0 else 1)

/-- Losses that Starter handles (R42, R53, R83, R85). -/
def Obligations.LossOfRailsOrClock : Prop :=
  (∀ s : State, pllDomains.any s.on = true → Gives .refclkLost s fun t =>
    t.get AON_STATUS.CAUSE = 6 ∧ t.get AON_STATUS.FAIL = 1 ∧ t.get AON_STATUS.WAKE_FAIL_PEND = 1
      ∧ t.pow.vregEn = 0 ∧ t.pow.reqCopy = 1 ∧ ∀ d ∈ pllDomains, t.pd d = 0)
  ∧ (∀ s : State, Gives .thermalTrip s fun t =>
    t.get AON_STATUS.CAUSE = 7 ∧ t.get AON_STATUS.FAIL = 1 ∧ t.pow.tripped = true
      ∧ t.pow.vregEn = 0 ∧ t.pow.reqCopy = 1 ∧ ∀ d ∈ pllDomains, t.pd d = 0)
  ∧ (∀ (s : State) (g : Fin 4), bit s.pow.vregEn g.val = true → s.Settled → Gives (.powerGoodLost g) s fun t =>
    t.get AON_STATUS.CAUSE = 5 ∧ t.get AON_STATUS.GROUP = g.val ∧ t.get AON_STATUS.FAIL = 1
      ∧ bit t.pow.vregEn g.val = false ∧ (∀ d ∈ groupDomains g.val, t.pd d = 0)
      ∧ (g = 0 ∨ g = 3 → t.pow.reqCopy = 1 ∧ (s.pow.phase ≠ .powerUp → t.pow.vregEn = 0)))

/-- The steps of a wake (R63, R73 to R75, R77, Table 3.5). -/
def Obligations.WakeSteps : Prop :=
  (∀ (s : State) (d : Fin 18), s.on 1 = true → s.pow.testmode = false → d.val ∉ [0, 2, 3] → s.pd d.val = 0 ∨ s.pd d.val = 1 →
    Gives (.domainWakeRequest d) s fun t =>
      t.pd d.val = 3 ∧ t.wakeOf d.val = some { rail := !railOn s d.val } ∧ bit t.pow.vregEn (railGroup d.val) = true ∧ SameMemory s t)
  ∧ (∀ (s : State) (d : Fin 18), d.val ∉ [2, 3] → s.pd d.val = 2 ∨ s.pd d.val = 3 → Gives (.domainWakeRequest d) s fun t => t = s)
  ∧ (∀ (s : State) (d : Fin 18) (w : Wake), s.Settled → s.wakeOf d.val = some w → w.backoff = false → w.step ≠ 4 →
    Gives (.wakeStepReady d) s fun t =>
      t.wakeOf d.val = some { w with step := nextStep d.val w.step, attempts := 1 } ∧ t.pd d.val = s.pd d.val ∧ SameMemory s t)
  ∧ (∀ (s : State) (d : Fin 18) (w : Wake), s.Settled → s.wakeOf d.val = some w → w.backoff = false → w.step = 4 →
    Gives (.wakeStepReady d) s fun t => t.pd d.val = 2 ∧ t.wakeOf d.val = none)
  ∧ (∀ (s : State) (d : Fin 18) (w : Wake), s.Settled → s.wakeOf d.val = some w → w.backoff = false → w.attempts ≤ s.get AON_WAKE_CFG.RETRIES →
    Gives (.wakeStepTimeout d) s fun t => t = s.setWake d.val (some { w with backoff := true }))
  ∧ (∀ (s : State) (d : Fin 18) (w : Wake), s.Settled → s.wakeOf d.val = some w → w.backoff = false → s.get AON_WAKE_CFG.RETRIES < w.attempts →
    Gives (.wakeStepTimeout d) s fun t =>
      t.pd d.val = 0 ∧ t.wakeOf d.val = none ∧ t.get AON_STATUS.DOMAIN = d.val ∧ t.get AON_STATUS.FAIL = 1
        ∧ t.get AON_STATUS.CAUSE = (if w.step = 5 then 1 else w.step % 16))
  ∧ (∀ (s : State) (d : Fin 18) (w : Wake), s.wakeOf d.val = some w → w.backoff = true →
    Gives (.wakeBackoffExpiry d) s fun t => t = s.setWake d.val (some { w with backoff := false, attempts := w.attempts + 1 }))

/-- IDLE and NAP (R64, R65, R67, R68, Table 3.1). -/
def Obligations.IdleAndNap : Prop :=
  (∀ (s : State) (d : Fin 18) (b : Fin 22), d.val ≠ 0 → s.on d.val = true → s.get SYS_PD_CTL.IDLE_TIMER d.val ≠ 0 →
      (domainBlocks d.val).contains b.val = true → s.pow.idle.contains (32 * d.val + b.val) = false →
    Gives (.blockIdle d b) s fun t => t = { s with pow := { s.pow with idle := s.pow.idle ++ [32 * d.val + b.val] } })
  ∧ (∀ (s : State) (d : Fin 18), s.on d.val = true → s.is SYS_PD_CTL.NAP_EN d.val = true → domainIdle s d.val = true →
      napAllowed s d.val = true →
    (Gives (.napEntry d false) s fun t => t.pd d.val = 1 ∧ (d.val ≠ 3 → mapGet [] t.cave d.val = (if d.val = 4 ∨ d.val = 5 then dramSleep (d.val - 4) s else s).napOf d.val))
    ∧ Gives (.napEntry d true) s fun t =>
        t.regs = s.regs ∧ SameMemory s t ∧ ∀ b, t.pow.idle.contains (32 * d.val + b) = true → 32 ≤ b)

/-- The boot ROM and the start of the firmware (R80 step 8, R96 to R99). -/
def Obligations.BootSources : Prop :=
  (∀ (s : State) (quad single : NorRead), s.pow.rom = true → s.get AON_STATUS.BOOT = 1 → s.pow.bootSel = 0 ∨ s.pow.bootSel = 3 →
    Gives (.norImageLoad quad single) s fun t =>
      t.get AON_STATUS.BOOT = (match (norOrder (norChosen quad single)).find? (fun e => imageOk e.2) with | some e => e.1 | none => 8)
        ∧ SameMemory s t)
  ∧ (∀ s : State, s.pow.rom = true → s.get AON_STATUS.BOOT = 1 → s.pow.bootSel = 1 ∨ s.pow.bootSel = 2 →
      s.pow.testmode = false → s.pd 6 = 0 → s.pd 2 = 0 →
    Gives .hostBootStart s fun t => t.pd 6 = 3 ∧ t.pd 2 = 3 ∧ t.pow.hostBoot = true ∧ SameMemory s t)
  ∧ (∀ s : State, s.on 1 = true → s.pow.firmware = false → s.get AON_STATUS.BOOT = 2 ∨ s.get AON_STATUS.BOOT = 3 ∨ s.get AON_STATUS.BOOT = 4 →
      s.pow.testmode = false → s.pd 2 = 0 →
    Gives .firmwareStart s fun t => t.pow.firmware = true ∧ t.pd 2 = 3 ∧ t.pow.bootQueue = bootOrder ∧ SameMemory s t)

/-- The end of DORMANT by WAKE_N and by WAKE_REQ, and the repeat of power-up (R82, R91). -/
def Obligations.DormantWakeSources : Prop :=
  (∀ s : State, s.pow.phase = .dormant → s.is AON_CTL.WAKE_PIN_EN = true → s.pow.testmode = false → Gives .wakeNLow s fun t =>
    t.get AON_STATUS.WAKE_SRC = 1 ∧ t.get AON_STATUS.TIME_HOLDOVER = 1 ∧ t.pow.restore = true ∧ t.pow.phase = .powerUp ∧ t.pd 1 = 3)
  ∧ (∀ s : State, s.pow.phase = .dormant → s.is AON_CTL.WAKE_PIN_EN = false → Gives .wakeNLow s fun t => t = s)
  ∧ (∀ (s : State) (v : Word), s.pow.phase = .dormant → s.is AON_CTL.SB_WR_LOCK = false → bit v.toNat 9 = true → bit v.toNat 0 = false →
      s.pow.testmode = false → s.pow.asked = false →
    Gives (.aonCtlWakeReq .window v) s fun t =>
      t.get AON_STATUS.WAKE_SRC = 2 ∧ t.get AON_STATUS.TIME_HOLDOVER = 1 ∧ t.pow.restore = true ∧ t.pow.phase = .powerUp ∧ t.pd 1 = 3)

/-- Writes of the AON window by the sideband (R78, R79, R88, R487), and that SB_WR_LOCK shuts them out. -/
def Obligations.AonControl : Prop :=
  (∀ (s : State) (v : Word), s.pow.phase = .up → s.is AON_CTL.SB_WR_LOCK = false → armed s = false → jobOpen s = false →
      [0, 1, 2, 3, 4, 5].any (axisMoving s) = false → bit v.toNat 1 = false → bit v.toNat 2 = false →
    Gives (.aonCtlDormant .window v) s fun t => t.pow.phase = .dormant ∧ ∀ d ∈ pllDomains, t.pd d = 0)
  ∧ (∀ s : State, s.is AON_CTL.SB_WR_LOCK = false → s.pow.asked = false → Gives (.aonCtlFaultClr .window 0) s fun t =>
      ∀ c ∈ [0, 1, 2, 3, 4, 5, 6, 7], bit (t.get HOOP_STATUS.LATCHED) c = (bit (s.get HOOP_STATUS.LATCHED) c && hoopHolds s c))
  ∧ (∀ s : State, s.is AON_CTL.SB_WR_LOCK = false → s.pow.asked = false → Gives (.aonCtlSbWrLock .window 0) s fun t =>
      t.get AON_CTL.SB_WR_LOCK = 1 ∧ SameMemory s t)
  ∧ (∀ (s : State) (v : Word), s.is AON_CTL.SB_WR_LOCK = false → Gives (.sidebandAonWrite 3 v) s fun t =>
      t.get AON_WAKE_CFG.T_REG = v.toNat / 2 ^ 24 ∧ t.get AON_WAKE_CFG.T_LOCK = v.toNat / 2 ^ 16 % 256
        ∧ t.get AON_WAKE_CFG.BACKOFF = v.toNat / 2 ^ 8 % 256 ∧ t.get AON_WAKE_CFG.RETRIES = v.toNat % 8 ∧ SameMemory s t)
  ∧ (∀ (s : State) (n : Byte) (v : Word), s.is AON_CTL.SB_WR_LOCK = true → Gives (.sidebandAonWrite n v) s fun t => t = s)

/-- Writes of REQ and of the limits, the clock switch, the settling of VDD, and a reading of the sensors (R31, R84, R93, R94, Tables 3.9 and 3.12). -/
def Obligations.LevelsAndTemperature : Prop :=
  (∀ (via : Ingress) (h : Hdr) (s : State) (v : Word), v.toNat % 4 = s.get SYS_PL.REQ ∨ levelTooSlow s (v.toNat % 4) = false →
    Writes (.sysPlWrite via h v) via h 0x10 v.toNat s fun t =>
      t.get SYS_PL.REQ = v.toNat % 4 ∧ t.pow.reqCopy = v.toNat % 4 ∧ (t.get SYS_PL.PENDING = 1 ↔ v.toNat % 4 ≠ s.get SYS_PL.IN_FORCE)
        ∧ t.pow.vid = min (v.toNat % 4) (s.get SYS_PL.IN_FORCE) ∧ t.get SYS_PL.IN_FORCE = s.get SYS_PL.IN_FORCE ∧ SameMemory s t)
  ∧ (∀ (via : Ingress) (h : Hdr) (s : State) (v : Word), v.toNat % 4 ≠ s.get SYS_PL.REQ → levelTooSlow s (v.toNat % 4) = true →
    Runs (.sysPlWrite via h v) via 2 h (writeParams 0x10 v.toNat) s stBadParam fun _ t => t = actionState via 2 h (writeParams 0x10 v.toNat) s)
  ∧ (∀ (via : Ingress) (h : Hdr) (s : State) (v : Word), sext 8 v.toNat ≤ Config.tempCritReset → sext 8 (v.toNat / 256) ≤ sext 8 v.toNat →
    Writes (.sysTempCfgWrite via h v) via h 0x44 v.toNat s fun t =>
      t.getS SYS_TEMP_CFG.CRIT = sext 8 v.toNat ∧ t.getS SYS_TEMP_CFG.WARN = sext 8 (v.toNat / 256) ∧ t.pow.warnArmed = true ∧ t.pow.critArmed = true
        ∧ SameMemory s t)
  ∧ (∀ s : State, s.on 1 = true → s.is SYS_PL.PENDING = true → Gives .clockSwitch s fun t =>
    t.get SYS_PL.IN_FORCE = s.get SYS_PL.REQ % 4 ∧ t.get SYS_PL.PENDING = 0 ∧ t.pow.vid = s.get SYS_PL.REQ ∧ SameMemory s t)
  ∧ (∀ s : State, s.is SYS_PL.PENDING = false → Gives .clockSwitch s fun t => t = s)
  ∧ (∀ s : State, Gives .vidSettled s fun t => t = s.put SYS_PL.VSETTLING 0)
  ∧ (∀ (s : State) (r : Vector (BitVec 16) 8), Gives (.tempSensorReading r) s fun t =>
    t.pow.temps = r.toList.map BitVec.toInt ∧ (∀ x ∈ r.toList, x.toInt ≤ t.getS SYS_TEMP.MAX) ∧ ∃ x ∈ r.toList, t.getS SYS_TEMP.MAX = x.toInt)

/-- Index 0x80 of the sideband, with PD_CORE on and off (R92, R123). -/
def Obligations.SidebandIndex80 : Prop :=
  (∀ (s : State) (bs : List Byte) (p : Packet), s.on 1 = true → Packet.parse bs = some p → p.reply = false →
      PacketReady .sideband p.opcode.toNat p.hdr p.params s →
    Gives (.sidebandCmdWrite bs) s fun t =>
      t = answered .sideband p.opcode.toNat p.hdr p.params (acted .sideband p.opcode.toNat p.hdr p.params s))
  ∧ (∀ (s : State) (bs : List Byte) (p : Packet), s.on 1 = false → s.pow.phase ≠ .held → Packet.parse bs = some p → p.reply = false →
      p.hdr.wake = false → Gives (.sidebandPacketAon bs) s fun t =>
      t = { s with cmd := { s.cmd with sbReply := (aonReply p stDormant).bytes } })
  ∧ (∀ (s : State) (bs : List Byte) (p : Packet), s.on 1 = false → s.pow.phase = .dormant → Packet.parse bs = some p → p.reply = false →
      p.hdr.wake = true → s.is AON_CTL.WAKE_SB_EN = true → s.pow.testmode = false → Gives (.sidebandPacketAon bs) s fun t =>
      t.cmd.sbReply = (aonReply p stBusy).bytes ∧ t.get AON_STATUS.WAKE_SRC = 2 ∧ t.pd 1 = 3)
  ∧ (∀ (s : State) (bs : List Byte) (p : Packet), s.on 1 = false → s.pow.phase = .failed → Packet.parse bs = some p → p.reply = false →
      p.hdr.wake = true → Gives (.sidebandPacketAon bs) s fun t =>
      t = { s with cmd := { s.cmd with sbReply := (aonReply p stWakeFailed).bytes } })
  ∧ (∀ s : State, s.pow.phase ≠ .held → Gives .sidebandReplyRead s fun t =>
      t = { s with tx := .sideband s.cmd.sbReply :: s.tx, cmd := { s.cmd with sbReply := [] } })

/-- The test access port (R59, R61): TRST_N resets it, TMS drives the controller, instructions outside Table 2.13 act as BYPASS, and EXTEST, CLAMP and HIGHZ do so without TESTMODE. The controller's transitions are those of IEEE 1149.1, which R59 names. -/
def Obligations.TestAccessPort : Prop :=
  (∀ (s : State) (r tms tdi : Bool), Gives (.jtagTckEdge r tms tdi false) s fun t =>
    t = s.setJtag { s.jtag with state := .testLogicReset, ir := 1, tdo := none })
  ∧ (∀ (s : State) (tms tdi : Bool), Gives (.jtagTckEdge true tms tdi true) s fun t =>
    t.jtag.state = tapNext s.jtag.state tms ∧ t.jtag.ir = s.jtag.ir ∧ t.regs = s.regs ∧ SameMemory s t ∧ t.pow = s.pow
      ∧ (s.jtag.state = .captureDr → s.jtag.ir = 1 → t.jtag.dr = lowBits 32 0xB8131B4F)
      ∧ (s.jtag.state = .captureDr → (s.jtag.ir = 0 ∨ s.jtag.ir = 4 ∨ s.jtag.ir = 5) ∧ s.pow.testmode = false ∨ s.jtag.ir.toNat ∉ [0, 1, 2, 4, 5] → t.jtag.dr = [false])
      ∧ (s.jtag.state = .shiftDr → t.jtag.dr = s.jtag.dr.drop 1 ++ [tdi]))
  ∧ (∀ (s : State) (tms tdi : Bool), s.jtag.state = .updateIr → Gives (.jtagTckEdge false tms tdi true) s fun t =>
    t = s.setJtag { s.jtag with ir := s.jtag.irShift, tdo := none })

/-- R60: IDCODE and its fields. -/
def Obligations.IdcodeValue : Prop :=
  idcode = 0xB8131B4F ∧ bits idcode 31 28 = 0xB ∧ bits idcode 27 12 = 0x8131 ∧ bits idcode 11 1 = 0x5A7 ∧ bits idcode 0 0 = 1

/-- R101: CRC-32C with polynomial 0x1EDC6F41 reflected (0x82F63B78), initial value and final exclusive-OR 0xFFFFFFFF, over the header and the parameters; its check value. -/
def Obligations.CrcOfPackets : Prop :=
  (∀ i : Fin 32, bit 0x82F63B78 i.val = bit 0x1EDC6F41 (31 - i.val))
  ∧ (∀ bs : List Byte, crc32c bs = crcRun 0x82F63B78 0xFFFFFFFF bs ^^^ 0xFFFFFFFF)
  ∧ (∀ p : Packet, p.header.length = 16 ∧ p.bytes = p.header ++ p.params ++ beBytes 4 (crc32c (p.header ++ p.params)))
  ∧ crc32c [0x31, 0x32, 0x33, 0x34, 0x35, 0x36, 0x37, 0x38, 0x39] = 0xE3069283

/-- Table 4.1 and R100 to R102, both ways: a packet's bytes are read back as that packet, with every header field at every value, so that no bit of the header is dropped. -/
def Obligations.PacketRoundTrip : Prop :=
  ∀ p : Packet, p.params.length < 65536 → Packet.parse p.bytes = some p

/-- PING (Table 4.2) and NEGOTIATE (R119, R121, R122), for packets that Table 4.5 lets pass. -/
def Obligations.PingAndNegotiate : Prop :=
  (∀ (via : Ingress) (h : Hdr) (ps : List Byte) (s : State),
    Runs (.ping via h ps) via 0x7E h ps s stOk fun d t => d = ps ∧ t = actionState via 0x7E h ps s)
  ∧ (∀ (via : Ingress) (h : Hdr) (ps : List Byte) (s : State), 0x20 ≤ beAt ps 0 1 →
    ∃ v ∈ supportedVersions, v ≤ beAt ps 0 1 ∧ (∀ u ∈ supportedVersions, u ≤ beAt ps 0 1 → u ≤ v) ∧
      Runs (.negotiate via h ps) via 0x60 h ps s stOk fun d t =>
        d = beBytes 1 v ++ zeros 3 ++ beBytes 4 (beAt ps 4 4 &&& versionFeatures v) ++ beBytes 2 (limits via v).len ++ beBytes 2 (limits via v).out
          ∧ t.endpoint (packetKey via h) = { version := v, features := beAt ps 4 4 &&& versionFeatures v, window := [h.alive.toNat] }
          ∧ t.regs = s.regs ∧ SameMemory s t)
  ∧ (∀ (via : Ingress) (h : Hdr) (ps : List Byte) (s : State), beAt ps 0 1 < 0x20 →
    Runs (.negotiate via h ps) via 0x60 h ps s stVersion fun _ t => t = actionState via 0x60 h ps s)

/-- The opcodes of Table 4.2 over the Vat (R6, R106 to R108): words are stored least significant byte first and sent most significant byte first. Regions the device writes while armed (R27), the bank window (R303) and words that ECC marks (R71) are left to other rules. -/
def Obligations.MemoryAccess : Prop :=
  ∀ (via : Ingress) (h : Hdr) (s : State) (a : Nat), isVat a = true → armed s = false → s.cmd.ecc = [] →
    Runs (.readReg via h (beBytes 8 a)) via 1 h (beBytes 8 a) s stOk
      (fun d t => d = (s.bytes a 4).reverse ∧ t.regs = s.regs ∧ SameMemory s t)
    ∧ (∀ n : Nat, n < 2 ^ 32 → Runs (.readBlock via h (beBytes 8 a ++ beBytes 4 n)) via 4 h (beBytes 8 a ++ beBytes 4 n) s stOk
      (fun d t => d.length = n ∧ (∀ k < n / 4, slice d (4 * k) 4 = (s.bytes (a + 4 * k) 4).reverse) ∧ t.regs = s.regs ∧ SameMemory s t))
    ∧ (vatRegion a ≠ 10 →
      (∀ v : Nat, v < 2 ^ 32 → Writes (.writeReg via h (writeParams a v)) via h a v s
        fun t => t.le a 4 = v ∧ SameBytesOutside a 4 s t ∧ t.regs = s.regs ∧ t.mram = s.mram)
      ∧ (∀ bs : List Byte, Runs (.writeBlock via h (beBytes 8 a ++ bs)) via 5 h (beBytes 8 a ++ bs) s stOk
        fun _ t => (∀ k < bs.length / 4, t.bytes (a + 4 * k) 4 = (slice bs (4 * k) 4).reverse)
          ∧ SameBytesOutside a bs.length s t ∧ t.regs = s.regs ∧ t.mram = s.mram)
      ∧ (∀ m v : Nat, m < 2 ^ 32 → v < 2 ^ 32 →
        Runs (.modifyReg via h (beBytes 8 a ++ beBytes 4 m ++ beBytes 4 v)) via 3 h (beBytes 8 a ++ beBytes 4 m ++ beBytes 4 v) s stOk
          fun d t => d = beBytes 4 (s.le a 4) ++ beBytes 4 ((s.le a 4 &&& not32 m) ||| (v &&& m))
            ∧ t.le a 4 = (s.le a 4 &&& not32 m) ||| (v &&& m) ∧ SameBytesOutside a 4 s t ∧ t.regs = s.regs ∧ t.mram = s.mram))

/-- READ_REG of registers with the captures of R14 and the STALE of R108, and writes of ACC and EVT fields (R126, Tables 4.10 and 4.11). -/
def Obligations.RegisterAccess : Prop :=
  (∀ (via : Ingress) (h : Hdr) (s : State) (a i j : Nat) (r : RegRow), inRegs a = true → isDram a = false → a ≠ 0x502000 → rowAt a = some (r, i, j) →
    Runs (.readReg via h (beBytes 8 a)) via 1 h (beBytes 8 a) s (if staleWord s a then stStale else stOk) fun d t =>
      d = beBytes 4 (wordWith r i j (captured s (packetKey via h) a) (actionState via 1 h (beBytes 8 a) s))
        ∧ (∀ x, captured s (packetKey via h) a = some x → captured t (packetKey via h) a = none)
        ∧ t.regs = s.regs ∧ SameMemory s t)
  ∧ (∀ (via : Ingress) (h : Hdr) (s : State) (b : Fin 22) (v : Nat), v < 2 ^ 32 → s.is ACC_CTL.LOCK = false →
    Writes (.writeReg via h (writeParams (0x10100 + 4 * b.val) v)) via h (0x10100 + 4 * b.val) v s fun t =>
      t.get ACC_BLK.RIGHTS b.val = insertBits v 9 3 7 % 2 ^ 24 ∧ bits (t.get ACC_BLK.RIGHTS b.val) 11 9 = 7
        ∧ SameRegsBut ACC_BLK.RIGHTS b.val 0 s t ∧ SameMemory s t)
  ∧ (∀ (via : Ingress) (h : Hdr) (s : State) (n : Fin 16) (w : Fin 4) (v : Nat), v < 2 ^ 32 →
    Writes (.writeReg via h (writeParams (0x20110 + 0x20 * n.val + 4 * w.val) v)) via h (0x20110 + 0x20 * n.val + 4 * w.val) v s fun t =>
      t.get EVT_SUB_MASK.MASK n.val w.val = v ∧ SameRegsBut EVT_SUB_MASK.MASK n.val w.val s t ∧ SameMemory s t)

/-- Steps 1 to 9 of Table 4.5 (R109, R111, R112, R113, R124). -/
def Obligations.RefusedPackets : Prop :=
  (∀ (via : Ingress) (bs : List Byte) (s : State), arrives s via = true → discards s bs = true →
    Gives (.cmdPacketDiscard via bs) s fun t => t = (dropReply via s).count SYS_CMD_DISCARD.COUNT)
  ∧ (∀ (via : Ingress) (h : Hdr) (ps : List Byte) (s : State), arrives s via = true → h.dst.toNat = s.node ∨ h.dst.toNat = 1023 →
      headerStatus via 0x7E h ps.length (s.endpoint (packetKey via h)) ≠ stOk →
    Gives (.ping via h ps) s fun t =>
      t = answer via none 0x7E h (headerStatus via 0x7E h ps.length (s.endpoint (packetKey via h))) [] (dropReply via s))
  ∧ (∀ (via : Ingress) (h : Hdr) (op : Byte) (ps : List Byte) (s : State), headerReady via op.toNat h ps s = true → op.toNat ∉ knownOpcodes →
    Gives (.unknownOpcode via h op ps) s fun t =>
      t = finish (asWaiting via op.toNat h ps) (if s.pow.romHost then stBusy else stBadOpcode) [] (accepted via op.toNat h ps s))

/-- R104, for a command that ends at step 13: a command of a host port or of the fabric sends its reply as the next thing that leaves the device, and one of the sideband leaves it for a read. -/
def Obligations.Replies : Prop :=
  ∀ (via : Ingress) (peer : Option NetAddr) (op st : Nat) (h : Hdr) (data : List Byte) (s : State),
    (h.noreply = true → st = stOk → answer via peer op h st data s = s)
    ∧ (h.noreply = false ∨ st ≠ stOk →
      let u := if st = stOk ∨ st = stStale then s else s.count SYS_CMD_REFUSED.COUNT
      match via with
      | .host _ => ∃ dest, (answer via peer op h st data s).tx = .reply via (replyPacket s via op h st data) dest :: s.tx
      | .fab _ => .reply via (replyPacket s via op h st data) none ∈ (answer via peer op h st data s).tx
      | .sideband => answer via peer op h st data s = { u with cmd := { u.cmd with sbReply := (replyPacket s via op h st data).bytes } })

/-- PENDING bits and their counts (R129, R130), and the end of a batching window (R132, R133). -/
def Obligations.EventRecords : Prop :=
  (∀ (via : Ingress) (h : Hdr) (w : Fin 4) (v : Word) (s : State),
    Writes (.evtPendingClear via h w v []) via h (0x20010 + 4 * w.val) v.toNat s fun t =>
      (∀ n : Nat, n < 128 → evtPending t n = (evtPending s n && !(n / 32 = w.val && bit v.toNat (n % 32))))
        ∧ (∀ n : Nat, n < 128 → evtCount t n = if n / 32 = w.val ∧ bit v.toNat (n % 32) then 0 else evtCount s n)
        ∧ t.regs = s.regs ∧ SameMemory s t)
  ∧ (∀ (via : Ingress) (h : Hdr) (w : Fin 4) (v : Word) (b : BitVec 5) (info : Word) (s : State),
      PacketReady via 2 h (writeParams (0x20010 + 4 * w.val) v.toNat) s → bit v.toNat b.toNat = true → bit (evtDefined w.val) b.toNat = true →
      evtEnabled s (32 * w.val + b.toNat) = true →
    Gives (.evtPendingClear via h w v [(b, info)]) s fun t =>
      evtPending t (32 * w.val + b.toNat) = true ∧ evtCount t (32 * w.val + b.toNat) = 1)
  ∧ (∀ (n : Fin 16) (s : State), s.on 1 = true → mapGet [] s.evt.batches n.val ≠ [] →
    Gives (.eventBatchSend n) s fun t =>
      mapGet [] t.evt.batches n.val = [] ∧ mapGet 0 t.evt.seqs n.val = (mapGet 0 s.evt.seqs n.val + 1) % 65536 ∧ SameMemory s t)

/-- ACC_VIOL_INFO.VALID and ACC_CTL.LOCK (R128, Table 4.10). -/
def Obligations.AccessTableCommands : Prop :=
  (∀ (via : Ingress) (h : Hdr) (s : State), s.is ACC_CTL.LOCK = false →
    Writes (.accViolInfoClear via h) via h 0x10004 0x80000000 s fun t =>
      t.get ACC_VIOL_INFO.VALID = 0 ∧ t.get ACC_VIOL_COUNT.COUNT = 0 ∧ SameMemory s t ∧
        ∀ (F : Fld) (i j : Nat), F.key i j ≠ ACC_VIOL_INFO.VALID.key 0 0 → F.key i j ≠ ACC_VIOL_COUNT.COUNT.key 0 0 → t.get F i j = s.get F i j)
  ∧ (∀ (via : Ingress) (h : Hdr) (s : State), s.is ACC_CTL.LOCK = false →
    Writes (.accCtlLock via h) via h 0x10000 1 s fun t => t.get ACC_CTL.LOCK = 1 ∧ SameRegsBut ACC_CTL.LOCK 0 0 s t ∧ SameMemory s t)
  ∧ (∀ (via : Ingress) (h : Hdr) (s : State), s.is ACC_CTL.LOCK = true → s.is ACC_VIOL_INFO.VALID = false →
    Runs (.accCtlLock via h) via 2 h (writeParams 0x10000 1) s stDenied fun _ t =>
      t.get ACC_VIOL_INFO.VALID = 1 ∧ t.get ACC_VIOL_INFO.CLASS = viaClass via ∧ t.get ACC_VIOL_INFO.KIND = 1 ∧ t.get ACC_VIOL_INFO.SPACE = 0
        ∧ t.get ACC_VIOL_INFO.INDEX = 1 ∧ t.get ACC_VIOL_INFO.OPCODE = 2 ∧ t.get ACC_VIOL_ADDR.ADDR = 0x10000
        ∧ t.get ACC_CTL.LOCK = s.get ACC_CTL.LOCK ∧ SameMemory s t)

/-- FW_LOAD and FW_ACTIVATE (R96, R99, R110). -/
def Obligations.FirmwareCommands : Prop :=
  (∀ (via : Ingress) (h : Hdr) (ps : List Byte) (s : State),
    Runs (.fwLoad via h ps) via 0x70 h ps s stOk fun _ t =>
      t.bytes (0x0100F00000 + beAt ps 0 4) (ps.length - 4) = ps.drop 4
        ∧ SameBytesOutside (0x0100F00000 + beAt ps 0 4) (ps.length - 4) s t ∧ t.regs = s.regs ∧ t.mram = s.mram)
  ∧ (∀ (via : Ingress) (h : Hdr) (s : State), s.pow.firmware = true → armed s = false → anyAxisMoves s = false →
    Runs (.fwActivate via h []) via 0x71 h [] s (if imageOk (stagedImage s) then stOk else stCheckFail) fun _ t =>
      t.get AON_STATUS.BOOT = (if imageOk (stagedImage s) then 5 else s.get AON_STATUS.BOOT) ∧ SameMemory s t
        ∧ (evtEnabled s SYS_BOOT_DONE = true → imageOk (stagedImage s) = true → evtPending t SYS_BOOT_DONE = true)
        ∧ (evtEnabled s SYS_FW_REJECT = true → imageOk (stagedImage s) = false → evtPending t SYS_FW_REJECT = true))
  ∧ (∀ (via : Ingress) (h : Hdr) (s : State), s.pow.firmware = true → armed s = true ∨ anyAxisMoves s = true →
    Runs (.fwActivate via h []) via 0x71 h [] s stBusy fun _ t => t = actionState via 0x71 h [] s)
  ∧ (∀ (via : Ingress) (h : Hdr) (s : State), s.pow.firmware = false →
    Runs (.fwActivate via h []) via 0x71 h [] s (if imageOk (stagedImage s) then stOk else stCheckFail) fun _ t =>
      t.get AON_STATUS.BOOT = (if imageOk (stagedImage s) then 4 else s.get AON_STATUS.BOOT) ∧ SameMemory s t
        ∧ (imageOk (stagedImage s) = true → t.pow.romHost = false))

/-- LINK, the line modes, and HOST_CTL (R135, R136, Table 5.5). -/
def Obligations.HostLines : Prop :=
  (∀ (s : State) (p : Fin 2) (k : BitVec 4) (a f h g : Bool), s.on 6 = true → s.is HOST_CTL.EN p.val = true → g = hostTenGig s p.val →
    let up : Bool := if g then bit k.toNat 0 && !h else a && !h && (!s.is HOST_CTL.FEC_EN p.val || f)
    Gives (.hostLinkChange p k a f h g) s fun t =>
      t.is HOST_STATUS.LINK p.val = up ∧ SameMemory s t
        ∧ (up ≠ s.is HOST_STATUS.LINK p.val → s.on 1 = true → evtEnabled s (16 + p.val) = true → evtPending t (16 + p.val) = true)
        ∧ (up = s.is HOST_STATUS.LINK p.val → t.evt = s.evt))
  ∧ (∀ (s : State) (p : Fin 2), s.on 6 = true → s.is HOST_CTL.EN p.val = true → s.get HOST_CTL.MODE p.val = 2 → s.is HOST_STATUS.LINK p.val = false →
    Gives (.hostAlternateTimeout p) s fun t =>
      t.get HOST_STATUS.MODE_IN_FORCE p.val = (if s.get HOST_STATUS.MODE_IN_FORCE p.val = 1 then 0 else 1) ∧ t.is HOST_STATUS.LINK p.val = false ∧ SameMemory s t)
  ∧ (∀ (via : Ingress) (h : Hdr) (s : State) (p : Fin 2) (v : Word), bits v.toNat 2 1 ≠ 3 →
      s.is HOST_CTL.EN p.val = false ∨ hostLineMoved s p.val v.toNat = false →
    Writes (.hostCtlWrite via h p v) via h (0x100000 + 0x8000 * p.val) v.toNat s fun t =>
      t.get HOST_CTL.VID p.val = bits v.toNat 27 16 ∧ t.get HOST_CTL.VLAN_EN p.val = bits v.toNat 12 12 ∧ t.get HOST_CTL.TX_INV p.val = bits v.toNat 11 8
        ∧ t.get HOST_CTL.RX_INV p.val = bits v.toNat 7 4 ∧ t.get HOST_CTL.FEC_EN p.val = bits v.toNat 3 3 ∧ t.get HOST_CTL.MODE p.val = bits v.toNat 2 1
        ∧ t.get HOST_CTL.EN p.val = bits v.toNat 0 0 ∧ SameMemory s t
        ∧ (s.is HOST_CTL.EN p.val = false → bit v.toNat 0 = true → t.get HOST_STATUS.MODE_IN_FORCE p.val = if bits v.toNat 2 1 = 1 then 1 else 0)
        ∧ (s.is HOST_CTL.EN p.val = true → bit v.toNat 0 = false → t.is HOST_STATUS.LINK p.val = false))
  ∧ (∀ (via : Ingress) (h : Hdr) (s : State) (p : Fin 2) (v : Word), bits v.toNat 2 1 = 3 ∨ (s.is HOST_CTL.EN p.val = true ∧ hostLineMoved s p.val v.toNat = true) →
    Runs (.hostCtlWrite via h p v) via 2 h (writeParams (0x100000 + 0x8000 * p.val) v.toNat) s (if bits v.toNat 2 1 = 3 then stBadParam else stBusy) fun _ t =>
      t = actionState via 2 h (writeParams (0x100000 + 0x8000 * p.val) v.toNat) s)

/-- What a port takes in (R138, R139, R141, Table 5.6). -/
def Obligations.HostFrames : Prop :=
  (∀ (s : State) (p : Fin 2) (f : List Byte), hostUp s p.val = false → Gives (.hostFrameRx p f) s fun t => t = s)
  ∧ (∀ (s : State) (p : Fin 2) (f : List Byte), hostUp s p.val = true → frameReason s p.val f ≠ 0 →
    Gives (.hostFrameRx p f) s fun t => t = (s.count HOST_RX_DISCARD.COUNT p.val).put HOST_RX_REASON.LAST (frameReason s p.val f) p.val)
  ∧ (∀ (s : State) (p : Fin 2) (f : List Byte), hostUp s p.val = true → frameReason s p.val f = 0 → frameTagged f = false →
      beAt f 12 2 = 0x0806 → beAt f 14 2 = 1 → beAt f 16 2 = 0x0800 → beAt f 18 1 = 6 → beAt f 19 1 = 4 → beAt f 20 2 = 1 →
      beAt f 38 4 = s.get HOST_IP.IP p.val → s.get HOST_IP.IP p.val ≠ 0 → s.pow.romHost = false →
    Gives (.hostFrameRx p f) s fun t => ∃ g : List Byte, t = { s with tx := .frame p.val g :: s.tx } ∧ g.length = 60
      ∧ slice g 0 6 = slice f 22 6 ∧ beAt g 6 6 = s.get HOST_MAC.MAC p.val % 2 ^ 48 ∧ beAt g 12 2 = 0x0806 ∧ beAt g 20 2 = 2
      ∧ beAt g 22 6 = s.get HOST_MAC.MAC p.val % 2 ^ 48 ∧ beAt g 28 4 = s.get HOST_IP.IP p.val ∧ slice g 32 10 = slice f 22 10)
  ∧ (∀ (s : State) (p : Fin 2) (f : List Byte), hostUp s p.val = true → frameReason s p.val f = 0 → beAt f (frameType f) 2 = 0x0800 →
      let b := (f.take (f.length - 4)).drop (frameType f + 2)
      let u := (b.take (beAt b 2 2)).drop 20
      ipOk s p.val (beAt f 0 6) b = true → beAt b 9 1 = 17 → udpOk (b.take (beAt b 2 2)) u = true → s.is HOST_PTP_CFG.EN p.val = false →
      beAt u 2 2 = s.get HOST_UDP.PORT p.val →
    Gives (.hostFrameRx p f) s fun t => t = datagramRx p.val
      { mac := BitVec.ofNat 48 (beAt f 6 6), ip := BitVec.ofNat 32 (beAt b 12 4), port := BitVec.ofNat 16 (beAt u 0 2), sentTo := BitVec.ofNat 32 (beAt b 16 4) }
      (u.drop 8) s)

/-- Raster streams with their selective acknowledgement, and TRIGGER datagrams (R142 to R149). Where a payload passes, raster ingest takes it in SEQ order. -/
def Obligations.RasterStreams : Prop :=
  (∀ (s : State) (p : Fin 2) (a : NetAddr) (d : List Byte), hostUp s p.val = true → datagramOk d = true → datagramClass d = 4 →
      (d.drop 16).length ≤ hostCredit s p.val → beAt d 2 2 ≤ 7 →
    let n := beAt d 2 2
    let q := beAt d 4 4
    let src := 65536 * a.ip.toNat + a.port.toNat
    let r := s.stream p.val n
    let discarded (u : State) : State := (u.count HOST_RX_DISCARD.COUNT p.val).put HOST_RX_REASON.LAST 8 p.val
    (bit (beAt d 1 1) 6 = false → r.bound ≠ some src → Gives (.rasterDatagramRx p a d) s fun t => t = discarded s)
    ∧ (bit (beAt d 1 1) 6 = true → Gives (.rasterDatagramRx p a d) s fun t =>
      t = rasterItem (streamSource p.val n) (some (d.drop 16)) (s.setStream p.val n { bound := some src, expect := (q + 1) % 2 ^ 32, lastRx := s.time.raw }))
    ∧ (bit (beAt d 1 1) 6 = false → r.bound = some src → q = r.expect → r.held = [] → r.requests = [] → Gives (.rasterDatagramRx p a d) s fun t =>
      t = rasterItem (streamSource p.val n) (some (d.drop 16)) (s.setStream p.val n { r with expect := (q + 1) % 2 ^ 32, lastRx := s.time.raw }))
    ∧ (bit (beAt d 1 1) 6 = false → r.bound = some src → 0 < seqDist r.expect q → seqDist r.expect q < 4096 → r.held = [] → r.requests = [] →
      Gives (.rasterDatagramRx p a d) s fun t => t = s.setStream p.val n { r with held := [(q, some (d.drop 16))], lastRx := s.time.raw })
    ∧ (bit (beAt d 1 1) 6 = false → r.bound = some src → seqDist r.expect q < 0 → Gives (.rasterDatagramRx p a d) s fun t =>
      t = discarded (s.setStream p.val n { r with lastRx := s.time.raw })))
  ∧ (∀ (s : State) (p : Fin 2) (a : NetAddr) (d : List Byte), hostUp s p.val = true → datagramOk d = true → datagramClass d = 6 → 32 ≤ hostCredit s p.val →
    armed s = true → s.fire.triggers.length < 8 → beAt d 16 2 ≠ 0xFFFF →
    Gives (.triggerDatagramRx p a d) s fun t =>
      t = { s with fire := { s.fire with triggers := s.fire.triggers ++ [(beAt d 16 2, wrap 64 ((s.now : Int) + s.until48 (beAt d 20 6)))] } })
  ∧ (∀ (s : State) (p : Fin 2) (n : Fin 8) (due : List Word), hostUp s p.val = true →
    let r := s.stream p.val n.val
    let ask := (missingSeqs r).filter fun q => (due.map BitVec.toNat).contains q && mapGet 0 r.requests q < s.get HOST_NAK_CFG.NAK_TRIES p.val
    ask ≠ [] → Gives (.nakRequest p n due) s fun t =>
      t.tx = .status p.val n.val (r.bound.getD 0) r.expect (hostCredit s p.val) ((seqRanges ask).take 64) :: s.tx
        ∧ t.stream p.val n.val = { r with requests := ask.foldl (fun m q => mapPut q (mapGet 0 m q + 1) m) r.requests } ∧ t.regs = s.regs ∧ SameMemory s t)
  ∧ (∀ (s : State) (p : Fin 2) (n : Fin 8), hostUp s p.val = true → (s.stream p.val n.val).bound ≠ none →
      s.time.raw - (s.stream p.val n.val).lastRx ≤ 10 * ackInterval s p.val →
    Gives (.ackIntervalStatus p n) s fun t => t = { s with tx := .status p.val n.val ((s.stream p.val n.val).bound.getD 0) (s.stream p.val n.val).expect (hostCredit s p.val) ((seqRanges (missingSeqs (s.stream p.val n.val))).take 64) :: s.tx })
  ∧ (∀ (s : State) (p : Fin 2) (n : Fin 8) (q : Word) (q' : Nat) (b : Option (List Byte)), hostUp s p.val = true →
    let r := s.stream p.val n.val
    r.expect = q.toNat → r.held = [(q', b)] → 1 < seqDist r.expect q' → r.requests = [(q.toNat, s.get HOST_NAK_CFG.NAK_TRIES p.val)] →
    Gives (.seqGivenUp p n q) s fun t =>
      t = rasterItem (streamSource p.val n.val) none
        ((s.count HOST_RX_GAP.COUNT p.val).setStream p.val n.val { r with expect := (q.toNat + 1) % 2 ^ 32, requests := [] }))

/-- IEEE 1588 on a host port (R161, R163). The messages' meanings are those of IEEE 1588, which R161 names (log entry 505). -/
def Obligations.PtpMessages : Prop :=
  (∀ (s : State) (p : Fin 2) (m : PtpMessage), hostUp s p.val = true → ptpOn s p.val m.udp = true → m.domain.toNat = s.get HOST_PTP_CFG.DOMAIN p.val →
    (m.kind = .announce → Gives (.ptpMessageRx p m) s fun t => t = s.setPtp p.val { s.ptpPort p.val with better := m.better })
    ∧ (m.kind = .other → Gives (.ptpMessageRx p m) s fun t => t = (s.count HOST_RX_DISCARD.COUNT p.val).put HOST_RX_REASON.LAST 4 p.val)
    ∧ (m.kind = .delayReq → s.is HOST_PTP_CFG.SLAVE_ONLY p.val = false → (s.ptpPort p.val).better = false → s.is HOST_PTP_CFG.P2P p.val = false →
      Gives (.ptpMessageRx p m) s fun t => ∃ x : Int, t.tx = .ptp p.val .delayResp m.seq.toNat x :: s.tx ∧ x % 65536 = 0
        ∧ s.nowQ - 3 * 65536 ≤ x ∧ x ≤ s.nowQ + 2 * 65536 ∧ t.regs = s.regs ∧ SameMemory s t)
    ∧ (∀ (a d : Int), m.kind = .followUp → s.is HOST_PTP_CFG.SLAVE_ONLY p.val = true → (s.ptpPort p.val).syncSeq = some (m.seq.toNat, a) →
      (s.ptpPort p.val).delay = some d → s.get TIME_CTL.SRC = 1 → s.pow.firmware = true → armed s = false → s.is TIME_STATUS.STEPPED = false →
      s.pow.phase ≠ .dormant →
      Gives (.ptpMessageRx p m) s fun t => t.get TIME_STATUS.STEPPED = 1 ∧ t.get TIME_STATUS.STEP_RESULT = 1 ∧ SameMemory s t))
  ∧ (∀ (s : State) (p : Fin 2), hostUp s p.val = true → s.is HOST_PTP_CFG.EN p.val = true → s.pow.firmware = true →
      s.is HOST_PTP_CFG.SLAVE_ONLY p.val = true → s.is HOST_PTP_CFG.P2P p.val = false →
    Gives (.ptpMessageInterval p .delayReq) s fun t => ∃ x : Int, t.tx = .ptp p.val .delayReq (s.ptpPort p.val).seq x :: s.tx
      ∧ (t.ptpPort p.val).req = some ((s.ptpPort p.val).seq, x) ∧ (t.ptpPort p.val).seq = ((s.ptpPort p.val).seq + 1) % 65536
      ∧ t.regs = s.regs ∧ SameMemory s t)

/-- Corrected time, its rate, its epoch and its single step (R152 to R160). -/
def Obligations.RateAndStep : Prop :=
  (∀ (via : Ingress) (h : Hdr) (s : State) (v : Word), s.get TIME_CTL.SRC = 0 → s.get TIME_RATE_MAX.MAX < 2 ^ 31 →
    Writes (.timeRateWrite via h v) via h 0x200020 v.toNat s fun t =>
      t.getS TIME_RATE.RATE = clampI (sext 32 v.toNat) (-(s.get TIME_RATE_MAX.MAX : Int)) (s.get TIME_RATE_MAX.MAX)
        ∧ t.nowQ = s.nowQ ∧ t.time = s.time ∧ SameMemory s t
        ∧ (t.is TIME_STATUS.RATE_CLAMPED = true ↔ (s.get TIME_RATE_MAX.MAX : Int) < (sext 32 v.toNat).natAbs))
  ∧ (∀ (via : Ingress) (h : Hdr) (s : State) (v : Word), bits v.toNat 1 0 ≠ 3 →
    (armed s = false →
      Writes (.timeCtlSrcWrite via h v) via h 0x200000 v.toNat s (fun t =>
        t.get TIME_CTL.SRC = bits v.toNat 1 0 ∧ t.nowQ = s.nowQ ∧ SameMemory s t
          ∧ t.get TIME_STATUS.STEPPED = if bit v.toNat 8 = true ∨ bits v.toNat 1 0 ≠ s.get TIME_CTL.SRC then 0 else s.get TIME_STATUS.STEPPED)
      ∧ Writes (.timeCtlEpochReset via h v) via h 0x200000 (v.toNat ||| 0x100) s (fun t =>
        t.get TIME_CTL.SRC = bits v.toNat 1 0 ∧ t.get TIME_STATUS.STEPPED = 0 ∧ t.nowQ = s.nowQ ∧ SameMemory s t))
    ∧ (armed s = true → Runs (.timeCtlEpochReset via h v) via 2 h (writeParams 0x200000 (v.toNat ||| 0x100)) s stBusy fun _ t =>
        t = actionState via 2 h (writeParams 0x200000 (v.toNat ||| 0x100)) s))
  ∧ (∀ (via : Ingress) (h : Hdr) (ps : List Byte) (s : State), s.get TIME_CTL.SRC = 0 → s.pow.phase ≠ .dormant →
    (armed s = false → s.is TIME_STATUS.STEPPED = false →
      (bit (beAt ps 0 4) 0 = true ∨ ((beAt ps 4 8 : Int) - s.time.raw).natAbs ≤ 1000000000) →
      Runs (.timeStep via h ps) via 0x22 h ps s stOk fun _ t => t.get TIME_STATUS.STEPPED = 1 ∧ t.get TIME_STATUS.STEP_RESULT = 1 ∧ SameMemory s t
        ∧ (bit (beAt ps 0 4) 0 = false → t.correctedQ (beAt ps 4 8) = sext 80 (wrap 80 (sext 64 (beAt ps 12 8) * 65536 + beAt ps 20 2)))
        ∧ (bit (beAt ps 0 4) 0 = true → ∀ r : Nat, t.correctedQ r = sext 80 (wrap 80 (s.correctedQ r + sext 64 (beAt ps 12 8) * 65536 + beAt ps 20 2))))
    ∧ (armed s = true ∨ s.is TIME_STATUS.STEPPED = true → Runs (.timeStep via h ps) via 0x22 h ps s stStepRefused fun _ t =>
        t.get TIME_STATUS.STEP_RESULT = 2 ∧ t.nowQ = s.nowQ ∧ SameRegsBut TIME_STATUS.STEP_RESULT 0 0 s t ∧ SameMemory s t))
  ∧ (∀ (via : Ingress) (h : Hdr) (v : Word) (s : State), s.get TIME_CTL.SRC = 0 → s.pow.phase ≠ .dormant → armed s = false → s.is TIME_STATUS.STEPPED = false →
      bit v.toNat 16 = true →
    Writes (.timeStepGo via h v) via h 0x200050 (v.toNat ||| 0x80000000) s fun t =>
      t.get TIME_STATUS.STEPPED = 1 ∧ t.get TIME_STATUS.STEP_RESULT = 1 ∧ SameMemory s t
        ∧ ∀ r : Nat, t.correctedQ r = sext 80 (wrap 80 (s.correctedQ r + s.getS TIME_STEP_VAL.VALUE * 65536 + bits v.toNat 15 0)))

/-- Compares (R165, R166) and scheduled launches (R167 to R169). -/
def Obligations.ComparesAndLaunches : Prop :=
  (∀ (via : Ingress) (h : Hdr) (s : State) (n : Fin 4) (v : Word), s.pow.phase ≠ .dormant →
    let w := v.toNat ||| 0x80000000
    let g := s.get TIME_CMP.TGT n.val % 2 ^ 32 + bits w 15 0 * 2 ^ 32
    Writes (.timeCmpArm via h n v) via h (0x200104 + 0x10 * n.val) w s fun t =>
      t.get TIME_CMP.TGT n.val = g ∧ mapGet 0 t.time.targets n.val = g ∧ SameMemory s t
        ∧ (s.reached48 g = false → t.get TIME_CMP.EN n.val = 1)
        ∧ (s.reached48 g = true → t.get TIME_CMP.EN n.val = 0 ∧ t.get TIME_CMP.REACHED n.val = 1))
  ∧ (∀ (s : State) (n : Fin 4), s.pow.phase ≠ .dormant → s.is TIME_CMP.EN n.val = true → s.reached48 (mapGet 0 s.time.targets n.val) = true →
    Gives (.timeCmpReached n) s fun t => t.get TIME_CMP.EN n.val = 0 ∧ t.get TIME_CMP.REACHED n.val = 1 ∧ SameMemory s t
      ∧ (s.on 1 = true → evtEnabled s (21 + n.val) = true → evtPending t (21 + n.val) = true))
  ∧ (∀ (via : Ingress) (h : Hdr) (s : State) (l : Fin 8) (v : Word), bits v.toNat 7 4 < 2 ∨ 8 ≤ bits v.toNat 7 4 →
    (bit v.toNat 0 = true → launchPlaced s l.val = true → launchFits s (bits v.toNat 7 4) (launchFrame s l.val) = true → s.get TIME_LNCH_CFG.STATE l.val ≠ 1 →
      s.reached48 (s.get TIME_LNCH_TGT.TGT l.val) = false →
      Writes (.timeLnchEnWrite via h l v) via h (0x200200 + 0x20 * l.val) v.toNat s fun t =>
        t.get TIME_LNCH_CFG.STATE l.val = 1 ∧ t.get TIME_LNCH_CFG.PORT l.val = bits v.toNat 7 4 ∧ SameMemory s t
          ∧ t.time.launches = mapPut l.val { frame := launchFrame s l.val, port := bits v.toNat 7 4, target := s.get TIME_LNCH_TGT.TGT l.val } s.time.launches)
    ∧ (bit v.toNat 0 = false → s.get TIME_LNCH_CFG.STATE l.val = 1 →
      Writes (.timeLnchEnWrite via h l v) via h (0x200200 + 0x20 * l.val) v.toNat s fun t =>
        t.get TIME_LNCH_CFG.STATE l.val = 0 ∧ t.time.launches = mapDel l.val s.time.launches ∧ t.tx = s.tx ∧ SameMemory s t))
  ∧ (∀ (s : State) (l : Fin 8) (j : Launch), s.get TIME_LNCH_CFG.STATE l.val = 1 → mapGet { frame := [], port := 0, target := 0 } s.time.launches l.val = j →
      j.port < 2 → s.until48 j.target = 0 → s.now < 2 ^ 48 →
    (s.is HOST_STATUS.LINK j.port = true → launchUntil s j.port ≤ s.time.raw → Gives (.launchSent l) s fun t =>
      t.get TIME_LNCH_CFG.STATE l.val = 2 ∧ t.get TIME_LNCH_SENT.SENT l.val = s.now ∧ t.tx = .frame j.port j.frame :: s.tx ∧ SameMemory s t)
    ∧ (s.is HOST_STATUS.LINK j.port = false → Gives (.launchSent l) s fun t => t.get TIME_LNCH_CFG.STATE l.val = 4 ∧ SameMemory s t))

/-- The states of a fabric port and tap training (R174 to R179, R203, Table 6.2). -/
def Obligations.FabricStates : Prop :=
  (∀ (via : Ingress) (h : Hdr) (s : State) (k : Fin 8) (v : Word), bits v.toNat 11 8 ≤ 2 → bits v.toNat 11 8 = s.get FAB_CTL.TEST k.val →
      bits v.toNat 2 2 = s.get FAB_CTL.TX_INV k.val → bits v.toNat 1 1 = s.get FAB_CTL.RX_INV k.val →
    (bit v.toNat 0 = true → fabState s k.val = 0 → Writes (.fabCtlEnWrite via h k v) via h (0x300000 + 0x4000 * k.val) v.toNat s fun t =>
      fabState t k.val = 1 ∧ t.get FAB_CTL.EN k.val = 1 ∧ t.get FAB_CTL.SLEEP_EN k.val = bits v.toNat 3 3 ∧ SameMemory s t)
    ∧ (bit v.toNat 0 = false → fabState s k.val ≠ 0 → Writes (.fabCtlEnWrite via h k v) via h (0x300000 + 0x4000 * k.val) v.toNat s fun t =>
      fabState t k.val = 0 ∧ t.get FAB_CTL.EN k.val = 0 ∧ t.fabPort k.val = {} ∧ SameMemory s t ∧ (fabState s k.val = 5 → t.get FAB_STATUS.LAST_DOWN k.val = 1))
    ∧ (bit v.toNat 0 = true → fabState s k.val ≠ 0 → Writes (.fabCtlRetrain via h k v) via h (0x300000 + 0x4000 * k.val) (v.toNat ||| 0x80000000) s fun t =>
      fabState t k.val = 1 ∧ SameMemory s t ∧ (fabState s k.val = 5 → t.get FAB_STATUS.LAST_DOWN k.val = 3)))
  ∧ (∀ (via : Ingress) (h : Hdr) (s : State) (k : Fin 8) (v : Word), bits v.toNat 11 8 ≤ 2 → s.is FAB_CTL.EN k.val = true →
      bits v.toNat 11 8 ≠ s.get FAB_CTL.TEST k.val ∨ bits v.toNat 2 2 ≠ s.get FAB_CTL.TX_INV k.val ∨ bits v.toNat 1 1 ≠ s.get FAB_CTL.RX_INV k.val →
    Runs (.fabCtlEnWrite via h k v) via 2 h (writeParams (0x300000 + 0x4000 * k.val) v.toNat) s stBusy fun _ t =>
      t = actionState via 2 h (writeParams (0x300000 + 0x4000 * k.val) v.toNat) s)
  ∧ (∀ (s : State) (k : Fin 8), fabState s k.val = 1 → s.is FAB_CTL.TAP_MEM k.val = false → Gives (.fabFarEndDetected k) s fun t =>
      fabState t k.val = 2 ∧ t.get FAB_TAPS.PRE k.val = 3 ∧ t.get FAB_TAPS.MAIN k.val = 52 ∧ t.get FAB_TAPS.POST k.val = 8 ∧ SameMemory s t)
  ∧ (∀ (s : State) (k : Fin 8), fabState s k.val = 2 ∨ fabState s k.val = 3 ∨ (fabState s k.val = 4 ∧ (s.fabPort k.val).refused = false) →
    Gives (.fabStateTimeout k) s fun t =>
      fabState t k.val = 1 ∧ t.get FAB_TRAIN_FAILS.COUNT k.val = min (s.get FAB_TRAIN_FAILS.COUNT k.val + 1) (2 ^ 32 - 1) ∧ SameMemory s t)
  ∧ (∀ (s : State) (k : Fin 8), fabState s k.val = 6 → Gives (.fabStateTimeout k) s fun t =>
      fabState t k.val = 1 ∧ t.get FAB_STATUS.LAST_DOWN k.val = 2 ∧ SameMemory s t)
  ∧ (∀ (s : State) (k : Fin 8), fabState s k.val = 3 → Gives (.fabBlockLockGained k) s fun t =>
      fabState t k.val = 4 ∧ .lcf k.val (capFrame s k.val) ∈ t.tx ∧ SameMemory s t)
  ∧ (∀ (s : State) (k : Fin 8), fabState s k.val = 6 → Gives (.fabBlockLockGained k) s fun t => fabState t k.val = 5 ∧ SameMemory s t)
  ∧ (∀ (s : State) (k : Fin 8), fabState s k.val = 5 → Gives (.fabBlockLockLost k) s fun t => fabState t k.val = 6 ∧ SameMemory s t)
  ∧ (∀ (s : State) (k : Fin 8) (f : List Byte), fabState s k.val = 4 → frameOk 1 f = true → f.length = 25 →
    (beAt f 1 1 / 16 = 1 ∨ beAt f 1 1 / 16 = 2 → 64 ≤ beAt f 3 2 → bit (beAt f 2 1) 0 = true → Gives (.fabCapFrameRx k f) s fun t =>
      fabState t k.val = 5 ∧ t.get FAB_STATUS.VERSION k.val = min 0x21 (beAt f 1 1) ∧ t.get FAB_PEER_UID.UID k.val = beAt f 7 8 ∧ SameMemory s t)
    ∧ (beAt f 1 1 / 16 ≠ 1 → beAt f 1 1 / 16 ≠ 2 → (s.fabPort k.val).refused = false → Gives (.fabCapFrameRx k f) s fun t =>
      fabState t k.val = 4 ∧ SameMemory s t))
  ∧ (∀ (s : State) (k : Fin 8), fabState s k.val = 4 → (s.fabPort k.val).refused = true → Gives (.fabCapRetry k) s fun t =>
      fabState t k.val = 4 ∧ (t.fabPort k.val).refused = false ∧ .lcf k.val (capFrame s k.val) ∈ t.tx ∧ SameMemory s t)
  ∧ (∀ (s : State) (k : Fin 8) (b : TrainBlock), fabState s k.val = 2 → Gives (.fabTrainBlockRx k b) s fun t =>
      (fabState t k.val = 2 ∨ fabState t k.val = 3) ∧ SameMemory s t
        ∧ (tapsOk (s.get FAB_TAPS.PRE k.val) (s.get FAB_TAPS.MAIN k.val) (s.get FAB_TAPS.POST k.val) = true →
          tapsOk (t.get FAB_TAPS.PRE k.val) (t.get FAB_TAPS.MAIN k.val) (t.get FAB_TAPS.POST k.val) = true)
        ∧ (b.preset = true → (s.fabPort k.val).answered ≠ some b.rseq.toNat →
          t.get FAB_TAPS.PRE k.val = 3 ∧ t.get FAB_TAPS.MAIN k.val = 52 ∧ t.get FAB_TAPS.POST k.val = 8 ∧ (t.fabPort k.val).answered = some b.rseq.toNat))

/-- Link sequence, acknowledgement, replay, credit, quiet, forwarding and trigger cells (R180 to R183, R194, R201, R202). -/
def Obligations.FabricReplay : Prop :=
  (∀ (s : State) (k : Fin 8) (q : BitVec 12) (c : List Byte) (r : Word), s.on 7 = true → fabActive s k.val = true → s.is FAB_STATUS.TX_SLEEP k.val = false → s.fab.lent = [] →
    (cellWhole c r.toNat = false → Gives (.fabCellRx k q true c r) s fun t =>
      t.get FAB_CRC_ERR.COUNT k.val = min (s.get FAB_CRC_ERR.COUNT k.val + 1) (2 ^ 32 - 1) ∧ t.fabPort k.val = s.fabPort k.val ∧ SameMemory s t)
    ∧ (cellWhole c r.toNat = true → q.toNat ≠ (s.fabPort k.val).rxNext → (s.fabPort k.val).nakking = false → Gives (.fabCellRx k q false c r) s fun t =>
      t.tx = .ack k.val (((s.fabPort k.val).rxNext + 4095) % 4096) true (s.fabPort k.val).owed :: s.tx ∧ (t.fabPort k.val).rxNext = (s.fabPort k.val).rxNext
        ∧ (t.fabPort k.val).nakking = true ∧ SameMemory s t)
    ∧ (cellWhole c r.toNat = true → q.toNat = (s.fabPort k.val).rxNext → cellClass c = 2 ∨ cellClass c = 3 → cellDst c ≠ 1023 → fabRoute s (cellDst c) = 8 →
      Gives (.fabCellRx k q false c r) s fun t => (t.fabPort k.val).rxNext = ((s.fabPort k.val).rxNext + 1) % 4096 ∧ SameMemory s t
        ∧ ∀ (F : Fld) (i j : Nat), F.key i j ≠ FAB_STATUS.RX_SLEEP.key k.val 0 → t.get F i j = s.get F i j)
    ∧ (∀ n : Fin 8, n ≠ k → cellWhole c r.toNat = true → q.toNat = (s.fabPort k.val).rxNext → 1 ≤ cellClass c → cellClass c ≤ 4 → cellDst c ≠ 1023 →
      fabRoute s (cellDst c) = n.val → cellHops c ≠ 0 → c.length ≤ (s.fabPort n.val).maxCell → (s.fabPort n.val).queue = [] → fabMaySend s n.val c = true →
      Gives (.fabCellRx k q false c r) s fun t =>
        .cell n.val (some (s.fabPort n.val).txNext) (c.take 4 ++ beBytes 1 (cellHops c - 1) ++ c.drop 5) ∈ t.tx
          ∧ (t.fabPort k.val).rxNext = ((s.fabPort k.val).rxNext + 1) % 4096 ∧ SameMemory s t))
  ∧ (∀ (s : State) (k : Fin 8) (n : BitVec 12) (c : BitVec 16), fabActive s k.val = true → (s.fabPort k.val).queue = [] → Gives (.fabAckRx k n false c) s fun t =>
      let p := s.fabPort k.val
      t.fabPort k.val = { p with unacked := ackRest n.toNat p.unacked, credit := min 512 (p.credit + c.toNat)
                                 replays := if (ackRest n.toNat p.unacked).length < p.unacked.length then 0 else p.replays }
        ∧ SameMemory s t)
  ∧ (∀ (s : State) (k : Fin 8), fabActive s k.val = true → (s.fabPort k.val).unacked ≠ [] →
    ((s.fabPort k.val).replays < 7 → Gives (.fabReplayTimeout k) s fun t =>
      (t.fabPort k.val) = { s.fabPort k.val with replays := (s.fabPort k.val).replays + 1 }
        ∧ t.get FAB_REPLAY.COUNT k.val = min (s.get FAB_REPLAY.COUNT k.val + 1) (2 ^ 32 - 1)
        ∧ (∀ c ∈ (s.fabPort k.val).unacked, .cell k.val (some c.lseq) c.bytes ∈ t.tx) ∧ SameMemory s t)
    ∧ (7 ≤ (s.fabPort k.val).replays → Gives (.fabReplayTimeout k) s fun t => fabState t k.val = 6 ∧ SameMemory s t))
  ∧ (∀ (s : State) (k : Fin 8), fabActive s k.val = true → s.is FAB_STATUS.TX_SLEEP k.val = false → s.fab.lent = [] → Gives (.fabAckTimer k) s fun t =>
      t.tx = .ack k.val (((s.fabPort k.val).rxNext + 4095) % 4096) false (s.fabPort k.val).owed :: s.tx
        ∧ t.fabPort k.val = { s.fabPort k.val with owed := 0, sinceAck := 0 } ∧ t.regs = s.regs ∧ SameMemory s t)
  ∧ (∀ (s : State) (k : Fin 8), fabActive s k.val = true → bit (s.fabPort k.val).features 0 = true →
    (s.is FAB_CTL.SLEEP_EN k.val = true → s.is FAB_STATUS.TX_SLEEP k.val = false → (s.fabPort k.val).queue = [] → (s.fabPort k.val).owed = 0 → (s.fabPort k.val).sinceAck = 0 →
      Gives (.fabSleepEntry k) s fun t => t = { s.put FAB_STATUS.TX_SLEEP 1 k.val with tx := .sleep k.val true :: s.tx })
    ∧ (s.is FAB_STATUS.TX_SLEEP k.val = true → Gives (.fabSleepExit k) s fun t => t = { s.put FAB_STATUS.TX_SLEEP 0 k.val with tx := .sleep k.val false :: s.tx })
    ∧ Gives (.fabSleepRx k) s (fun t => t = s.put FAB_STATUS.RX_SLEEP 1 k.val))
  ∧ (∀ (s : State) (k : Fin 8) (c : List Byte), s.on 7 = true → fabActive s k.val = true → cellClass c = 6 →
    (beAt c 5 1 = 32 → cellDst c ≠ 1023 → fabRoute s (cellDst c) = 8 → armed s = true → s.fire.triggers.length < 8 → beAt c 8 2 ≠ 0xFFFF →
      Gives (.triggerCellRx k c) s fun t =>
        t.fire.triggers = s.fire.triggers ++ [(beAt c 8 2, wrap 64 ((s.now : Int) + s.until48 (beAt c 12 6)))] ∧ SameMemory s t)
    ∧ (beAt c 5 1 ≠ 32 → Gives (.triggerCellRx k c) s fun t =>
      t.get FAB_DROP.COUNT k.val = min (s.get FAB_DROP.COUNT k.val + 1) (2 ^ 32 - 1) ∧ t.fire = s.fire ∧ SameMemory s t))

/-- Election, the map, node IDs and routing (R189 to R192, R204). -/
def Obligations.FabricMap : Prop :=
  (∀ (s : State) (k : Fin 8) (f : List Byte), fabActive s k.val = true → frameOk 2 f = true → f.length = 23 → Gives (.fabElectRx k f) s fun t =>
      (t.fabPort k.val).elect = some (beAt f 1 8, beAt f 9 1, beAt f 11 8) ∧ SameMemory s t
        ∧ t.get FAB_ROOT_UID.UID ≤ Config.uid ∧ (∀ n ∈ activePorts s, ∀ e, (t.fabPort n).elect = some e → t.get FAB_ROOT_UID.UID ≤ e.1)
        ∧ (t.get FAB_ROOT_UID.UID = Config.uid ∨ ∃ n ∈ activePorts s, ∃ e, (t.fabPort n).elect = some e ∧ t.get FAB_ROOT_UID.UID = e.1))
  ∧ (∀ s : State, Gives .fabElectTimer s fun t => (∀ k ∈ activePorts s, .lcf k (electFrame s) ∈ t.tx) ∧ SameMemory s t)
  ∧ (∀ s : State, activePorts s ≠ [] → Gives .fabTopoTimer s fun t =>
      (∀ k ∈ activePorts s, .lcf k (topoFrame (ownTopo s)) ∈ t.tx) ∧ t.fab.gen = (s.fab.gen + 1) % 65536 ∧ SameMemory s t)
  ∧ (∀ (s : State) (k : Fin 8) (f : List Byte), fabActive s k.val = true → frameOk 3 f = true → f.length = 18 + 9 * beAt f 13 1 →
      (topoOfFrame f).uid ≠ Config.uid → topoNewer s (topoOfFrame f) = true → Gives (.fabTopoRx k f) s fun t =>
      topoOf t.fab.topo (beAt f 1 8) = some (topoOfFrame f) ∧ (∀ n ∈ activePorts s, n ≠ k.val → .lcf n (f.take (f.length - 4)) ∈ t.tx) ∧ SameMemory s t)
  ∧ (∀ s : State, s.on 7 = true → s.is FAB_NODE.ROOT = true → s.fab.assigned = false → activePorts s ≠ [] → Gives .fabIdAssign s fun t =>
      t.fab.assigned = true ∧ t.get FAB_TOPO.GEN = (s.get FAB_TOPO.GEN + 1) % 65536 ∧ t.fab.idRoot = some Config.uid ∧ SameMemory s t)
  ∧ (∀ (s : State) (l : List Topo), (((giveIds s l []).map Prod.snd).filter fun n => n ≠ 0x3FF).Nodup)
  ∧ (∀ (s : State) (k : Fin 8) (f : List Byte), fabActive s k.val = true → frameOk 4 f = true → f.length = 25 → s.fab.assigns = [] → Gives (.fabAssignRx k f) s fun t =>
      (∀ n ∈ activePorts s, n ≠ k.val → .lcf n (f.take 21) ∈ t.tx) ∧ SameMemory s t
        ∧ (beAt f 9 8 = Config.uid → beAt f 1 8 = s.get FAB_ROOT_UID.UID →
          t.node = beAt f 17 2 % 1024 ∧ t.get FAB_NODE.ID = beAt f 17 2 % 1024 ∧ t.get FAB_TOPO.GEN = beAt f 19 2))
  ∧ (∀ s : State, s.on 7 = true → s.fab.routed = false → s.node < 1023 → Gives .fabRoutingUpdate s fun t =>
      t.fab.routed = true ∧ (s.is FAB_NODE.VALID = true → t.get FAB_ROUTE.CODE s.node = 8) ∧ t.get FAB_ROUTE.CODE 1023 = 0xF
        ∧ (∀ n < 1023, n ≠ s.node → (∀ e ∈ topoAll s, e.uid ≠ Config.uid → e.node ≠ n) → t.get FAB_ROUTE.CODE n = 0xF) ∧ SameMemory s t)

/-- TIME cells (R196 to R199, Table 6.7). -/
def Obligations.FabricTime : Prop :=
  (∀ s : State, s.is FAB_TIME_CFG.EN = true → Gives .fabDelayReqTimer s fun t => SameMemory s t ∧ ∀ k ∈ activePorts s,
      (t.fabPort k).delayReq = some ((s.fabPort k).reqId, fabStamp s k * 2048) ∧ (t.fabPort k).reqId = ((s.fabPort k).reqId + 1) % 256
        ∧ ∃ c, .cell k none c ∈ t.tx ∧ cellClass c = 5)
  ∧ (∀ (s : State) (k : Fin 8) (c : List Byte), s.on 7 = true → fabActive s k.val = true → cellClass c = 5 → beAt c 5 1 = 32 → s.is FAB_TIME_CFG.EN = true →
    (beAt (c.drop 8) 0 1 = 2 → Gives (.fabTimeCellRx k c) s fun t => ∃ a, .cell k.val none a ∈ t.tx
      ∧ beAt (a.drop 8) 0 1 = 3 ∧ beAt (a.drop 8) 1 1 = beAt (c.drop 8) 1 1 ∧ SameMemory s t)
    ∧ (∀ t1 : Int, beAt (c.drop 8) 0 1 = 3 → (s.fabPort k.val).delayReq = some (beAt (c.drop 8) 1 1, t1) → (s.fabPort k.val).delays = [] →
      fabStamp s k.val - t1 / 2048 ≤ 320000 → Gives (.fabTimeCellRx k c) s fun t =>
        let mean := tdiv ((fabStamp s k.val - t1 / 2048) - (cellTime (c.drop 8) 12 - cellTime (c.drop 8) 22)) 2
        t.getS FAB_DELAY.DELAY k.val = sext 32 (wrap 32 (mean + tdiv (s.getS FAB_ASYM.ASYM k.val * 32) 1000)) ∧ SameMemory s t)
    ∧ (beAt (c.drop 8) 0 1 = 1 → s.fab.upstream = some k.val → beAt (c.drop 8) 4 8 = s.get FAB_ROOT_UID.UID →
      (s.get TIME_CTL.SRC ≠ 2 → Gives (.fabTimeCellRx k c) s fun t => t.nowQ = s.nowQ ∧ SameMemory s t
        ∧ t.getS FAB_TIME_STATUS.ERROR = clampI (fabStamp s k.val - (cellTime (c.drop 8) 12 + s.getS FAB_DELAY.DELAY k.val)) (-32768) 32767)
      ∧ (s.get TIME_CTL.SRC = 2 → s.is TIME_STATUS.STEPPED = false → (s.fabPort k.val).delays ≠ [] → armed s = false → s.pow.phase ≠ .dormant →
        Gives (.fabTimeCellRx k c) s fun t => t.get TIME_STATUS.STEPPED = 1 ∧ t.get TIME_STATUS.STEP_RESULT = 1 ∧ SameMemory s t)))
  ∧ (∀ s : State, s.is FAB_TIME_CFG.EN = true → s.is FAB_NODE.ROOT = true → Gives .fabSyncTimer s fun t => SameMemory s t
      ∧ ∀ k ∈ fabPorts, treePort s k = true → s.fab.upstream ≠ some k → ∃ c, .cell k none c ∈ t.tx ∧ cellClass c = 5 ∧ beAt (c.drop 8) 0 1 = 1)
  ∧ (∀ s : State, Gives .fabSyncLoss s fun t => t.get FAB_TIME_STATUS.LOCKED = 0 ∧ t.fab.syncGood = 0 ∧ t.nowQ = s.nowQ ∧ t.time = s.time
      ∧ SameRegsBut FAB_TIME_STATUS.LOCKED 0 0 s t ∧ SameMemory s t)

/-- JOB_OPEN and JOB_CLOSE (R205 to R207, R209, Tables 7.1 and 7.9). -/
def Obligations.Jobs : Prop :=
  (∀ (via : Ingress) (h : Hdr) (ps : List Byte) (s : State), jobOpen s = true →
    Runs (.jobOpen via h ps) via 0x10 h ps s stBusy fun _ t => t = actionState via 0x10 h ps s)
  ∧ (∀ (via : Ingress) (h : Hdr) (ps : List Byte) (s : State), jobOpen s = false →
    (beAt ps 0 1 = 0 ∨ 2 < beAt ps 1 1 ∨ beAt ps 2 2 ≠ 0 ∨ beAt ps 4 4 = 0 ∨ 131072 < beAt ps 4 4 ∨ beAt ps 8 8 < 0x1000000000 ∨ beAt ps 8 8 % 4096 ≠ 0
        ∨ beAt ps 16 8 < 1024 * (3 * ((beAt ps 4 4 + 511) / 512 * 64)) ∨ 0x1000000000 + s.get DRAM_USABLE.MIB * 2 ^ 20 < beAt ps 8 8 + beAt ps 16 8 + 65536 →
      Runs (.jobOpen via h ps) via 0x10 h ps s stBadParam fun _ t => t = actionState via 0x10 h ps s)
    ∧ (jobFieldsOk ps s = true →
      (jobViol 0x10 ps s = none → Runs (.jobOpen via h ps) via 0x10 h ps s stOk fun _ t =>
        t.get FIRE_ING_JOB.OPEN = 1 ∧ t.get FIRE_ING_JOB.JOB = beAt ps 0 1 ∧ t.get FIRE_ING_JOB.ROW_RES = beAt ps 1 1
          ∧ t.get FIRE_ING_COLUMNS.COLUMNS = beAt ps 4 4 ∧ t.get FIRE_ING_SLOTS.SLOTS = beAt ps 16 8 / (3 * ((beAt ps 4 4 + 511) / 512 * 64)) % 2 ^ 32
          ∧ t.ing.ringBase = beAt ps 8 8 ∧ t.ing.pages = [] ∧ t.ing.nextBase = 0 ∧ ((∀ c < 16, dmaState s c ≠ 2) → SameMemory s t))
      ∧ (jobViol 0x10 ps s ≠ none → Runs (.jobOpen via h ps) via 0x10 h ps s stDenied fun _ t => jobOpen t = false ∧ t.ing = s.ing ∧ SameMemory s t)))
  ∧ (∀ (via : Ingress) (h : Hdr) (ps : List Byte) (s : State),
    (jobOpen s = false ∨ s.get FIRE_ING_JOB.JOB ≠ beAt ps 0 1 → Runs (.jobClose via h ps) via 0x13 h ps s stBadParam fun _ t => t = actionState via 0x13 h ps s)
    ∧ (jobOpen s = true → s.get FIRE_ING_JOB.JOB = beAt ps 0 1 →
      ((∃ p ∈ s.ing.pages, p.stage < 2 ∨ ∃ r < p.rows, rowHeld s p r = true) →
        Runs (.jobClose via h ps) via 0x13 h ps s stBusy fun _ t => t = actionState via 0x13 h ps s)
      ∧ ((∀ p ∈ s.ing.pages, 2 ≤ p.stage ∧ ∀ r < p.rows, rowHeld s p r = false) →
        Runs (.jobClose via h ps) via 0x13 h ps s stOk fun _ t => jobOpen t = false ∧ t.ing.pages = [] ∧ SameMemory s t)))

/-- PAGE_QUEUE and PAGE_CANCEL (R207, R210, R211, R213), and strips that wait for their slots (R208, R222). -/
def Obligations.PagesAndRing : Prop :=
  (∀ (via : Ingress) (h : Hdr) (ps : List Byte) (s : State),
    (jobOpen s = false ∨ s.is NMAP_STATUS.TABLE = false → Runs (.pageQueue via h ps) via 0x11 h ps s stBusy fun _ t => t = actionState via 0x11 h ps s)
    ∧ (jobOpen s = true → s.is NMAP_STATUS.TABLE = true →
      (beAt ps 2 1 ≠ s.get FIRE_ING_JOB.JOB ∨ 32 ≤ beAt ps 3 1 ∨ bits (beAt ps 3 1) 4 3 = 3 ∨ beAt ps 7 1 = 0 ∨ 8 < beAt ps 7 1 ∨ beAt ps 7 1 ≤ beAt ps 6 1
        ∨ beAt ps 8 4 = 0 ∨ 16777215 < beAt ps 8 4 ∨ beAt ps 12 2 = 0 ∨ 4096 < beAt ps 12 2 ∨ beAt ps 14 2 ≠ 0 ∨ beAt ps 20 1 ≠ 0 ∨ beAt ps 28 4 ≠ 0
        ∨ 65535 * beAt ps 12 2 < beAt ps 8 4 ∨ (beAt ps 16 4 * 2 ^ 24 + beAt ps 20 4 < 3333 * 2 ^ 24 + 0x555555) ∨ 200000 * 2 ^ 24 < beAt ps 16 4 * 2 ^ 24 + beAt ps 20 4
        ∨ (∃ p ∈ s.ing.pages, p.stage < 2 ∧ p.id = beAt ps 0 2) →
        Runs (.pageQueue via h ps) via 0x11 h ps s stBadParam fun _ t => t = actionState via 0x11 h ps s)
      ∧ (pageFieldsOk ps s = true → 64 ≤ (livePages s).length ∨ slots s < ringSpan s (liveBase s) (beAt ps 12 2) (bit (beAt ps 3 1) 2) → pageStatus ps s ≠ stOk)
      ∧ (pageStatus ps s ≠ stOk → Runs (.pageQueue via h ps) via 0x11 h ps s (pageStatus ps s) fun _ t => t = actionState via 0x11 h ps s)
      ∧ (pageStatus ps s = stOk → Runs (.pageQueue via h ps) via 0x11 h ps s stOk fun _ t =>
        t.ing.pages = s.ing.pages ++ [pageFrom ps s.ing.nextBase] ∧ t.ing.nextBase = s.ing.nextBase + beAt ps 8 4 ∧ t.fire = s.fire ∧ SameMemory s t)))
  ∧ (∀ (via : Ingress) (h : Hdr) (ps : List Byte) (s : State),
    (bit (beAt ps 2 2) 0 = true → Runs (.pageCancel via h ps) via 0x12 h ps s stOk fun _ t => ∀ p ∈ t.ing.pages, p.stage ≠ 0)
    ∧ (bit (beAt ps 2 2) 0 = false → ∀ p : Page,
      (findPage s (beAt ps 0 2) = some p → p.stage = 0 → Runs (.pageCancel via h ps) via 0x12 h ps s stOk fun _ t => findPage t (beAt ps 0 2) = none)
      ∧ (findPage s (beAt ps 0 2) = some p → p.stage ≠ 0 → Runs (.pageCancel via h ps) via 0x12 h ps s stBusy fun _ t => t = actionState via 0x12 h ps s)
      ∧ (findPage s (beAt ps 0 2) = none → Runs (.pageCancel via h ps) via 0x12 h ps s stBadParam fun _ t => t = actionState via 0x12 h ps s)))
  ∧ (∀ (s : State) (l : Landing) (p : Page), s.ing.landing = [l] → s.ing.held = [] → findPage s l.page = some p → 0x1000000000 ≤ s.ing.ringBase → l.kind = 0 →
      (∀ g ∈ p.good, g.1 ≠ l.strip) → l.strip ∉ p.bad → p.underrun = [] → (stripPlan s p l.strip).rows ≤ slots s →
      l.rows.length = (stripPlan s p l.strip).rows * rowBytes (columns s) →
    ((∀ r < (stripPlan s p l.strip).rows, slotTaken s (p.base + l.strip * p.stripRows + r) = false) → Gives .stripRingWriteResume s fun t =>
      t.ing.landing = [] ∧ (∀ r < (stripPlan s p l.strip).rows,
        t.bytes (slotAddr s (p.base + l.strip * p.stripRows + r)) (rowBytes (columns s)) = slice l.rows (r * rowBytes (columns s)) (rowBytes (columns s)))
        ∧ SameBytesOutside s.ing.ringBase (slots s * rowBytes (columns s)) s t ∧ t.mram = s.mram)
    ∧ ((∃ r < (stripPlan s p l.strip).rows, slotTaken (prunePages s) (p.base + l.strip * p.stripRows + r) = true) → Gives .stripRingWriteResume s fun t =>
      t.ing.landing = [l] ∧ SameMemory s t))

/-- R206, R218 to R220 and R229: whatever tokens the compressor chooses (a free choice), the strip that it writes in row mode decodes as a good strip with the same drop codes. -/
def Obligations.CurdRoundTrip : Prop :=
  ∀ (columns first rows : Nat) (codes : List Nat), 1 ≤ columns → columns ≤ 131072 → 1 ≤ rows → rows ≤ 4096 → first < 2 ^ 32 →
    (∀ c ∈ codes, c < 8) → codes.length = rows * columns →
    judge { columns := columns, first := first, rows := rows } (codeStrip 0 columns first rows (rows * rowBytes columns) codes) = .good (planarRows columns rows codes)
    ∧ ∀ n < (codeStrip 0 columns first rows (rows * rowBytes columns) codes).length,
      judge { columns := columns, first := first, rows := rows } ((codeStrip 0 columns first rows (rows * rowBytes columns) codes).take n) = .more

/-- The compressor and its chain of buffers (R225 to R229, Table 7.8). -/
def Obligations.Compressor : Prop :=
  (∀ (via : Ingress) (h : Hdr) (s : State) (v : Word), bit v.toNat 30 = false →
    (s.ing.enc ≠ none → Runs (.codecEncGo via h v) via 2 h (writeParams 0x400100 (v.toNat ||| 0x80000000)) s stBusy fun _ t =>
      t = actionState via 2 h (writeParams 0x400100 (v.toNat ||| 0x80000000)) s)
    ∧ (s.ing.enc = none → s.get CODEC_ENC_LEN.LEN = 0 ∨ s.get CODEC_ENC_CHAIN_CFG.ENTRIES = 0 ∨ 16 < s.get CODEC_ENC_CHAIN_CFG.ENTRIES
        ∨ (bit v.toNat 0 = false ∧ (s.get CODEC_ENC_STRIP_ROWS.STRIP_ROWS = 0 ∨ 4096 < s.get CODEC_ENC_STRIP_ROWS.STRIP_ROWS))
        ∨ (bit v.toNat 0 = true ∧ s.get CODEC_ENC_LEN.LEN % 3 ≠ 0) →
      Runs (.codecEncGo via h v) via 2 h (writeParams 0x400100 (v.toNat ||| 0x80000000)) s stBadParam fun _ t =>
        t = actionState via 2 h (writeParams 0x400100 (v.toNat ||| 0x80000000)) s)
    ∧ (s.ing.enc = none → encBad s (bit v.toNat 0) = false → (encViol 0 (bit v.toNat 0) s).isSome = true →
      Runs (.codecEncGo via h v) via 2 h (writeParams 0x400100 (v.toNat ||| 0x80000000)) s stDenied fun _ t =>
        t.get CODEC_ENC_RESULT.STATE = 5 ∧ t.ing.enc = none ∧ SameMemory s t)
    ∧ (s.ing.enc = none → encBad s (bit v.toNat 0) = false → encViol 0 (bit v.toNat 0) s = none → s.cmd.ecc = [] →
      Writes (.codecEncGo via h v) via h 0x400100 (v.toNat ||| 0x80000000) s fun t =>
        t.get CODEC_ENC_RESULT.STATE = 1 ∧ t.get CODEC_STATUS.ENC_BUSY = 1 ∧ t.get CODEC_ENC_OUT.OUT = 0 ∧ t.get CODEC_ENC_RESULT.ENTRY = 0
          ∧ t.ing.enc = some { left := encStream (bit v.toNat 0) s, chain := s.get CODEC_ENC_CHAIN.ADDR, buffers := chainEntries s } ∧ SameMemory s t))
  ∧ (∀ (via : Ingress) (h : Hdr) (s : State) (v : Word) (j : EncJob), bit v.toNat 31 = false → s.ing.enc = some j →
    Writes (.codecEncAbort via h v) via h 0x400100 (v.toNat ||| 0x40000000) s fun t =>
      t.get CODEC_ENC_RESULT.STATE = 4 ∧ t.get CODEC_STATUS.ENC_BUSY = 0 ∧ t.ing.enc = none
        ∧ (s.get CODEC_ENC_OUT.OUT + (encBuffer s j).2.2 < 2 ^ 32 →
          s.get CODEC_ENC_OUT.OUT ≤ t.get CODEC_ENC_OUT.OUT ∧ t.get CODEC_ENC_OUT.OUT ≤ s.get CODEC_ENC_OUT.OUT + (encBuffer s j).2.2)
        ∧ (0x1000000000 ≤ (encBuffer s j).2.1 → SameBytesOutside (encBuffer s j).2.1 (encBuffer s j).2.2 s t) ∧ t.mram = s.mram)
  ∧ (∀ (s : State) (j : EncJob), let b := encBuffer s j; let used := j.chain + 16 * b.1 + 12
    s.ing.enc = some j → 0x1000000000 ≤ b.2.1 → 0x1000000000 ≤ j.chain → b.2.2 < 2 ^ 32 → s.get CODEC_ENC_OUT.OUT + b.2.2 < 2 ^ 32 →
      b.2.1 + b.2.2 ≤ 0x1800000000 → used + 4 ≤ 0x1800000000 →
      dramOk s b.2.1 b.2.2 = true → dramOk s used 4 = true → used + 4 ≤ b.2.1 ∨ b.2.1 + b.2.2 ≤ used →
    (b.2.2 < j.left.length → Gives .codecChained s fun t =>
      t.bytes b.2.1 b.2.2 = j.left.take b.2.2 ∧ t.le used 4 = b.2.2 ∧ t.get CODEC_ENC_OUT.OUT = s.get CODEC_ENC_OUT.OUT + b.2.2
        ∧ (if b.1 + 1 < j.buffers.length then
            (b.1 + 1 < 16 → t.get CODEC_ENC_RESULT.ENTRY = b.1 + 1) ∧ t.ing.enc = some { j with left := j.left.drop b.2.2 }
          else t.get CODEC_ENC_RESULT.STATE = 3 ∧ t.ing.enc = none)
        ∧ (∀ x, (memKey x < b.2.1 ∨ b.2.1 + b.2.2 ≤ memKey x) → (memKey x < used ∨ used + 4 ≤ memKey x) → t.byte x = s.byte x) ∧ t.mram = s.mram)
    ∧ (j.left.length ≤ b.2.2 → Gives .codecEncDone s fun t =>
      t.bytes b.2.1 j.left.length = j.left ∧ t.le used 4 = j.left.length ∧ t.get CODEC_ENC_OUT.OUT = s.get CODEC_ENC_OUT.OUT + j.left.length
        ∧ t.get CODEC_ENC_RESULT.STATE = 2 ∧ t.get CODEC_STATUS.ENC_BUSY = 0 ∧ t.ing.enc = none
        ∧ (∀ x, (memKey x < b.2.1 ∨ b.2.1 + b.2.2 ≤ memKey x) → (memKey x < used ∨ used + 4 ≤ memKey x) → t.byte x = s.byte x) ∧ t.mram = s.mram))

/-- The controllers' states, training, retraining and the capacity they give (R233, R234, R240 to R242, Tables 8.4 and 8.5). -/
def Obligations.DramControllers : Prop :=
  (∀ (via : Ingress) (h : Hdr) (s : State) (m : Fin 2) (v : Word), bit v.toNat 1 = false →
    (bit v.toNat 0 = s.is DRAM_CTL.EN m.val → Writes (.dramCtlEnWrite via h m v) via h (0x600000 + 0x8000 * m.val) v.toNat s fun t =>
      t.regs = s.regs ∧ t.dram = s.dram ∧ SameMemory s t)
    ∧ (bit v.toNat 0 = true → s.is DRAM_CTL.EN m.val = false → Writes (.dramCtlEnWrite via h m v) via h (0x600000 + 0x8000 * m.val) v.toNat s fun t =>
      dramState t m.val = 1 ∧ t.get DRAM_CTL.EN m.val = 1 ∧ t.get DRAM_STATUS.DUE m.val = 0 ∧ t.get DRAM_USABLE.MIB = 0 ∧ SameMemory s t)
    ∧ (bit v.toNat 0 = false → s.is DRAM_CTL.EN m.val = true → Writes (.dramCtlEnWrite via h m v) via h (0x600000 + 0x8000 * m.val) v.toNat s fun t =>
      dramState t m.val = 0 ∧ t.get DRAM_CTL.EN m.val = 0 ∧ t.get DRAM_STATUS.DUE m.val = 0 ∧ t.get DRAM_USABLE.MIB = 0 ∧ SameMemory s t))
  ∧ (∀ (via : Ingress) (h : Hdr) (s : State) (m : Fin 2) (v : Word),
    (armed s = true ∨ dramState s m.val ≠ 2 → Runs (.dramCtlRetrain via h m v) via 2 h (writeParams (0x600000 + 0x8000 * m.val) (v.toNat ||| 2)) s stBusy fun _ t =>
      t = actionState via 2 h (writeParams (0x600000 + 0x8000 * m.val) (v.toNat ||| 2)) s)
    ∧ (armed s = false → dramState s m.val = 2 → bit v.toNat 0 = s.is DRAM_CTL.EN m.val →
      Writes (.dramCtlRetrain via h m v) via h (0x600000 + 0x8000 * m.val) (v.toNat ||| 2) s fun t =>
        dramState t m.val = 1 ∧ t.get DRAM_USABLE.MIB = s.get DRAM_USABLE.MIB ∧ t.dram = s.dram ∧ SameMemory s t))
  ∧ (∀ (s : State) (m : Fin 2) (d : BitVec 2) (two : Bool), s.Settled → dramState s m.val = 1 →
    ((bit s.dram.ready (1 - m.val) = false ∨ mapGet (0, 0) s.dram.fit (1 - m.val) = (d.toNat, if two then 2 else 1)) →
      Gives (.dramTrainingEnd m (.trained d two)) s fun t =>
        dramState t m.val = 2 ∧ t.get DRAM_STATUS.DENSITY m.val = d.toNat ∧ t.get DRAM_STATUS.RANKS m.val = (if two then 2 else 1)
          ∧ t.getS DRAM_STATUS.TRAIN_TEMP m.val = sext 8 (wrap 8 (dramTemp s m.val / 16))
          ∧ (bit s.dram.ready (1 - m.val) = true → s.dram.ready < 4 →
            t.get DRAM_USABLE.MIB = (if s.is DRAM_MEM_CFG.ECC_EN then 4096 * 2 ^ d.toNat * 15 / 16 else 4096 * 2 ^ d.toNat))
          ∧ (bit s.dram.ready (1 - m.val) = false → t.get DRAM_USABLE.MIB = 0) ∧ SameMemory s t)
    ∧ (bit s.dram.ready (1 - m.val) = true → mapGet (0, 0) s.dram.fit (1 - m.val) ≠ (d.toNat, if two then 2 else 1) →
      Gives (.dramTrainingEnd m (.trained d two)) s fun t =>
        dramState t m.val = 4 ∧ t.get DRAM_STATUS.FAIL_PHASE m.val = 1 ∧ t.get DRAM_USABLE.MIB = 0 ∧ SameMemory s t))
  ∧ (∀ (s : State) (m : Fin 2) (ch ph : BitVec 4), s.Settled → dramState s m.val = 1 → Gives (.dramTrainingEnd m (.failed ch ph)) s fun t =>
      dramState t m.val = 4 ∧ t.get DRAM_STATUS.FAIL_CH m.val = ch.toNat ∧ t.get DRAM_STATUS.FAIL_PHASE m.val = ph.toNat ∧ t.get DRAM_USABLE.MIB = 0 ∧ SameMemory s t)
  ∧ (∀ (s : State) (m : Fin 2), dramState s m.val = 2 → s.is DRAM_STATUS.DUE m.val = false →
    (160 < (dramTemp s m.val - 16 * s.getS DRAM_STATUS.TRAIN_TEMP m.val).natAbs → Gives (.dramTempCheck m) s fun t => SameMemory s t ∧
      (armed s = true → dramState t m.val = 2 ∧ t.get DRAM_STATUS.DUE m.val = 1) ∧ (armed s = false → dramState t m.val = 1))
    ∧ ((dramTemp s m.val - 16 * s.getS DRAM_STATUS.TRAIN_TEMP m.val).natAbs ≤ 160 → Gives (.dramTempCheck m) s fun t => t = s))
  ∧ (∀ (s : State) (m : Fin 2), Gives (.dramWckTracking m) s fun t => t = s)
  ∧ (∀ (s : State) (m : Fin 2) (rate : BitVec 5), dramState s m.val = 2 → mapGet 0 s.dram.rates m.val ≠ rate.toNat → Gives (.dramMr4Change m rate) s fun t =>
      t.dram = { s.dram with rates := mapSet 0 m.val rate.toNat s.dram.rates } ∧ dramState t m.val = 2 ∧ SameMemory s t)

/-- R237, with the decode of R236: which masks a write may set, and what a change does to stored bytes. -/
def Obligations.DramMap : Prop :=
  (∀ (via : Ingress) (h : Hdr) (s : State) (x : Fin 7) (v : Word),
    (bit v.toNat (homeBits.getD x.val 0 - 6) = false ∨ (∃ y : Fin 7, y ≠ x ∧ bit v.toNat (homeBits.getD y.val 0 - 6) = true) →
      Runs (.dramMapWrite via h x v) via 2 h (writeParams (0x600110 + 4 * x.val) v.toNat) s stBadParam fun _ t =>
        t = actionState via 2 h (writeParams (0x600110 + 4 * x.val) v.toNat) s)
    ∧ (bit v.toNat (homeBits.getD x.val 0 - 6) = true → (∀ y : Fin 7, y ≠ x → bit v.toNat (homeBits.getD y.val 0 - 6) = false) →
      (v.toNat % 2 ^ 29 = s.get DRAM_MAP.MASK x.val → Writes (.dramMapWrite via h x v) via h (0x600110 + 4 * x.val) v.toNat s fun t => t.regs = s.regs ∧ SameMemory s t)
      ∧ (v.toNat % 2 ^ 29 ≠ s.get DRAM_MAP.MASK x.val →
        (jobOpen s = true ∨ (∃ c < 32, s.is DMA_CTL.EN c = true) → Runs (.dramMapWrite via h x v) via 2 h (writeParams (0x600110 + 4 * x.val) v.toNat) s stBusy fun _ t =>
          t = actionState via 2 h (writeParams (0x600110 + 4 * x.val) v.toNat) s)
        ∧ (jobOpen s = false → (∀ c < 32, s.is DMA_CTL.EN c = false) → Memory.wf s.mem = true → (∀ y < 7, maskOk y (s.get DRAM_MAP.MASK y) = true) →
          Writes (.dramMapWrite via h x v) via h (0x600110 + 4 * x.val) v.toNat s fun t =>
            t.get DRAM_MAP.MASK x.val = v.toNat % 2 ^ 29 ∧ SameRegsBut DRAM_MAP.MASK x.val 0 s t ∧ t.mram = s.mram
              ∧ (∀ a < 0x1000000000, t.byte a = s.byte a)
              ∧ (∀ a b : Nat, a < 2 ^ 35 → b < 2 ^ 35 → (∀ j, j ∉ homeBits → bit a j = bit b j) →
                selects (fun y => s.get DRAM_MAP.MASK y) a = selects (fun y => t.get DRAM_MAP.MASK y) b → t.byte (0x1000000000 + b) = s.byte (0x1000000000 + a))))))
  ∧ (∀ masks : Nat → Nat, (∀ y < 7, maskOk y (masks y) = true) → ∀ a b : Nat, a < 2 ^ 35 → b < 2 ^ 35 →
      (∀ j, j ∉ homeBits → bit a j = bit b j) → selects masks a = selects masks b → a = b)

/-- ECC_EN and PASR_KEEP (R243, R244, R234). -/
def Obligations.DramEcc : Prop :=
  (∀ (via : Ingress) (h : Hdr) (s : State) (v : Word),
    (bit v.toNat 0 = s.is DRAM_MEM_CFG.ECC_EN → Writes (.dramEccEnWrite via h v) via h 0x600100 v.toNat s fun t =>
      t.get DRAM_MEM_CFG.PASR_KEEP = bits v.toNat 15 8 ∧ SameRegsBut DRAM_MEM_CFG.PASR_KEEP 0 0 s t ∧ SameMemory s t)
    ∧ (bit v.toNat 0 ≠ s.is DRAM_MEM_CFG.ECC_EN →
      (dramState s 0 ≠ 2 ∨ dramState s 1 ≠ 2 ∨ jobOpen s = true ∨ (∃ c < 32, s.is DMA_CTL.EN c = true) ∨ s.is DRAM_MEM_CFG.ECC_INIT = true →
        Runs (.dramEccEnWrite via h v) via 2 h (writeParams 0x600100 v.toNat) s stBusy fun _ t => t = actionState via 2 h (writeParams 0x600100 v.toNat) s)
      ∧ (dramState s 0 = 2 → dramState s 1 = 2 → jobOpen s = false → (∀ c < 32, s.is DMA_CTL.EN c = false) → s.is DRAM_MEM_CFG.ECC_INIT = false →
        Writes (.dramEccEnWrite via h v) via h 0x600100 v.toNat s fun t =>
          t.is DRAM_MEM_CFG.ECC_EN = bit v.toNat 0 ∧ t.get DRAM_MEM_CFG.PASR_KEEP = bits v.toNat 15 8 ∧ t.mram = s.mram ∧ (∀ a < 0x1000000000, t.byte a = s.byte a)
            ∧ (bit v.toNat 0 = true → t.is DRAM_MEM_CFG.ECC_INIT = true ∧ t.get DRAM_USABLE.MIB = dramInstalled s * 15 / 16 % 2 ^ 32
              ∧ ∀ a, 0x1000000000 ≤ a → a < 0x1000000000 + dramInstalled s * 2 ^ 20 → t.byte a = 0)
            ∧ (bit v.toNat 0 = false → t.is DRAM_MEM_CFG.ECC_INIT = false ∧ t.get DRAM_USABLE.MIB = dramInstalled s % 2 ^ 32
              ∧ ∀ a, a < 0x1000000000 + dramInstalled s * 2 ^ 20 / 16 * 15 → t.byte a = s.byte a))))
  ∧ (∀ s : State, Gives .dramEccInitDone s fun t => t.get DRAM_MEM_CFG.ECC_INIT = 0 ∧ SameRegsBut DRAM_MEM_CFG.ECC_INIT 0 0 s t ∧ SameMemory s t)

/-- A channel's EN, its shadow set and the checks of a new descriptor (R247, R248, R250, R251, R253, R255, R256). -/
def Obligations.DmaChannels : Prop :=
  (∀ (via : Ingress) (h : Hdr) (s : State) (c : Fin 32) (v : Word),
    (c.val < 16 → jobOpen s = true → Runs (.dmaEnWrite via h c v) via 2 h (writeParams (0x500000 + 0x100 * c.val) v.toNat) s stBusy fun _ t =>
      t = actionState via 2 h (writeParams (0x500000 + 0x100 * c.val) v.toNat) s)
    ∧ (¬(c.val < 16 ∧ jobOpen s = true) →
      (dmaShadow s c.val ≠ 0 → Runs (.dmaShadowValidWrite via h c v) via 2 h (writeParams (0x500000 + 0x100 * c.val) (v.toNat ||| 2)) s stBusy fun _ t =>
        t = actionState via 2 h (writeParams (0x500000 + 0x100 * c.val) (v.toNat ||| 2)) s)
      ∧ (dmaShadow s c.val = 0 → bit v.toNat 0 = false → s.is DMA_CTL.EN c.val = false →
        Writes (.dmaShadowValidWrite via h c v) via h (0x500000 + 0x100 * c.val) (v.toNat ||| 2) s fun t =>
          dmaShadow t c.val = 2 ∧ t.is DMA_CTL.SHADOW_VALID c.val = true ∧ t.get DMA_CTL.EN c.val = s.get DMA_CTL.EN c.val ∧ dmaState t c.val = dmaState s c.val ∧ SameMemory s t)
      ∧ (bit v.toNat 1 = false →
        (bit v.toNat 0 = true → dmaState s c.val = 0 → dmaShadow s c.val ≠ 2 → Writes (.dmaEnWrite via h c v) via h (0x500000 + 0x100 * c.val) v.toNat s fun t =>
          dmaState t c.val = 1 ∧ t.get DMA_CTL.EN c.val = 1 ∧ dmaShadow t c.val = dmaShadow s c.val ∧ SameMemory s t)
        ∧ (bit v.toNat 0 = false → s.is DMA_CTL.EN c.val = false → Writes (.dmaEnWrite via h c v) via h (0x500000 + 0x100 * c.val) v.toNat s fun t =>
          t.regs = s.regs ∧ SameMemory s t)
        ∧ (bit v.toNat 0 = false → s.is DMA_CTL.EN c.val = true → Writes (.dmaEnWrite via h c v) via h (0x500000 + 0x100 * c.val) v.toNat s fun t =>
          dmaState t c.val = 4 ∧ t.get DMA_CTL.EN c.val = 0 ∧ dmaShadow t c.val = 0 ∧ t.mram = s.mram
            ∧ ∀ x, (dmaState s c.val = 2 → ∀ k < accCount (activeDesc s c.val), ∀ y < accLen (activeDesc s c.val) k,
                memKey (accDst (activeDesc s c.val) k + y) ≠ memKey x) → t.byte x = s.byte x))))
  ∧ (∀ (s : State) (c : Fin 32), dmaState s c.val = 4 → dmaShadow s c.val ≠ 2 → Gives (.dmaStopDone c) s fun t =>
      dmaState t c.val = (if s.is DMA_CTL.EN c.val then 1 else 0) ∧ SameRegsBut DMA_STATUS.STATE c.val 0 s t ∧ SameMemory s t)
  ∧ (∀ (s : State) (c : Fin 32), let d := descOf fun i => s.get DMA_SH.WORD c.val i % 2 ^ 32
    s.is DMA_CTL.EN c.val = true → dmaShadow s c.val = 2 → dmaState s c.val = 1 →
    (descCheck s d (s.dmaTails.contains c.val) = none → Gives (.dmaShadowTake c) s fun t =>
      dmaState t c.val = 2 ∧ activeDesc t c.val = d ∧ dmaShadow t c.val = (if d.next = 0 then 0 else 1) ∧ t.get DMA_DONE_BYTES.BYTES c.val = 0 ∧ SameMemory s t)
    ∧ (∀ f, descCheck s d (s.dmaTails.contains c.val) = some f → Gives (.dmaShadowTake c) s fun t =>
      dmaState t c.val = 3 ∧ t.get DMA_STATUS.ERR c.val = f.1 ∧ 1 ≤ f.1 ∧ f.1 ≤ 6 ∧ activeDesc t c.val = d ∧ dmaShadow t c.val = 0 ∧ t.is DMA_CTL.EN c.val = true ∧ SameMemory s t))
  ∧ (∀ (s : State) (c : Fin 32), let a := (activeDesc s c.val).next
    dmaShadow s c.val = 1 → dmaState s c.val = 2 → s.cmd.ecc = [] →
    (fetchCheck s a = none → Gives (.dmaDescFetched c) s fun t =>
      dmaShadow t c.val = 2 ∧ dmaState t c.val = 2 ∧ (∀ i < 12, t.get DMA_SH.WORD c.val i = s.le (a + 4 * i) 4) ∧ activeDesc t c.val = activeDesc s c.val ∧ SameMemory s t)
    ∧ (∀ f, fetchCheck s a = some f → Gives (.dmaDescFetched c) s fun t =>
      dmaState t c.val = 3 ∧ t.get DMA_STATUS.ERR c.val = f.1 ∧ dmaShadow t c.val = 0 ∧ SameMemory s t))

/-- What a descriptor between memories moves in each mode, and where an error stops it (R248, R249, R252, R255, Table 8.8). -/
def Obligations.DmaTransfers : Prop :=
  (∀ (s : State) (c : Fin 32), let d := activeDesc s c.val
    dmaState s c.val = 2 → moveWaits s d = false → descCheck s d false = none → isReg d.src = false → isReg d.dst = false → isReg d.remap = false → descOverlaps d = false →
      (d.mode = 3 → d.dst + d.dstLen ≤ d.remap ∨ d.remap + 4 * d.len ≤ d.dst) →
      armed s = false → s.cmd.ecc = [] → (∀ k < accCount d, moveFails s d k = 0) → Gives (.dmaDescComplete c) s fun t =>
    t.get DMA_DESC_COUNT.COUNT c.val = min (s.get DMA_DESC_COUNT.COUNT c.val + 1) (2 ^ 32 - 1)
      ∧ (dmaShadow s c.val ≠ 2 → dmaState t c.val = 1 ∧ t.get DMA_DONE_BYTES.BYTES c.val = d.total % 2 ^ 32)
      ∧ (d.mode = 0 → ∀ i < d.len, t.byte (d.dst + i) = s.byte (d.src + i))
      ∧ (d.mode = 1 → ∀ j < d.len, ∀ p < 3,
        bit (t.byte (d.dst + (3 * j + p) / 8)).toNat ((3 * j + p) % 8) = bit (s.byte (d.src + p * d.pstride + j / 8)).toNat (j % 8))
      ∧ (d.mode = 2 → ∀ j < d.len, ∀ p < 3,
        bit (t.byte (d.dst + p * d.pstride + j / 8)).toNat (j % 8) = bit (s.byte (d.src + (3 * j + p) / 8)).toNat ((3 * j + p) % 8))
      ∧ (d.mode = 3 → ∀ j < d.len, ∀ p < 3, let m := s.le (d.remap + 4 * j) 4
        bit (t.byte (d.dst + (3 * j + p) / 8)).toNat ((3 * j + p) % 8)
          = (!bit m 31 && bit (s.byte (d.src + p * d.pstride + m % 2 ^ 17 / 8)).toNat (m % 2 ^ 17 % 8)))
      ∧ SameBytesOutside d.dst d.dstLen s t ∧ t.mram = s.mram)
  ∧ (∀ (s : State) (c : Fin 32) (k : Nat), let d := activeDesc s c.val
    dmaState s c.val = 2 → moveWaits s d = false → descAlign d = false → descRange s d = false → isReg d.src = false → isReg d.dst = false → descOverlaps d = false → d.mode = 0 →
      armed s = false → s.cmd.ecc = [] → k < accCount d → (∀ i < k, moveFails s d i = 0) → moveFails s d k ≠ 0 → Gives (.dmaTransferFault c) s fun t =>
    dmaState t c.val = 3 ∧ t.get DMA_STATUS.ERR c.val = moveFails s d k ∧ t.get DMA_CTL.EN c.val = s.get DMA_CTL.EN c.val ∧ dmaShadow t c.val = 0
      ∧ t.get DMA_DONE_BYTES.BYTES c.val = k * d.dw % 2 ^ 32 ∧ (∀ i < k * d.dw, t.byte (d.dst + i) = s.byte (d.src + i))
      ∧ SameBytesOutside d.dst (k * d.dw) s t ∧ t.mram = s.mram)

/-- Position channels: enable, faults, index, counting in the three modes, the held count and the observer (R259 to R278, Tables 9.2 and 9.3). -/
def Obligations.PositionChannels : Prop :=
  (∀ (via : Ingress) (h : Hdr) (s : State) (n : Fin 4) (v : Word),
    (bits v.toNat 2 1 = 3 ∨ 7 < bits v.toNat 15 12
        ∨ (bit v.toNat 0 = true ∧ (s.get POS_OBS_ALPHA.ALPHA n.val = 0 ∨ 0x8000 < s.get POS_OBS_ALPHA.ALPHA n.val
          ∨ s.get POS_OBS_ALPHA.ALPHA n.val < s.get POS_OBS_BETA.BETA n.val ∨ s.get POS_OBS_BETA.BETA n.val < s.get POS_OBS_GAMMA.GAMMA n.val)) →
      Runs (.posCtlEnWrite via h n v) via 2 h (writeParams (0x700000 + 0x1000 * n.val) v.toNat) s stBadParam fun _ t =>
        t = actionState via 2 h (writeParams (0x700000 + 0x1000 * n.val) v.toNat) s)
    ∧ (bits v.toNat 2 1 ≠ 3 → bits v.toNat 15 12 ≤ 7 → (bit v.toNat 0 = true → gainsBad s n.val = false ∧ ssiBad s n.val = false) →
      (s.is POS_CTL.EN n.val = true → bits v.toNat 2 1 ≠ s.get POS_CTL.MODE n.val ∨ bits v.toNat 4 4 ≠ s.get POS_CTL.INV n.val
          ∨ bits v.toNat 15 12 ≠ s.get POS_CTL.FILT n.val ∨ bits v.toNat 7 7 ≠ s.get POS_CTL.TERM n.val →
        Runs (.posCtlEnWrite via h n v) via 2 h (writeParams (0x700000 + 0x1000 * n.val) v.toNat) s stBusy fun _ t =>
          t = actionState via 2 h (writeParams (0x700000 + 0x1000 * n.val) v.toNat) s)
      ∧ (armed s = true → n.val = printChan s → bit v.toNat 0 = false →
        Runs (.posCtlEnWrite via h n v) via 2 h (writeParams (0x700000 + 0x1000 * n.val) v.toNat) s stBusy fun _ t =>
          t = actionState via 2 h (writeParams (0x700000 + 0x1000 * n.val) v.toNat) s)
      ∧ (armed s = true → n.val = printChan s →
        Runs (.posZArm via h n v) via 2 h (writeParams (0x700000 + 0x1000 * n.val) (v.toNat ||| 0x40000000)) s stBusy fun _ t =>
          t = actionState via 2 h (writeParams (0x700000 + 0x1000 * n.val) (v.toNat ||| 0x40000000)) s)
      ∧ (s.is POS_CTL.EN n.val = false → bit v.toNat 0 = true → bit v.toNat 30 = false →
        Writes (.posCtlEnWrite via h n v) via h (0x700000 + 0x1000 * n.val) v.toNat s fun t =>
          posState t n.val = 1 ∧ t.get POS_STATUS.DIR n.val = 0 ∧ t.get POS_RAW.R n.val = 0 ∧ t.get POS_HELD.H n.val = 0 ∧ t.get POS_STATUS.SPD_VALID n.val = 0
            ∧ t.is POS_STATUS.DOUBT n.val = decide (bits v.toNat 2 1 ≠ 2) ∧ (t.chan n.val).x = 0 ∧ (t.chan n.val).v = 0 ∧ SameMemory s t)
      ∧ (s.is POS_CTL.EN n.val = true → bit v.toNat 0 = true → bits v.toNat 2 1 = s.get POS_CTL.MODE n.val → bits v.toNat 4 4 = s.get POS_CTL.INV n.val →
          bits v.toNat 15 12 = s.get POS_CTL.FILT n.val → bits v.toNat 7 7 = s.get POS_CTL.TERM n.val →
        (posState s n.val = 2 → bit v.toNat 30 = false →
          Writes (.posClrFault via h n v) via h (0x700000 + 0x1000 * n.val) (v.toNat ||| 0x80000000) s fun t =>
            posState t n.val = 1 ∧ SameCount n.val s t ∧ t.get POS_STATUS.DOUBT n.val = s.get POS_STATUS.DOUBT n.val
              ∧ t.get POS_STATUS.FAULT_REASON n.val = s.get POS_STATUS.FAULT_REASON n.val ∧ (t.chan n.val).x = posH s n.val * 2 ^ 32
              ∧ (t.chan n.val).illegal = [] ∧ (t.chan n.val).ampRun = 0 ∧ (t.chan n.val).ssiRun = 0 ∧ t.get POS_ILL_COUNT.COUNT n.val = s.get POS_ILL_COUNT.COUNT n.val ∧ SameMemory s t)
        ∧ (armed s = false ∨ n.val ≠ printChan s → bit v.toNat 31 = false →
          Writes (.posZArm via h n v) via h (0x700000 + 0x1000 * n.val) (v.toNat ||| 0x40000000) s fun t =>
            t.get POS_CTL.Z_ARM n.val = 1 ∧ SameCount n.val s t ∧ posState t n.val = posState s n.val ∧ SameMemory s t))))
  ∧ (∀ (s : State) (n : Fin 4), posState s n.val = 1 → s.get POS_CTL.MODE n.val ≤ 1 → s.is POS_CTL.Z_EN n.val = true → Gives (.posIndexEdge n) s fun t =>
      t.getS POS_INDEX.R_AT_Z n.val = s.getS POS_RAW.R n.val ∧ SameMemory s t
        ∧ (s.is POS_CTL.Z_ARM n.val = false → SameCount n.val s t)
        ∧ (s.is POS_CTL.Z_ARM n.val = true → t.get POS_RAW.R n.val = 0 ∧ posH t n.val = narrow 64 (posH s n.val - s.getS POS_RAW.R n.val)
          ∧ (t.chan n.val).x = (s.chan n.val).x - s.getS POS_RAW.R n.val * 2 ^ 32 ∧ (t.chan n.val).v = (s.chan n.val).v
          ∧ t.get POS_STATUS.DOUBT n.val = 0 ∧ t.get POS_CTL.Z_ARM n.val = 0))
  ∧ (∀ (s : State) (n : Fin 4) (a b : Bool), posState s n.val = 1 → s.get POS_CTL.MODE n.val = 0 →
      let c := s.chan n.val; let r (up : Bool) : Int := s.getS POS_RAW.R n.val + (if up = s.is POS_CTL.INV n.val then -1 else 1)
    (a ≠ c.lineA → b = c.lineB → narrow 64 (r (a != b)) = r (a != b) → Gives (.posQuadEdge n a b) s fun t => Follows n.val (r (a != b)) s t ∧ SameMemory s t)
    ∧ (a = c.lineA → b ≠ c.lineB → narrow 64 (r (a == b)) = r (a == b) → Gives (.posQuadEdge n a b) s fun t => Follows n.val (r (a == b)) s t ∧ SameMemory s t)
    ∧ (a ≠ c.lineA → b ≠ c.lineB → Gives (.posQuadEdge n a b) s fun t => SameCount n.val s t ∧ SameMemory s t
        ∧ t.get POS_ILL_COUNT.COUNT n.val = min (s.get POS_ILL_COUNT.COUNT n.val + 1) (2 ^ 32 - 1)
        ∧ (if s.get POS_ILL_CFG.MAX n.val ≤ (c.illegal.filter fun x => s.time.raw < x + max 1 (s.get POS_ILL_CFG.WINDOW n.val) * 1000000).length then
            posState t n.val = 2 ∧ t.get POS_STATUS.FAULT_REASON n.val = 2 ∧ t.get POS_STATUS.DOUBT n.val = 1 else posState t n.val = 1)))
  ∧ (∀ (s : State) (n : Fin 4) (sine cosine : BitVec 16), s.is POS_CTL.EN n.val = true → posState s n.val = 1 → s.get POS_CTL.MODE n.val = 1 → (s.chan n.val).coef = none →
      let p := posCorrect s n.val sine.toInt cosine.toInt
      let inside := s.get POS_SC_AMP.MIN n.val ≤ scAmp p ∧ scAmp p ≤ s.get POS_SC_AMP.MAX n.val
    (∀ old : Nat, inside → (s.chan n.val).angle = some old → let step := narrow 12 ((angle12 p.1 p.2 : Int) - old)
      (1024 < step.natAbs → Gives (.posScSample n sine cosine) s fun t =>
        posState t n.val = 2 ∧ t.get POS_STATUS.FAULT_REASON n.val = 4 ∧ t.get POS_STATUS.DOUBT n.val = 1 ∧ SameCount n.val s t ∧ SameMemory s t)
      ∧ (step.natAbs ≤ 1024 → ∀ r : Int, r = s.getS POS_RAW.R n.val + (if s.is POS_CTL.INV n.val then -step else step) → narrow 64 r = r →
        Gives (.posScSample n sine cosine) s fun t => t.get POS_SC_AMP_CFG.AMP_NOW n.val = scAmp p ∧ SameMemory s t
          ∧ (step = 0 → SameCount n.val s t) ∧ (step ≠ 0 → Follows n.val r s t)))
    ∧ (¬inside → max 1 (s.get POS_SC_AMP_CFG.FILT n.val) ≤ (s.chan n.val).ampRun + 1 → Gives (.posScSample n sine cosine) s fun t =>
        posState t n.val = 2 ∧ t.get POS_STATUS.FAULT_REASON n.val = 1 ∧ t.get POS_STATUS.DOUBT n.val = 1 ∧ SameCount n.val s t ∧ SameMemory s t))
  ∧ (∀ (s : State) (n : Fin 4) (ready parity : Bool) (bs : BitVec 32), posState s n.val = 1 → s.get POS_CTL.MODE n.val = 2 →
      let len := s.get POS_SSI_CFG.LEN n.val
      let v := if s.is POS_SSI_CFG.GRAY n.val then grayDecode len (bs.toNat % 2 ^ len) else bs.toNat % 2 ^ len
      let odd := (ones len (bs.toNat % 2 ^ len) + b2n parity) % 2
      let good := ready = true ∧ ¬(s.get POS_SSI_CFG.PARITY n.val = 1 ∧ odd = 1) ∧ ¬(s.get POS_SSI_CFG.PARITY n.val = 2 ∧ odd = 0)
    (good → (s.chan n.val).reading = none → Gives (.posSsiRead n ready bs parity) s fun t =>
      t.getS POS_RAW.R n.val = v ∧ posH t n.val = v ∧ t.get POS_STATUS.DOUBT n.val = 0 ∧ SameMemory s t)
    ∧ (∀ w : Nat, good → (s.chan n.val).reading = some w → (narrow len ((v : Int) - w)).natAbs ≤ s.get POS_SSI_JUMP.JUMP n.val →
      ∀ r : Int, r = s.getS POS_RAW.R n.val + (if s.is POS_CTL.INV n.val then -narrow len ((v : Int) - w) else narrow len ((v : Int) - w)) → narrow 64 r = r →
      Gives (.posSsiRead n ready bs parity) s fun t => t.get POS_STATUS.DOUBT n.val = 0 ∧ SameMemory s t
        ∧ (narrow len ((v : Int) - w) = 0 → SameCount n.val s t) ∧ (narrow len ((v : Int) - w) ≠ 0 → Follows n.val r s t))
    ∧ (¬good ∨ (∃ w : Nat, (s.chan n.val).reading = some w ∧ s.get POS_SSI_JUMP.JUMP n.val < (narrow len ((v : Int) - w)).natAbs) →
      Gives (.posSsiRead n ready bs parity) s fun t => SameCount n.val s t ∧ SameMemory s t
        ∧ t.get POS_SSI_ERR_COUNT.COUNT n.val = min (s.get POS_SSI_ERR_COUNT.COUNT n.val + 1) (2 ^ 32 - 1)
        ∧ (if max 1 (s.get POS_SSI_ERR_CFG.ERR_MAX n.val) ≤ (s.chan n.val).ssiRun + 1 then
            posState t n.val = 2 ∧ t.get POS_STATUS.FAULT_REASON n.val = 3 ∧ t.get POS_STATUS.DOUBT n.val = 1 else posState t n.val = 1)))
  ∧ (∀ (s : State) (n : Fin 4), posState s n.val ≠ 0 → Gives .posObsUpdate s fun t =>
      let c := s.chan n.val; let e := t.chan n.val
      t.get POS_OBS_T.T n.val = s.now ∧ SameCount n.val s t ∧ SameMemory s t ∧ t.get POS_OBS_V.V n.val = wrap 32 (asr e.v 16)
        ∧ (n.val = printChan s → t.pos.last.x = e.x ∧ t.pos.last.v = e.v ∧ t.pos.last.a = e.a ∧ t.pos.last.t = s.now ∧ t.pos.last.valid = decide (posState s n.val = 1))
        ∧ (posState s n.val = 2 ∨ s.is POS_STATUS.SPD_VALID n.val = false → e = c)
        ∧ (posState s n.val = 1 → s.is POS_STATUS.SPD_VALID n.val = true →
          let xp := narrow 128 (c.x + tdiv c.v 4 + tdiv c.a 32)
          let vp := narrow 64 (c.v + tdiv c.a 4)
          let lo := (if s.is POS_STATUS.DIR n.val then posH s n.val - 1 else posH s n.val) * 2 ^ 32
          ∃ d : Int, e.x = narrow 128 (xp + asr (d * s.get POS_OBS_ALPHA.ALPHA n.val) 16) ∧ e.v = narrow 64 (vp + narrow 64 (asr (d * s.get POS_OBS_BETA.BETA n.val) 14))
            ∧ e.a = narrow 64 (c.a + narrow 64 (asr (d * s.get POS_OBS_GAMMA.GAMMA n.val) 12)) ∧ e.changed = none
            ∧ (∀ th, c.changed = some th → d = narrow 128 (posH s n.val * 2 ^ 32 + tdiv (vp * wrap 64 ((s.now : Int) - th)) 1000 - xp))
            ∧ (c.changed = none → (xp < lo → d = lo - xp) ∧ (lo ≤ xp → xp ≤ lo + 2 ^ 32 → d = 0) ∧ (lo + 2 ^ 32 < xp → d = lo + 2 ^ 32 - xp))))
  ∧ (∀ (s : State) (n : Fin 4), posState s n.val = 1 → Gives (.posStandstill n) s fun t =>
      t.get POS_STATUS.STILL n.val = 1 ∧ t.get POS_STATUS.SPD_VALID n.val = 0 ∧ (t.chan n.val).x = posH s n.val * 2 ^ 32 ∧ (t.chan n.val).v = 0 ∧ (t.chan n.val).a = 0
        ∧ t.get POS_OBS_V.V n.val = 0 ∧ SameCount n.val s t ∧ SameMemory s t)

/-- Compare lists (R281, R283 to R285, Table 9.7). -/
def Obligations.CompareUnits : Prop :=
  (∀ (via : Ingress) (h : Hdr) (s : State) (u : Fin 4) (v : Word),
    (s.is CMP_CTL.EN u.val = true → bits v.toNat 5 4 ≠ s.get CMP_CTL.CH u.val ∨ bits v.toNat 2 1 ≠ 2 * s.get CMP_CTL.DIR u.val + s.get CMP_CTL.MODE u.val →
      Runs (.cmpCtlEnWrite via h u v) via 2 h (writeParams (0x704100 + 0x40 * u.val) v.toNat) s stBusy fun _ t =>
        t = actionState via 2 h (writeParams (0x704100 + 0x40 * u.val) v.toNat) s)
    ∧ (s.is CMP_CTL.EN u.val = false ∨ (bits v.toNat 5 4 = s.get CMP_CTL.CH u.val ∧ bits v.toNat 2 1 = 2 * s.get CMP_CTL.DIR u.val + s.get CMP_CTL.MODE u.val) →
      Writes (.cmpCtlEnWrite via h u v) via h (0x704100 + 0x40 * u.val) v.toNat s fun t =>
        t.get CMP_CTL.CH u.val = bits v.toNat 5 4 ∧ t.get CMP_CTL.DIR u.val = bits v.toNat 2 2 ∧ t.get CMP_CTL.MODE u.val = bits v.toNat 1 1 ∧ SameMemory s t
          ∧ (bit v.toNat 0 = true → t.get CMP_CTL.EN u.val = 1 ∧ t.get CMP_STATUS.POINTER u.val = 0 ∧ t.get CMP_BASE.BASE u.val = 0 ∧ t.get CMP_STATUS.LAPS u.val = 0
            ∧ t.get CMP_STATUS.RUNNING u.val = 1)
          ∧ (bit v.toNat 0 = false → t.get CMP_CTL.EN u.val = 0 ∧ t.get CMP_STATUS.RUNNING u.val = 0 ∧ t.get CMP_STATUS.POINTER u.val = s.get CMP_STATUS.POINTER u.val
            ∧ t.pos = s.pos)))
  ∧ (∀ (via : Ingress) (h : Hdr) (s : State) (u : Fin 4) (i : Fin 1024) (v : Word),
    (s.is CMP_CTL.EN u.val = true → s.get CMP_STATUS.POINTER u.val = i.val →
      Runs (.cmpEntryCommit via h u i v) via 2 h (writeParams (0x708004 + 0x2000 * u.val + 8 * i.val) v.toNat) s stBusy fun _ t =>
        t = actionState via 2 h (writeParams (0x708004 + 0x2000 * u.val + 8 * i.val) v.toNat) s)
    ∧ (s.is CMP_CTL.EN u.val = false ∨ s.get CMP_STATUS.POINTER u.val ≠ i.val →
      Writes (.cmpEntryCommit via h u i v) via h (0x708004 + 0x2000 * u.val + 8 * i.val) v.toNat s fun t => SameMemory s t
        ∧ cmpEntry t u.val i.val = { p := s.get CMP_ENTRY.P u.val i.val % 2 ^ 32 + bits v.toNat 15 0 * 2 ^ 32, lamp := bits v.toNat 31 24, cam := bits v.toNat 23 20
                                     page := bit v.toNat 18, evt := bit v.toNat 17, pin := bit v.toNat 16 }
        ∧ (∀ (u' i' : Nat), u' ≠ u.val ∨ i' ≠ i.val → u' < 4 → i' < 1024 → cmpEntry t u' i' = cmpEntry s u' i')
        ∧ t.get CMP_STATUS.POINTER u.val = s.get CMP_STATUS.POINTER u.val))
  ∧ (∀ (s : State) (n : Nat) (x : Int), (∀ u < 4, s.get CMP_CTL.CH u = n → s.is CMP_STATUS.RUNNING u = true → cmpReached s u = false) → cmpCheck n x s = s)
  ∧ (∀ (s : State) (u : Fin 4) (x : Nat), let t := cmpAct u.val x s; SameMemory s t
      ∧ (s.get CMP_STATUS.POINTER u.val ≠ s.get CMP_LAST.LAST u.val → t.get CMP_STATUS.POINTER u.val = (s.get CMP_STATUS.POINTER u.val + 1) % 1024
        ∧ t.get CMP_BASE.BASE u.val = s.get CMP_BASE.BASE u.val)
      ∧ (s.get CMP_STATUS.POINTER u.val = s.get CMP_LAST.LAST u.val →
        (s.is CMP_CTL.MODE u.val = false → t.get CMP_STATUS.RUNNING u.val = 0)
        ∧ (s.is CMP_CTL.MODE u.val = true → t.get CMP_STATUS.POINTER u.val = 0 ∧ t.get CMP_BASE.BASE u.val = (s.get CMP_BASE.BASE u.val + s.get CMP_PITCH.PITCH u.val) % 2 ^ 48
          ∧ t.get CMP_STATUS.LAPS u.val = min (s.get CMP_STATUS.LAPS u.val + 1) 4095)))
  ∧ (∀ (s : State) (u : Fin 4), Gives (.cmpPulseEnd u) s fun t => t = { s with pos := { s.pos with pins := mapDel u.val s.pos.pins } })

/-- The spare bank: claimed, checked, swapped and released (R302, R305 to R313, Table 10.9). -/
def Obligations.NozzleTable : Prop :=
  (∀ (via : Ingress) (h : Hdr) (ps : List Byte) (s : State),
    (spare s ≠ 0 → Runs (.nmapLoad via h ps) via 0x18 h ps s stBusy fun _ t => t = actionState via 0x18 h ps s)
    ∧ (spare s = 0 → s.is NMAP_STATUS.CHECKING = false → followsTable s = false →
      (bit (beAt ps 0 4) 0 = true → s.is NMAP_STATUS.TABLE = false → Runs (.nmapLoad via h ps) via 0x18 h ps s stBadParam fun _ t => t = actionState via 0x18 h ps s)
      ∧ (bit (beAt ps 0 4) 0 = false → Runs (.nmapLoad via h ps) via 0x18 h ps s stOk fun _ t => spare t = 1 ∧ t.nmap = s.nmap ∧ SameMemory s t)
      ∧ (bit (beAt ps 0 4) 0 = true → s.is NMAP_STATUS.TABLE = true → Memory.wf s.mem = true → Runs (.nmapLoad via h ps) via 0x18 h ps s stOk fun _ t =>
        spare t = 1 ∧ (∀ i < 0x100000, t.byte (spareBase s + i) = s.byte (liveBase s + i)) ∧ SameBytesOutside (spareBase s) 0x100000 s t ∧ t.nmap = s.nmap ∧ t.mram = s.mram)))
  ∧ (∀ (via : Ingress) (h : Hdr) (ps : List Byte) (s : State),
    (spare s ≠ 1 ∨ s.is NMAP_STATUS.CHECKING = true → Runs (.nmapSwap via h ps) via 0x19 h ps s stBusy fun _ t => t = actionState via 0x19 h ps s)
    ∧ (spare s = 1 → s.is NMAP_STATUS.CHECKING = false → Runs (.nmapSwap via h ps) via 0x19 h ps s stOk fun _ t => SameMemory s t
      ∧ (bit (beAt ps 0 4) 2 = true → spare t = 0 ∧ t.nmap = s.nmap)
      ∧ (bit (beAt ps 0 4) 2 = false → spare t = 1 ∧ t.get NMAP_STATUS.CHECKING = 1 ∧ t.nmap.flags = beAt ps 0 4 % 4 ∧ t.nmap.queue = s.nmap.queue)))
  ∧ (∀ s : State, s.on 2 = true → s.is NMAP_STATUS.CHECKING = true → s.nmap.merged = false →
      let b := spareBase s; let plain := s.nmap.flags = 0 ∧ s.nmap.queue = [] ∧ s.nmap.trims = []
    Gives .nmapSwapChecksEnd s fun t =>
      (t.get NMAP_STATUS.CHECKING = 0 ∧ spare t = spare s ∧ 1 ≤ t.get NMAP_STATUS.LAST_FAIL ∧ t.get NMAP_STATUS.LAST_FAIL ≤ 10 ∧ SameMemory s t
        ∧ t.nmap.queue = s.nmap.queue ∧ t.nmap.trims = s.nmap.trims
        ∧ (t.get NMAP_STATUS.LAST_FAIL = 1 ↔ s.le (b + 0x1C) 4 ≠ bankCrc s b)
        ∧ (plain → s.le (b + 0x1C) 4 = bankCrc s b → ∃ i : Nat, swapChecks s b = some (t.get NMAP_STATUS.LAST_FAIL, i) ∧ t.get NMAP_FAIL_INDEX.INDEX = i % 2 ^ 17))
      ∨ (s.le (b + 0x1C) 4 = bankCrc s b ∧ t.nmap.queue = [] ∧ t.nmap.trims = [] ∧ t.get NMAP_STATUS.QUEUE = 0 ∧ t.le (b + 0x1C) 4 = bankCrc t b
        ∧ ((spare t = 3 ∧ t.get NMAP_STATUS.CHECKING = 0) ∨ t.nmap.merged = true) ∧ t.get NMAP_STATUS.LIVE = s.get NMAP_STATUS.LIVE ∧ t.mram = s.mram
        ∧ (plain → swapChecks s b = none ∧ SameBytesOutside b 0x100000 s t)))
  ∧ (∀ s : State, s.on 2 = true → spare s = 1 → s.is NMAP_STATUS.CHECKING = false → Gives .nmapHoldExpiry s fun t =>
      spare t = 0 ∧ t.get NMAP_STATUS.HOLD_EXPIRED = 1 ∧ t.nmap = s.nmap ∧ SameMemory s t ∧ SameOutside 0x800000 0x800004 s t)
  ∧ (∀ (s : State) (n msrc : Nat), s.on 2 = true → spare s = 0 → s.nmap.hostSwapped = true → s.nmap.queue = [(n, msrc)] → s.nmap.trims = [] → n < 131072 → msrc < 4 →
      Memory.wf s.mem = true → let b := spareBase s; let l := liveBase s
    Gives .internalSwapStart s fun t => spare t = 2 ∧ t.nmap.queue = [] ∧ t.get NMAP_STATUS.QUEUE = 0 ∧ t.get NMAP_STATUS.LIVE = s.get NMAP_STATUS.LIVE
      ∧ nzMasked (nz t b n) = true ∧ (nzMasked (nz s l n) = false → nzMsrc (nz t b n) = msrc) ∧ (nzMasked (nz s l n) = true → nz t b n = nz s l n)
      ∧ nzCol (nz t b n) = nzCol (nz s l n) ∧ nzZero (nz t b n) = nzZero (nz s l n) ∧ nzPaired (nz t b n) = nzPaired (nz s l n)
      ∧ (∀ m < 131072, m ≠ n → nz t b m = nz s l m) ∧ t.le (b + 0x1C) 4 = bankCrc t b ∧ SameBytesOutside b 0x100000 s t ∧ t.mram = s.mram)
  ∧ (∀ s : State, s.on 2 = true → spare s = 2 → (∀ h < 64, takesTrim s h = false) → Gives .internalSwapReady s fun t =>
      spare t = 3 ∧ t.get NMAP_STATUS.CHECKING = 0 ∧ SameMemory s t ∧ SameOutside 0x800000 0x800004 s t)
  ∧ (∀ s : State, s.on 2 = true →
    (armed s = true → Gives .nmapSwapTakeEffect s fun t => t = s)
    ∧ (armed s = false → spare s = 3 → Gives .nmapSwapTakeEffect s fun t =>
      t.get NMAP_STATUS.LIVE = 1 - s.get NMAP_STATUS.LIVE ∧ spare t = 0 ∧ t.get NMAP_STATUS.TABLE = 1 ∧ t.nmap.hostSwapped = true
        ∧ t.get NMAP_SWAP_ROW.ROW = (if s.is FIRE_ING_JOB.OPEN then s.fire.fetchTop % 2 ^ 64 else 0)
        ∧ t.get NMAP_SWAPS.COUNT = min (s.get NMAP_SWAPS.COUNT + 1) (2 ^ 32 - 1) ∧ t.get NMAP_TABLE_ID.ID = s.le (spareBase s + 0x18) 4
        ∧ t.get NMAP_MASKED.COUNT = maskedCount s (spareBase s) ∧ t.get NMAP_DEAD.COUNT = deadCount s (spareBase s) (columnsNow s) ∧ SameMemory s t))

/-- FIRE_ARM, FIRE_STOP, the end of the armed span and a stall (R318 to R320, R336, R339, R340, R362, R384, R471). Which corrected time EPOCH names is R166's signed 48-bit difference. -/
def Obligations.ArmingAndStopping : Prop :=
  (∀ (via : Ingress) (h : Hdr) (ps : List Byte) (s : State), let live := liveHeads s; let q := armPeriod ps
    (armed s = true ∨ jobOpen s = false ∨ s.is NMAP_STATUS.TABLE = false →
      Runs (.fireArm via h ps) via 0x20 h ps s stBusy fun _ t => t = actionState via 0x20 h ps s)
    ∧ (armed s = false → jobOpen s = true → s.is NMAP_STATUS.TABLE = true →
      (withinCeiling q (s.get SYS_PL.REQ) (tblN s (liveBase s)) = false →
        Runs (.fireArm via h ps) via 0x20 h ps s stBadParam fun _ t => t = actionState via 0x20 h ps s)
      ∧ (withinCeiling q (s.get SYS_PL.REQ) (tblN s (liveBase s)) = true →
        (posState s (printChan s) ≠ 1 ∨ (∃ x ∈ live, s.bitOf CAL_FIRST.FIRST x = false) ∨ (∃ x ∈ live, headArmable s x = false)
            ∨ role s = 2 ∨ role s = 4 ∨ (paired s = false ∧ role s ≠ 3) ∨ (∃ x ∈ live, s.is HL_WF_STATE.VALID x = false) →
          Runs (.fireArm via h ps) via 0x20 h ps s stBusy fun _ t => t = actionState via 0x20 h ps s)
        ∧ (posState s (printChan s) = 1 → (∀ x ∈ live, s.bitOf CAL_FIRST.FIRST x = true ∧ headArmable s x = true ∧ s.is HL_WF_STATE.VALID x = true) →
            role s ≠ 2 → role s ≠ 4 → paired s = true ∨ role s = 3 →
          ((∃ x ∈ live, q < wfFloor s x (wfLive s x) * 2 ^ 24) →
            Runs (.fireArm via h ps) via 0x20 h ps s stBadParam fun _ t => t = actionState via 0x20 h ps s)
          ∧ ((∀ x ∈ live, wfFloor s x (wfLive s x) * 2 ^ 24 ≤ q) → s.now < 2 ^ 62 → Runs (.fireArm via h ps) via 0x20 h ps s stOk fun _ t =>
            armed t = true ∧ gridPeriod t = q ∧ t.get FIRE_EPOCH_FRAC.FRAC = beAt ps 8 4
              ∧ (t.getS FIRE_EPOCH.EPOCH - beAt ps 0 8) % 2 ^ 48 = 0 ∧ -(2 ^ 47) ≤ t.getS FIRE_EPOCH.EPOCH - s.now ∧ t.getS FIRE_EPOCH.EPOCH - s.now < 2 ^ 47
              ∧ ((s.now : Int) + 20000) * 2 ^ 24 ≤ gridTime t t.fire.next ∧ (∀ k < t.fire.next, gridTime t k < ((s.now : Int) + 20000) * 2 ^ 24)
              ∧ (∀ g ∈ liveGroups s, mapGet 0 t.fire.decidedTo g = firstRow s ∧ mapGet 0 t.fire.firedTo g = firstRow s)
              ∧ t.fire.lines = [] ∧ t.fire.triggers = [] ∧ t.fire.decided = [] ∧ t.fire.stop = none
              ∧ (isStandby s = false → ∀ x < 64, hlState s x = 4 → hlState t x = 6) ∧ t.get FIRE_STATUS.STALLED = 0 ∧ t.get FIRE_STATUS.AGAINST = 0
              ∧ t.ing = s.ing ∧ t.nmap = s.nmap ∧ SameMemory s t)))))
  ∧ (∀ (via : Ingress) (h : Hdr) (ps : List Byte) (s : State),
    (armed s = false → Runs (.fireStop via h ps) via 0x21 h ps s stBusy fun _ t => t = actionState via 0x21 h ps s)
    ∧ (armed s = true → Runs (.fireStop via h ps) via 0x21 h ps s stOk fun _ t =>
      armed t = true ∧ t.fire.decided = s.fire.decided ∧ t.fire.decidedTo = s.fire.decidedTo ∧ t.ing = s.ing ∧ SameMemory s t
        ∧ (bit (beAt ps 0 4) 0 = true → t.fire.atEnd = true)
        ∧ (s.fire.stop ≠ none → t.fire.stop = s.fire.stop)
        ∧ (s.fire.stop = none → t.fire.stop = if bit (beAt ps 0 4) 0 && s.ing.pages.any (fun p => decide (p.stage = 1)) then none else some 1)))
  ∧ (∀ s : State,
    (s.fire.stop = none ∨ armed s = false ∨ s.fire.decided ≠ [] → Gives .fireStopComplete s fun t => t = s)
    ∧ (∀ r < 16, s.fire.stop = some r → armed s = true → s.fire.decided = [] → Gives .fireStopComplete s fun t =>
      armed t = false ∧ t.get FIRE_STATUS.STOP_REASON = r ∧ t.get FIRE_STATUS.STALLED = 0 ∧ t.get FIRE_STATUS.AGAINST = 0 ∧ t.fire.stop = none ∧ t.fire.atEnd = false
        ∧ t.fire.triggers = [] ∧ (∀ p ∈ t.ing.pages, p.stage ≠ 1)
        ∧ ((∀ p ∈ s.ing.pages, p.stage ≠ 1) → t.ing = s.ing ∧ SameMemory s t
          ∧ (∀ x < 64, hlState s x = 6 → hlState t x = if isStandby s then 7 else 4) ∧ (∀ x < 64, hlState s x ≠ 6 → hlState t x = hlState s x))))
  ∧ (∀ s : State,
    (printing s = [] ∨ armed s = false → Gives .fireStall s fun t => t = s)
    ∧ (∀ p ∈ printing s, armed s = true → s.is FIRE_STATUS.STALLED = false → pageUnfired s p = true → Gives .fireStall s fun t =>
      t.get FIRE_STATUS.STALLED = 1 ∧ t.fire = s.fire ∧ t.ing = s.ing ∧ SameMemory s t ∧ Quiet (s.put FIRE_STATUS.STALLED 1) t))

/-- The decision of a fire and the fire (R315, R317, R321 to R337, R486, Table 11.4). A waiting swap of roles (R483) has its own statement. -/
def Obligations.FireDecisions : Prop :=
  (∀ (s : State) (late : List (Fin 256)), armed s = false ∨ s.fire.stop ≠ none → Gives (.fireDecision late) s fun t => t = s)
  ∧ (∀ (s : State) (late : List (Fin 256)), armed s = true → s.fire.stop = none → s.is PAIR_STATUS.SWAP_WAIT = false →
      let r := nhaReadBack s
      let b := startPages r.fire.next (placed r) r
      let k := b.fire.next
      let a := wfTakeEffect k (nmapTakeEffect b)
      let p0 := landing a (gridTime a k)
      let p1 := landing a (gridTime a (k + 1))
      let m := p0 + tdiv (p1 - p0) 2
      let due := dueAll a m
      let halts := ∃ e ∈ due, 1 < e.2.length ∧ ∃ q ∈ e.2, rowPolicy a q = 2
    (placed a = false → Gives (.fireDecision late) s fun t => t.fire.stop = some 3 ∧ t.fire.next = k + 1
      ∧ ∃ d : Decided, t.fire.decided = s.fire.decided ++ [d] ∧ d.k = k ∧ d.t = (gridTime a k).toNat ∧ d.due = [] ∧ d.carried = []
        ∧ d.packets.map (·.head) = liveHeads a ∧ ∀ p ∈ d.packets, p.due = 0 ∧ p.codes = List.replicate 2048 0)
    ∧ (placed a = true → withinCeiling (gridPeriod a) (a.get SYS_PL.IN_FORCE) (tblN a (liveBase a)) = true →
      (∀ (p : Page) (o : Int), printing a = [p] → p.origin = some o → ∀ g ∈ liveGroups a, ∀ i < p.rows,
        (p.base + i ∈ mapGet [] due g ↔ mapGet 0 a.fire.decidedTo g ≤ p.base + i ∧ 0 ≤ pageSense p * (m - rowTarget a g p i)))
      ∧ Gives (.fireDecision late) s fun t => t.fire.next = k + 1
        ∧ t.get FIRE_POS.P = wrap 64 p0
        ∧ t.get FIRE_TRAVEL.W = wrap 32 (if (match printing a with | p :: _ => p.reverse | [] => a.is POS_STATUS.DIR (printChan a)) then p0 - p1 else p1 - p0)
        ∧ (due = [] → SameMemory a t)
        ∧ ∃ d : Decided, t.fire.decided = s.fire.decided ++ [d] ∧ d.k = k ∧ d.t = (gridTime a k).toNat ∧ d.packets.map (·.head) = liveHeads a
          ∧ ((∀ e ∈ due, e.2.length = 1) → t.fire.stop = none ∧ d.due = due ∧ d.carried = due ∧ d.oversped = none
            ∧ t.get FIRE_OVERSPED_ROWS.COUNT = a.get FIRE_OVERSPED_ROWS.COUNT)
          ∧ (halts → t.fire.stop = some 2 ∧ d.due = [] ∧ d.carried = [])
          ∧ (¬halts → t.fire.stop = none ∧ d.due = due ∧ ∀ e ∈ due,
            (e.2.length = 1 ∨ rowPolicy a (e.2.headD 0) ≠ 1 → e ∈ d.carried)
            ∧ (1 < e.2.length → rowPolicy a (e.2.headD 0) = 1 → (e.1, e.2.take 1) ∈ d.carried ∧ e ∉ d.carried))))
  ∧ (∀ (s : State) (late : List (Fin 256)) (p : Page), armed s = true → s.fire.stop = none → s.is PAIR_STATUS.SWAP_WAIT = false → s.fire.atEnd = false →
      s.ing.pages = [p] → s.ing.landing = [] → s.ing.held = [] → p.stage = 0 → p.trigger = 0xFFFF → p.startAt = none → p.origin = none → placed s = true →
      s.pos.last.dir = b2n p.reverse →
    Gives (.fireDecision late) s fun t => t.get FIRE_LAST_START.PAGE = p.id % 2 ^ 16 ∧ t.get FIRE_LAST_START.LATE = 0 ∧ t.get FIRE_LAST_START.EARLY = 0
      ∧ (∃ p' ∈ t.ing.pages, p'.id = p.id ∧ p'.stage = 1 ∧ p'.origin = some (landing t (gridTime t t.fire.next)))
      ∧ (p.period = gridPeriod s → t.fire.next = s.fire.next + 1)
      ∧ (p.period ≠ gridPeriod s → p.period < 2 ^ 56 → -(2 ^ 87) ≤ gridTime s s.fire.next → gridTime s s.fire.next < 2 ^ 87 →
        gridPeriod t = p.period ∧ gridEpoch t = gridTime s s.fire.next ∧ t.fire.next = 1))
  ∧ (∀ (s : State) (d : Decided) (ds : List Decided), s.fire.decided = d :: ds → s.fire.takeover = none → Gives .fireInstant s fun t =>
      t.get FIRE_NUM.K = d.k % 2 ^ 64 ∧ t.fire.decided = ds ∧ t.fire.firedTo = advance d.due s.fire.firedTo
        ∧ t.fire.unacked = s.fire.unacked ++ ((d.packets.filter fun p => decide (hlState s p.head = 6)).map fun p => (p.head, d.k, headRows d.carried p.head))
        ∧ (s.fire.atEnd = false → t.fire.stop = s.fire.stop)
        ∧ (printing s = [] → SameMemory s t
          ∧ ∀ p : FirePacket, d.packets = [p] → hlState s p.head = 6 → d.oversped = none → ∃ mark : Nat, mark / 2 ^ 40 = 0x2D * 2 ^ 16 + d.k % 2 ^ 16
            ∧ t.tx = .head p.head (packetBlocks d.k 0 p ++ [mark]) :: s.tx))
  ∧ (∀ s : State, s.fire.decided = [] →
    (s.is HOOP_STATUS.OVERRIDE = false ∨ claimed s = false → Gives .fireInstant s fun t => t = s)
    ∧ (s.is HOOP_STATUS.OVERRIDE = true → claimed s = true → Gives .fireInstant s fun t =>
      t.get FIRE_NUM.K = s.pair.overrideNext % 2 ^ 64 ∧ t.pair.overrideNext = s.pair.overrideNext + 1 ∧ SameMemory s t
        ∧ t.fire.unacked = s.fire.unacked ++ (((liveHeads s).filter fun h => decide (hlState s h = 4 ∨ hlState s h = 6)).map fun h => (h, s.pair.overrideNext, []))))

/-- Waveform banks, fire delay taps and the choice of a fire packet (R343, R347, R348, R353, R354, R356, R358, R359, R363, R399). -/
def Obligations.WaveformsAndPackets : Prop :=
  (∀ (via : Ingress) (h : Hdr) (s : State), let ps := writeParams 0x900108 0x80000000; let m := s.get FIRE_WF_MASK.MASK
      let bad (x : Nat) := bankFault s x (1 - wfLive s x)
      let slow (x : Nat) : Prop := (armed s = true ∧ gridPeriod s < wfFloor s x (1 - wfLive s x) * 2 ^ 24)
        ∨ ∃ p ∈ livePages s, p.period < wfFloor s x (1 - wfLive s x) * 2 ^ 24
    (s.is FIRE_WF_STATUS.PENDING = true → Runs (.fireWfGo via h) via 2 h ps s stBusy fun _ t => t = actionState via 2 h ps s)
    ∧ (s.is FIRE_WF_STATUS.PENDING = false →
      (m = 0 → Runs (.fireWfGo via h) via 2 h ps s stBadParam fun _ t => t = actionState via 2 h ps s)
      ∧ (m ≠ 0 →
        (∀ (x c : Nat), x ∈ maskHeads m → bad x = some c → (∀ y ∈ maskHeads m, y < x → bad y = none) →
          Runs (.fireWfGo via h) via 2 h ps s stBadParam fun _ t => t.get FIRE_WF_STATUS.RESULT = 2 ∧ t.get FIRE_WF_STATUS.HEAD = x
            ∧ t.get FIRE_WF_STATUS.REASON = c ∧ t.get FIRE_WF_STATUS.PENDING = s.get FIRE_WF_STATUS.PENDING ∧ t.fire = s.fire ∧ SameMemory s t)
        ∧ ((∀ y ∈ maskHeads m, bad y = none) →
          (∀ x ∈ maskHeads m, slow x → (∀ y ∈ maskHeads m, y < x → ¬slow y) →
            Runs (.fireWfGo via h) via 2 h ps s stBadParam fun _ t => t.get FIRE_WF_STATUS.RESULT = 2 ∧ t.get FIRE_WF_STATUS.HEAD = x
              ∧ t.get FIRE_WF_STATUS.REASON = 6 ∧ t.fire = s.fire ∧ SameMemory s t)
          ∧ ((∀ x ∈ maskHeads m, ¬slow x) → Writes (.fireWfGo via h) via h 0x900108 0x80000000 s fun t =>
            t.get FIRE_WF_STATUS.PENDING = 1 ∧ t.fire.wfMask = m ∧ (∀ x < 64, wfLive t x = wfLive s x) ∧ SameMemory s t)))))
  ∧ (∀ s : State, s.on 2 = true →
    (armed s = true ∨ s.is FIRE_WF_STATUS.PENDING = false → Gives .waveformSwapEffect s fun t => t = s)
    ∧ (armed s = false → s.is FIRE_WF_STATUS.PENDING = true → Gives .waveformSwapEffect s fun t =>
      t.get FIRE_WF_STATUS.PENDING = 0 ∧ t.get FIRE_WF_STATUS.RESULT = 1 ∧ t.get FIRE_WF_SWAP_FIRE.K = 2 ^ 64 - 1
        ∧ t.get FIRE_WF_SWAPS.COUNT = min (s.get FIRE_WF_SWAPS.COUNT + 1) (2 ^ 32 - 1) ∧ SameMemory s t ∧ t.fire = s.fire
        ∧ (∀ x < 64, ∀ i < 64, t.get HL_WF.WORD x i = s.get HL_WF.WORD x i)
        ∧ ∀ x < 64,
          (bit s.fire.wfMask x = true → wfLive t x = 1 - wfLive s x ∧ t.get HL_WF_STATE.VALID x = 1 ∧ t.get HL_WF_STATE.FLOOR x = wfFloor s x (1 - wfLive s x) % 2 ^ 16)
          ∧ (bit s.fire.wfMask x = false → wfLive t x = wfLive s x ∧ t.get HL_WF_STATE.VALID x = s.get HL_WF_STATE.VALID x
            ∧ t.get HL_WF_STATE.FLOOR x = s.get HL_WF_STATE.FLOOR x)))
  ∧ (∀ (via : Ingress) (h : Hdr) (s : State) (x : Fin 64) (v : Word), Writes (.hlFireDelayWrite via h x v) via h (0xA00308 + 0x400 * x.val) v.toNat s fun t =>
      t.get HL_FIRE_DELAY.TAP x.val = v.toNat % 256 ∧ t.get CAL_HEAD_TAP.BASE x.val = v.toNat % 256 ∧ t.get CAL_HEAD_TAP.T_BASE x.val = wrap 16 (headMean s x.val)
        ∧ (∀ y < 64, y ≠ x.val → t.get HL_FIRE_DELAY.TAP y = s.get HL_FIRE_DELAY.TAP y) ∧ t.fire = s.fire ∧ SameMemory s t
        ∧ (s.cal.run = none → t.get HL_FIRE_DELAY.STALE x.val = s.get HL_FIRE_DELAY.STALE x.val ∧ t.cal = s.cal))
  ∧ (∀ (via : Ingress) (h : Hdr) (s : State) (x : Fin 64) (v : Word), let ps := writeParams (0xA00304 + 0x400 * x.val) v.toNat
    (bits v.toNat 7 0 = 0 ∨ bits v.toNat 29 28 = 3 → Runs (.hlWfCfgWrite via h x false v) via 2 h ps s stBadParam fun _ t => t = actionState via 2 h ps s)
    ∧ (bits v.toNat 7 0 ≠ 0 → bits v.toNat 29 28 ≠ 3 →
      (armed s = true → bits v.toNat 7 0 ≠ s.get HL_WF_CFG.DUTY_MAX x.val ∨ bits v.toNat 27 16 ≠ s.get HL_WF_CFG.GUARD x.val →
        Runs (.hlWfCfgWrite via h x false v) via 2 h ps s stBusy fun _ t => t = actionState via 2 h ps s)
      ∧ (armed s = false ∨ (bits v.toNat 7 0 = s.get HL_WF_CFG.DUTY_MAX x.val ∧ bits v.toNat 27 16 = s.get HL_WF_CFG.GUARD x.val) →
        Writes (.hlWfCfgWrite via h x false v) via h (0xA00304 + 0x400 * x.val) v.toNat s fun t => t.get HL_WF_CFG.DUTY_MAX x.val = bits v.toNat 7 0
          ∧ t.get HL_WF_CFG.GUARD x.val = bits v.toNat 27 16 ∧ t.get HL_WF_CFG.WHEY_MODE x.val = bits v.toNat 29 28 ∧ SameMemory s t)))
  ∧ (∀ (via : Ingress) (h : Hdr) (s : State) (x : Fin 64) (v : Word), s.get HL_WF_CFG.DUTY_MAX x.val ≠ 0 → s.get HL_WF_CFG.WHEY_MODE x.val ≠ 3 →
      let ps := writeParams (0xA00300 + 0x400 * x.val) v.toNat
    (armed s = true → bits v.toNat 11 0 ≠ s.get HL_WF_LIMIT.ON_MAX x.val ∨ bits v.toNat 27 16 ≠ s.get HL_WF_LIMIT.WHEY_MAX x.val →
      Runs (.hlWfCfgWrite via h x true v) via 2 h ps s stBusy fun _ t => t = actionState via 2 h ps s)
    ∧ (armed s = false ∨ (bits v.toNat 11 0 = s.get HL_WF_LIMIT.ON_MAX x.val ∧ bits v.toNat 27 16 = s.get HL_WF_LIMIT.WHEY_MAX x.val) →
      Writes (.hlWfCfgWrite via h x true v) via h (0xA00300 + 0x400 * x.val) v.toNat s fun t => t.get HL_WF_LIMIT.ON_MAX x.val = bits v.toNat 11 0
        ∧ t.get HL_WF_LIMIT.WHEY_MAX x.val = bits v.toNat 27 16 ∧ SameMemory s t))
  ∧ (∀ (s : State) (x b : Nat), b < 2 → (∀ e < 8, ∀ w ∈ wfEntry s x b e, bits w 29 28 = 0 ∧ bits w 15 10 = 0) →
      (∀ e < 8, ∀ w ∈ wfPulses s x b e, 16 ≤ wfWidth w ∧ wfStart w + wfMax w ≤ 4095) →
      (∀ e < 8, (wfPulses s x b e).Pairwise fun w w' => wfStart w < wfStart w' ∧ wfStart w + wfMax w + 20 ≤ wfStart w') →
      (∀ e < 8, 1 ≤ e → wfPulses s x b e ≠ []) → onTime s x b 0 ≤ s.get HL_WF_LIMIT.WHEY_MAX x → (∀ e < 8, onTime s x b e ≤ s.get HL_WF_LIMIT.ON_MAX x) →
    bankFault s x b = none)
  ∧ (∀ (s : State) (carried : List (Nat × List Nat)) (x : Nat), let p := firePacket s carried x; let mode := s.get HL_WF_CFG.WHEY_MODE x
    p.codes.length = 2048 ∧ p.wsel = wfLive s x ∧ p.tsel = s.get HL_WF_STATE.TSEL x ∧ p.tap = s.get HL_FIRE_DELAY.TAP x
      ∧ (∀ i < 4, bit p.due i = decide (mapGet [] carried (4 * x + i) ≠ [])
        ∧ bit p.whey i = (decide (mode = 2) || (decide (mode = 1) && decide (mapGet [] carried (4 * x + i) = [])))
        ∧ (mapGet [] carried (4 * x + i) = [] → ∀ n < 512, p.codes.getD (512 * i + n) 0 = 0))
      ∧ (∀ (k kind : Nat), (packetBlocks k kind p).length = 98))

/-- The states of a head link and what they exchange (R366 to R373, R378, R381, R383, Tables 13.1 and 13.5). -/
def Obligations.HeadLinkStates : Prop :=
  (∀ (via : Ingress) (h : Hdr) (s : State) (x : Fin 64) (v : Word), let ps := writeParams (0xA00000 + 0x400 * x.val) v.toNat
    (bit v.toNat 0 = false ∨ bit v.toNat 31 = true → hlBusy s x.val = true → Runs (.hlCtlEnWrite via h x v) via 2 h ps s stBusy fun _ t => t = actionState via 2 h ps s)
    ∧ (bit v.toNat 0 = false → hlBusy s x.val = false → Writes (.hlCtlEnWrite via h x v) via h (0xA00000 + 0x400 * x.val) v.toNat s fun t =>
      hlState t x.val = 0 ∧ t.get HL_CTL.EN x.val = 0 ∧ (1 ≤ hlState s x.val → t.get HL_STATUS.LAST_DOWN x.val = 1) ∧ SameMemory s t)
    ∧ (bit v.toNat 0 = true → bit v.toNat 31 = false → Writes (.hlCtlEnWrite via h x v) via h (0xA00000 + 0x400 * x.val) v.toNat s fun t =>
      hlState t x.val = (if hlState s x.val = 0 then 1 else hlState s x.val) ∧ t.get HL_CTL.EN x.val = 1 ∧ (∀ y < 64, y ≠ x.val → hlState t y = hlState s y) ∧ SameMemory s t))
  ∧ (∀ (via : Ingress) (h : Hdr) (s : State) (x : Fin 64) (v : Word), let ps := writeParams (0xA00000 + 0x400 * x.val) (v.toNat ||| 0x80000000)
    (hlBusy s x.val = true → Runs (.hlCtlRetrain via h x v) via 2 h ps s stBusy fun _ t => t = actionState via 2 h ps s)
    ∧ (hlBusy s x.val = false → bit v.toNat 0 = true → 1 ≤ hlState s x.val →
      Writes (.hlCtlRetrain via h x v) via h (0xA00000 + 0x400 * x.val) (v.toNat ||| 0x80000000) s fun t =>
        hlState t x.val = 1 ∧ t.get HL_STATUS.LAST_DOWN x.val = 4 ∧ SameMemory s t))
  ∧ (∀ (s : State) (x : Fin 64),
    (hlState s x.val = 0 → Gives (.hlLockHeld x) s fun t => t = s)
    ∧ (1 ≤ hlState s x.val → Gives (.hlLockHeld x) s fun t =>
      hlState t x.val = (if hlState s x.val = 1 then 2 else hlState s x.val) ∧ (s.get HL_STATUS.PRESENT x.val ≤ 1 → t.get HL_STATUS.PRESENT x.val = 1) ∧ SameMemory s t))
  ∧ (∀ m : Nat, let r := longestRun m; r.1 + r.2 ≤ 64 ∧ (∀ i, r.1 ≤ i → i < r.1 + r.2 → bit m i = true)
      ∧ ∀ a n : Nat, a + n ≤ 64 → (∀ i, a ≤ i → i < a + n → bit m i = true) → n ≤ r.2)
  ∧ (∀ (s : State) (x : Fin 64) (m : BitVec 64), let r := longestRun m.toNat
    (hlState s x.val ≠ 2 → Gives (.hlAlignDone x m) s fun t => t = s)
    ∧ (hlState s x.val = 2 → 16 ≤ r.2 → Gives (.hlAlignDone x m) s fun t => hlState t x.val = 3 ∧ t.get HL_RX_PHASE.EYE x.val = r.2 % 64
      ∧ t.get HL_RX_PHASE.TAP x.val = r.1 + (r.2 - 1) / 2 ∧ (t.head x.val).agreed = false ∧ (t.head x.val).idDone = false ∧ (t.head x.val).delays = []
      ∧ t.bitOf CAL_FIRST.FIRST x.val = false ∧ SameMemory s t)
    ∧ (hlState s x.val = 2 → r.2 < 16 → Gives (.hlAlignDone x m) s fun t => hlState t x.val = 1 ∧ t.get HL_STATUS.LAST_DOWN x.val = 5 ∧ t.get HL_RX_PHASE.EYE x.val = r.2 ∧ SameMemory s t))
  ∧ (∀ (s : State) (x : Fin 64),
    (hlState s x.val = 2 → Gives (.hlStateTimeout x) s fun t => hlState t x.val = 1 ∧ t.get HL_STATUS.LAST_DOWN x.val = 5 ∧ t.get HL_STATUS.VERSION x.val = 0 ∧ SameMemory s t)
    ∧ (hlState s x.val = 3 → s.get HL_ID_CHECK.MISMATCH x.val ≠ 1 → Gives (.hlStateTimeout x) s fun t =>
      hlState t x.val = 1 ∧ t.get HL_STATUS.LAST_DOWN x.val = 6 ∧ t.get HL_STATUS.VERSION x.val = 0 ∧ SameMemory s t)
    ∧ ((hlState s x.val ≠ 2 ∧ hlState s x.val ≠ 3) ∨ (hlState s x.val = 3 ∧ s.get HL_ID_CHECK.MISMATCH x.val = 1) → Gives (.hlStateTimeout x) s fun t => t = s))
  ∧ (∀ (s : State) (x : Fin 64),
    (hlState s x.val < 2 → Gives (.hlBlockLockLost x) s fun t => t = s)
    ∧ (2 ≤ hlState s x.val → Gives (.hlBlockLockLost x) s fun t =>
      hlState t x.val = 2 ∧ t.get HL_STATUS.LAST_DOWN x.val = 2 ∧ t.get HL_STATUS.VERSION x.val = 0 ∧ t.get HL_WF_STATE.TRIM_OK x.val = 0 ∧ SameMemory s t
        ∧ (hlState s x.val = 6 → x.val ∈ liveHeads s → armed s = true → s.fire.stop = none → t.fire.stop = some 6)))
  ∧ (∀ (s : State) (x : Fin 64), Gives (.hlLockNotRegained x) s fun t =>
      hlState t x.val = (if 2 ≤ hlState s x.val then 1 else hlState s x.val) ∧ (s.get HL_STATUS.PRESENT x.val ≤ 1 → t.get HL_STATUS.PRESENT x.val = 0) ∧ SameMemory s t)
  ∧ (∀ (s : State) (x : Fin 64) (f : HeadFrame), let b := headBytes f; let p := s.head x.val
    (hlState s x.val = 0 → Gives (.hlCapRx x f) s fun t => t = s)
    ∧ (hlState s x.val ≠ 0 → f.badHeaders = 0 → headTypes.contains (headType f) = false → Gives (.hlCapRx x f) s fun t =>
      t.get HL_TLM_ERR.COUNT x.val = min (s.get HL_TLM_ERR.COUNT x.val + 1) (2 ^ 32 - 1) ∧ hlState t x.val = hlState s x.val ∧ SameMemory s t)
    ∧ (hlState s x.val ≠ 0 → f.badHeaders ≠ 0 → headType f = 0x1E → Gives (.hlCapRx x f) s fun t =>
      t.get HL_SYNC_ERR.COUNT x.val = min (s.get HL_SYNC_ERR.COUNT x.val + f.badHeaders.toNat) (2 ^ 32 - 1) ∧ hlState t x.val = hlState s x.val ∧ SameMemory s t)
    ∧ (hlState s x.val = 3 → f.badHeaders = 0 → headType f = 0x78 → p.agreed = false →
      (beAt b 1 1 / 16 = 2 ∨ beAt b 1 1 / 16 = 3 → Gives (.hlCapRx x f) s fun t =>
        (t.head x.val).agreed = true ∧ t.get HL_STATUS.VERSION x.val = min 0x30 (beAt b 1 1)
          ∧ t.get HL_FEATURES.AGREED x.val = (if beAt b 1 1 < 0x30 then beAt b 2 2 % 2 else beAt b 2 2 % 8) ∧ hlState t x.val = 3 ∧ SameMemory s t)
      ∧ (beAt b 1 1 / 16 ≠ 2 → beAt b 1 1 / 16 ≠ 3 → Gives (.hlCapRx x f) s fun t =>
        (t.head x.val).agreed = false ∧ t.get HL_ID_CHECK.MISMATCH x.val = 1 ∧ t.get HL_STATUS.ID_OK x.val = 0 ∧ hlState t x.val = 3 ∧ SameMemory s t)))
  ∧ (∀ (s : State) (x : Fin 64),
    (hlState s x.val = 3 → s.get HL_ID_CHECK.MISMATCH x.val = 1 → Gives (.hlCapRetry x) s fun t => t.tx = .head x.val [0x7830000700000000] :: s.tx ∧ SameMemory s t ∧ t.regs = s.regs)
    ∧ (hlState s x.val ≠ 3 ∨ s.get HL_ID_CHECK.MISMATCH x.val ≠ 1 → Gives (.hlCapRetry x) s fun t => t = s)
    ∧ (3 ≤ hlState s x.val → hlState s x.val ≤ 6 → Gives (.hlEchoTimer x) s fun t =>
      t.tx = .head x.val [0x4B * 2 ^ 56 + (s.head x.val).echoId % 256 * 2 ^ 48] :: s.tx ∧ (t.head x.val).echo = some (s.head x.val).echoId
        ∧ (t.head x.val).echoId = ((s.head x.val).echoId + 1) % 256 ∧ t.regs = s.regs ∧ SameMemory s t)
    ∧ (hlState s x.val < 3 ∨ 6 < hlState s x.val → Gives (.hlEchoTimer x) s fun t => t = s))
  ∧ (∀ (s : State) (x : Fin 64) (f : HeadFrame) (trip : Word), let b := headBytes f; let p := s.head x.val
      let ds := (((trip.toNat : Int) - 4 * (beAt b 2 2 : Nat)) :: p.delays).take 16
      hlState s x.val ≠ 0 → f.badHeaders = 0 → headType f = 0x4B →
    (p.echo = some (beAt b 1 1) → trip.toNat ≤ 160000 → Gives (.hlEchoRspRx x f trip) s fun t =>
      (t.head x.val).delays = ds ∧ (t.get HL_DELAY.DELAY x.val : Int) = clampI (ds.foldl (· + ·) 0 / (2 * (ds.length : Int))) 0 65535
        ∧ (hlState s x.val ≠ 3 ∨ ds.length = 16 → (t.head x.val).echo = none) ∧ SameMemory s t)
    ∧ (p.echo ≠ some (beAt b 1 1) ∨ 160000 < trip.toNat → Gives (.hlEchoRspRx x f trip) s fun t => t = s))
  ∧ (∀ (s : State) (x : Fin 64) (f : HeadFrame), let b := headBytes f; let off := beAt b 1 2; let n := 8 * beAt b 3 1
      hlState s x.val = 3 → f.badHeaders = 0 → headType f = 0x55 → f.data.length = n → off + n ≤ 1024 → (s.head x.val).idDone = false → off ≤ (s.head x.val).copied →
      (s.head x.val).copied < 1024 → Gives (.hlIdDataRx x f) s fun t => hlState t x.val = 3 ∧ SameMemory s t
        ∧ (∀ i < n, mapGet 0 (t.head x.val).copy (off + i) = f.data.getD i 0) ∧ (∀ a, a < off ∨ off + n ≤ a → mapGet 0 (t.head x.val).copy a = mapGet 0 (s.head x.val).copy a)
        ∧ (off + n < 1024 → (t.head x.val).idDone = false ∧ t.regs = s.regs)
        ∧ (off + n = 1024 → (t.head x.val).idDone = true ∧ t.get HL_ID_SERIAL.SERIAL x.val = idField t x.val 8 8 ∧ t.get HL_ID_CHECK.MISMATCH x.val = idCheck t x.val
          ∧ t.is HL_STATUS.ID_OK x.val = decide (idCheck t x.val = 0)
          ∧ (idCheck t x.val = 0 → t.get HL_ID_EXPECT.EXPECT x.val = t.get HL_ID_SERIAL.SERIAL x.val ∨ t.get HL_ID_EXPECT.EXPECT x.val = s.get HL_ID_EXPECT.EXPECT x.val)))
  ∧ (∀ (s : State) (x : Fin 64), let p := s.head x.val
      let loaded := s.is NMAP_STATUS.TABLE = false ∨ (mapGet [] p.banks 0 = trimImage s (liveBase s) x.val ∧ mapGet [] p.banks 1 = trimImage s (liveBase s) x.val)
    (hlState s x.val = 3 → p.agreed = true → p.delays.length = 16 → p.idDone = true → loaded → Gives (.hlCapsComplete x) s fun t =>
      hlState t x.val = (if isStandby s then 7 else 4) ∧ (∀ y < 64, y ≠ x.val → hlState t y = hlState s y) ∧ SameMemory s t
        ∧ (s.bitOf CAL_FIRST.FIRST x.val = false → x.val ∈ t.cal.forced))
    ∧ (hlState s x.val ≠ 3 ∨ p.agreed = false ∨ p.delays.length ≠ 16 ∨ p.idDone = false ∨ ¬loaded → Gives (.hlCapsComplete x) s fun t => t = s))
  ∧ (∀ (via : Ingress) (h : Hdr) (s : State) (x : Fin 64) (v : Word), let ps := writeParams (0xA00050 + 0x400 * x.val) (v.toNat ||| 0x80000000)
    (s.get HL_ID_CHECK.MISMATCH x.val = 3 → Runs (.hlIdAccept via h x v) via 2 h ps s stOk fun _ t =>
      t.get HL_ID_EXPECT.EXPECT x.val = s.get HL_ID_SERIAL.SERIAL x.val % 2 ^ 64 ∧ t.get HL_ID_CHECK.MISMATCH x.val = 0 ∧ t.get HL_STATUS.ID_OK x.val = 1 ∧ SameMemory s t)
    ∧ (s.get HL_ID_CHECK.MISMATCH x.val ≠ 3 → Runs (.hlIdAccept via h x v) via 2 h ps s stBadParam fun _ t => t = actionState via 2 h ps s))
  ∧ (∀ (s : State) (x : Fin 64),
    (hlState s x.val = 7 → role s = 3 → Gives (.hlHoldExitIdleEnd x) s fun t =>
      hlState t x.val = (if armed s then 6 else 4) ∧ (∀ y < 64, y ≠ x.val → hlState t y = hlState s y) ∧ SameMemory s t)
    ∧ (hlState s x.val ≠ 7 ∨ role s ≠ 3 → Gives (.hlHoldExitIdleEnd x) s fun t => t = s))
  ∧ (∀ (s : State) (x : Fin 64) (f : HeadFrame), let b := headBytes f; let bank := beAt b 1 1 % 2; let seg := beAt b 2 1; let p := s.head x.val
      let left := p.sending.filter fun e => e.1 ≠ bank || e.2.1 ≠ seg
      hlState s x.val ≠ 0 → f.badHeaders = 0 → headType f = 0x66 →
    (beAt b 3 1 = 0 → Gives (.hlTrimAckRx x f) s fun t => (t.head x.val).sending = left ∧ SameMemory s t
      ∧ ((∃ i : List Byte, (bank, i) ∈ p.images) → (∀ e ∈ left, e.1 ≠ bank) → mapGet [] (t.head x.val).banks bank = mapGet [] p.images bank))
    ∧ (beAt b 3 1 ≠ 0 → Gives (.hlTrimAckRx x f) s fun t => (t.head x.val).sending = p.sending ∧ t.regs = s.regs ∧ SameMemory s t))
  ∧ (∀ (s : State) (x : Fin 64) (bank : Fin 2) (seg : Fin 4), let p := s.head x.val
    (∀ e : Nat × Nat × List Byte, p.sending = [e] → e.1 = bank.val → e.2.1 = seg.val → trimState s x.val = true → Gives (.hlTrimAckTimeout x bank seg) s fun t =>
      t.tx = .head x.val (trimFrame bank.val seg.val e.2.2) :: s.tx ∧ t.regs = s.regs ∧ t.hl = s.hl ∧ SameMemory s t)
    ∧ ((∀ e ∈ p.sending, e.1 ≠ bank.val ∨ e.2.1 ≠ seg.val) ∨ trimState s x.val = false → Gives (.hlTrimAckTimeout x bank seg) s fun t => t = s))

/-- Acknowledgements, temperatures and the element resistance measurement (R368, R377, R379, R380, R386 to R389). The formula of R388 is divided toward zero, as R15 has it. -/
def Obligations.HeadLinkTraffic : Prop :=
  (∀ (s : State) (x : Fin 64) (f : HeadFrame), let b := headBytes f; let mine := fun e : Nat × Nat × List Nat => decide (e.1 = x.val) && decide (e.2.1 % 65536 = beAt b 1 2)
      hlState s x.val ≠ 0 → f.badHeaders = 0 → headType f = 0x2D →
    (s.fire.unacked.find? mine = none → Gives (.hlAckRx x f) s fun t => t.fire = s.fire ∧ t.ing = s.ing ∧ SameMemory s t
      ∧ t.get HL_STATUS.CLAIM_SEEN x.val = (if bit (s.get HL_FEATURES.AGREED x.val) 2 then beAt b 4 1 % 4 else 0))
    ∧ (∀ e : Nat × Nat × List Nat, s.fire.unacked.find? mine = some e → Gives (.hlAckRx x f) s fun t =>
      t.fire.unacked = s.fire.unacked.erase e ∧ (t.head x.val).missed = 0 ∧ hlState t x.val = hlState s x.val ∧ SameMemory s t
        ∧ t.get HL_STATUS.CLAIM_SEEN x.val = (if bit (s.get HL_FEATURES.AGREED x.val) 2 then beAt b 4 1 % 4 else 0)
        ∧ (beAt b 3 1 = 0 → t.ing = s.ing ∧ t.fire.notFired = s.fire.notFired ∧ t.get HL_HCRC_FAIL.COUNT x.val = s.get HL_HCRC_FAIL.COUNT x.val
          ∧ t.get HL_MISSED.COUNT x.val = s.get HL_MISSED.COUNT x.val)
        ∧ (beAt b 3 1 = 1 → t.get HL_HCRC_FAIL.COUNT x.val = min (s.get HL_HCRC_FAIL.COUNT x.val + 1) (2 ^ 32 - 1) ∧ t.get HL_MISSED.COUNT x.val = s.get HL_MISSED.COUNT x.val)
        ∧ (2 ≤ beAt b 3 1 → t.get HL_MISSED.COUNT x.val = min (s.get HL_MISSED.COUNT x.val + 1) (2 ^ 32 - 1) ∧ t.get HL_HCRC_FAIL.COUNT x.val = s.get HL_HCRC_FAIL.COUNT x.val)
        ∧ (1 ≤ beAt b 3 1 → ∀ q ∈ e.2.2, bit (mapGet 0 t.fire.notFired q) x.val = true)))
  ∧ (∀ (s : State) (x : Fin 64), let mine := fun e : Nat × Nat × List Nat => decide (e.1 = x.val)
    (s.fire.unacked.find? mine = none → Gives (.hlAckTimeout x) s fun t => t = s)
    ∧ (∀ e : Nat × Nat × List Nat, s.fire.unacked.find? mine = some e → Gives (.hlAckTimeout x) s fun t =>
      t.get HL_MISSED.COUNT x.val = min (s.get HL_MISSED.COUNT x.val + 1) (2 ^ 32 - 1) ∧ t.fire.unacked = s.fire.unacked.erase e
        ∧ (∀ q ∈ e.2.2, bit (mapGet 0 t.fire.notFired q) x.val = true) ∧ SameMemory s t
        ∧ ((s.head x.val).missed + 1 < 8 → (t.head x.val).missed = (s.head x.val).missed + 1 ∧ hlState t x.val = hlState s x.val)
        ∧ (8 ≤ (s.head x.val).missed + 1 → 2 ≤ hlState s x.val → hlState t x.val = 2 ∧ t.get HL_STATUS.LAST_DOWN x.val = 3)))
  ∧ (∀ (s : State) (x : Fin 64) (f : HeadFrame), let b := headBytes f; let four := beAt b 1 1 = 4
      hlState s x.val ≠ 0 → f.badHeaders = 0 → headType f = 0x33 →
    (f.data.length ≠ 8 → Gives (.hlTempRx x f) s fun t => t.get HL_TLM_ERR.COUNT x.val = min (s.get HL_TLM_ERR.COUNT x.val + 1) (2 ^ 32 - 1)
      ∧ t.get HL_TEMP01.T0 x.val = s.get HL_TEMP01.T0 x.val ∧ SameMemory s t)
    ∧ (f.data.length = 8 → 3 ≤ hlState s x.val → Gives (.hlTempRx x f) s fun t =>
      t.get HL_TEMP01.T0 x.val = beAt f.data 0 2 ∧ t.get HL_TEMP01.T1 x.val = beAt f.data (if four then 2 else 0) 2
        ∧ t.get HL_TEMP23.T2 x.val = beAt f.data (if four then 4 else 0) 2 ∧ t.get HL_TEMP23.T3 x.val = beAt f.data (if four then 6 else 0) 2
        ∧ (headMax t x.val < s.getS HL_TEMP_CFG.CRIT x.val * 16 → (∀ y < 64, hlState t y = hlState s y) ∧ t.pair = s.pair ∧ SameMemory s t)))
  ∧ (∀ (via : Ingress) (h : Hdr) (s : State) (x : Fin 64) (v : Word), let ps := writeParams (0xA0001C + 0x400 * x.val) v.toNat
    (sext 8 (v.toNat / 256) < sext 8 v.toNat → Runs (.hlTempCfgWrite via h x v) via 2 h ps s stBadParam fun _ t => t = actionState via 2 h ps s)
    ∧ (sext 8 v.toNat ≤ sext 8 (v.toNat / 256) → Writes (.hlTempCfgWrite via h x v) via h (0xA0001C + 0x400 * x.val) v.toNat s fun t =>
      t.get HL_TEMP_CFG.CRIT x.val = v.toNat / 256 % 256 ∧ t.get HL_TEMP_CFG.WARN x.val = v.toNat % 256 ∧ (t.head x.val).warnArmed = true ∧ (t.head x.val).critArmed = true
        ∧ SameMemory s t))
  ∧ (∀ (via : Ingress) (h : Hdr) (s : State), let ps := writeParams 0xA10000 0x80000000; let hs := maskHeads (s.get HL_MEAS_MASK.MASK)
    (measRuns s = true ∨ armed s = true → Runs (.hlMeasGo via h) via 2 h ps s stBusy fun _ t => t = actionState via 2 h ps s)
    ∧ (measRuns s = false → armed s = false →
      (hs = [] ∨ (∃ x ∈ hs, hlState s x ≠ 4 ∨ bit (s.get HL_FEATURES.AGREED x) 0 = false) ∨ s.get HL_MEAS_ADDR.ADDR % 64 ≠ 0 →
        Runs (.hlMeasGo via h) via 2 h ps s stBadParam fun _ t => t = actionState via 2 h ps s)
      ∧ (measBadParam s = false → (measViol 0 s).isSome = true → Runs (.hlMeasGo via h) via 2 h ps s stDenied fun _ t => t.hl = s.hl ∧ t.get HL_MEAS_STATUS.RESULT = s.get HL_MEAS_STATUS.RESULT ∧ SameMemory s t)
      ∧ (measBadParam s = false → (measViol 0 s).isSome = false → Writes (.hlMeasGo via h) via h 0xA10000 0x80000000 s fun t =>
        t.get HL_MEAS_STATUS.RESULT = 1 ∧ (∀ x ∈ hs, hlState t x = 5) ∧ (∀ x < 64, x ∉ hs → hlState t x = hlState s x)
          ∧ t.hl.meas = { heads := hs, waiting := hs } ∧ SameMemory s t)))
  ∧ (∀ (via : Ingress) (h : Hdr) (s : State),
    (measRuns s = false → Writes (.hlMeasAbort via h) via h 0xA10000 0x40000000 s fun t => t = actionState via 2 h (writeParams 0xA10000 0x40000000) s)
    ∧ (measRuns s = true → Writes (.hlMeasAbort via h) via h 0xA10000 0x40000000 s fun t => t.get HL_MEAS_STATUS.RESULT = 3 ∧ SameMemory s t
      ∧ (isStandby s = false → ∀ x ∈ s.hl.meas.heads, x < 64 → hlState s x = 5 → hlState t x = 4)))
  ∧ (∀ (s : State) (settled : Bool),
    (measRuns s = false ∨ s.hl.meas.settled = true → Gives (.hlMeasSettleEnd settled) s fun t => t = s)
    ∧ (measRuns s = true → s.hl.meas.settled = false →
      (settled = true → Gives (.hlMeasSettleEnd settled) s fun t => t.hl.meas = { s.hl.meas with settled := true } ∧ t.regs = s.regs ∧ SameMemory s t
        ∧ (∀ x : Nat, s.hl.meas.heads = [x] → t.tx = .head x [0x8701000000000000] :: s.tx))
      ∧ (settled = false → Gives (.hlMeasSettleEnd settled) s fun t => t.get HL_MEAS_STATUS.RESULT = 4 ∧ SameMemory s t)))
  ∧ (∀ (s : State) (x : Fin 64) (f : HeadFrame), let b := headBytes f; let n := 4 * beAt b 5 1; let first := beAt b 3 2; let a := s.get HL_MEAS_ADDR.ADDR + 2 * (2048 * x.val + first)
      hlState s x.val = 5 → measRuns s = true → f.badHeaders = 0 → headType f = 0x87 → f.data.length = 2 * n → crc16 f.data = beAt b 6 2 →
    (beAt b 2 1 = 0 → bit (beAt b 1 1) 0 = false → first + n ≤ 2048 → 0x1000000000 ≤ s.get HL_MEAS_ADDR.ADDR → Gives (.hlMeasDataRx x f) s fun t =>
      SameBytesOutside a (2 * n) s t ∧ t.mram = s.mram ∧ t.get HL_MEAS_STATUS.RESULT = s.get HL_MEAS_STATUS.RESULT ∧ hlState t x.val = 5
        ∧ ∀ i < n, let m := 2048 * x.val + first + i; let out := s.is NMAP_STATUS.TABLE = true ∧ (isZero s (liveBase s) m = true ∨ nzMasked (nz s (liveBase s) m) = true)
          (out → t.le (a + 2 * i) 2 = 0xFFFE)
          ∧ (¬out → factoryOk s x.val = true → t.le (a + 2 * i) 2 = resAt25 (beAt f.data (2 * i) 2) (slotTemp s x.val ((first + i) / 512)) (sext 16 (idField s x.val 0x1C 2))))
    ∧ (bit (beAt b 1 1) 0 = true → s.hl.meas.waiting = [x.val] → Gives (.hlMeasDataRx x f) s fun t => t.get HL_MEAS_STATUS.RESULT = 2))

/-- Ripening: what falls due, how runs start, and how items end (R394 to R407, Table 14.2). What the item of a host write in a run does is R405's. -/
def Obligations.Ripening : Prop :=
  (∀ s : State, s.on 1 = true → Gives .calTempCheck s fun t => SameMemory s t ∧ t.cal = s.cal
      ∧ (∀ h < 64, t.bitOf CAL_DUE.DUE h = (s.bitOf CAL_DUE.DUE h || (calLink s h && calHeadMoved s h)))
      ∧ (∀ n < 4, t.bitOf CAL_DUE_POS.DUE n = (s.bitOf CAL_DUE_POS.DUE n || (calHasSincos s n && calChanMoved s n))))
  ∧ (∀ s : State, let hs := calAutoHeads s; let cs := calAutoChans s
    (s.cal.run ≠ none ∨ (hs = [] ∧ cs = []) ∨ s.on 1 = false → Gives .calAutoRunStart s fun t => t = s)
    ∧ (s.cal.run = none → hs ≠ [] ∨ cs ≠ [] → s.on 1 = true → Gives .calAutoRunStart s fun t => t.get CAL_STATUS.RUNNING = 1 ∧ t.get CAL_STATUS.AUTO = 1 ∧ SameMemory s t
      ∧ ∃ r : CalRun, t.cal.run = some r ∧ r.byCmd = false ∧ r.forced = none
        ∧ (∀ (c h : Nat), c < 3 → ((∃ i ∈ r.items, i.code = c ∧ i.idx = h) ↔ bit (s.get CAL_CTL.AUTO_EN) c = true ∧ h ∈ hs))
        ∧ (∀ n : Nat, (∃ i ∈ r.items, i.code = 3 ∧ i.idx = n) ↔ n ∈ cs)))
  ∧ (∀ s : State,
    (s.cal.forced = [] ∨ s.cal.run ≠ none ∨ s.on 1 = false → Gives .calForcedRunStart s fun t => t = s)
    ∧ (∀ (h : Nat) (rest : List Nat), s.cal.forced = h :: rest → h < 64 → s.cal.run = none → s.on 1 = true → Gives .calForcedRunStart s fun t =>
      t.get CAL_STATUS.RUNNING = 1 ∧ t.get CAL_STATUS.LEFT = 3 ∧ t.cal.forced = rest ∧ t.get HL_FIRE_DELAY.STALE h = 1 ∧ t.get HL_RX_PHASE.STALE h = 1 ∧ SameMemory s t
        ∧ ∃ r : CalRun, t.cal.run = some r ∧ r.forced = some h ∧ r.items.map (fun i => (i.code, i.idx, i.free)) = [(0, h, true), (1, h, true), (2, h, true)]))
  ∧ (∀ (via : Ingress) (h : Hdr) (ps : List Byte) (s : State), let heads := beAt ps 0 8; let chans := beAt ps 8 1; let items := beAt ps 9 1
      let some_ := (∃ c < 3, bit items c = true ∧ ∃ x < 64, bit heads x = true) ∨ (bit items 3 = true ∧ ∃ n < 4, bit chans n = true)
    (s.cal.run ≠ none → Runs (.calRun via h ps) via 0x40 h ps s stBusy fun _ t => t = actionState via 0x40 h ps s)
    ∧ (s.cal.run = none → items = 0 ∨ (heads = 0 ∧ chans = 0) ∨ (∃ x < 64, bit heads x = true ∧ calLink s x = false) ∨ (∃ n < 8, bit chans n = true ∧ calHasSincos s n = false) →
      Runs (.calRun via h ps) via 0x40 h ps s stBadParam fun _ t => t = actionState via 0x40 h ps s)
    ∧ (s.cal.run = none → items ≠ 0 → heads ≠ 0 ∨ chans ≠ 0 → (∀ x < 64, bit heads x = true → calLink s x = true) → (∀ n < 8, bit chans n = true → calHasSincos s n = true) →
      Runs (.calRun via h ps) via 0x40 h ps s stOk fun _ t => SameMemory s t
        ∧ (some_ → t.get CAL_STATUS.RUNNING = 1 ∧ t.get CAL_STATUS.AUTO = 0 ∧ (∀ x < 64, bit heads x = true → bit items 0 = true → t.get HL_FIRE_DELAY.STALE x = 1)
          ∧ ∃ r : CalRun, t.cal.run = some r ∧ r.byCmd = true
            ∧ (∀ (c x : Nat), c < 3 → ((∃ i ∈ r.items, i.code = c ∧ i.idx = x) ↔ bit items c = true ∧ x < 64 ∧ bit heads x = true))
            ∧ (∀ n : Nat, (∃ i ∈ r.items, i.code = 3 ∧ i.idx = n) ↔ bit items 3 = true ∧ n < 4 ∧ bit chans n = true))
        ∧ (¬some_ → t.cal.run = none ∧ t.get CAL_STATUS.RUNNING = 0 ∧ t.get CAL_RUNS.COUNT = min (s.get CAL_RUNS.COUNT + 1) (2 ^ 32 - 1))))
  ∧ (∀ (s : State) (c : Fin 4) (x : Fin 64) (agree : BitVec 64),
      (s.cal.run = none ∨ (∀ r : CalRun, s.cal.run = some r → ∀ i ∈ r.items, i.code ≠ c.val ∨ i.idx ≠ x.val)) → Gives (.calItemEnd c x agree) s fun t => t = s)
  ∧ (∀ (s : State) (c : Fin 4) (x : Fin 64) (agree : BitVec 64) (r : CalRun), s.cal.run = some r → (∃ i ∈ r.items, i.code = c.val ∧ i.idx = x.val) →
      let left := r.items.filter fun i => decide (i.code ≠ c.val) || decide (i.idx ≠ x.val)
    Gives (.calItemEnd c x agree) s fun t => SameMemory s t
      ∧ (left ≠ [] → t.get CAL_STATUS.LEFT = left.length % 256 ∧ ∃ r' : CalRun, t.cal.run = some r' ∧ r'.items = left)
      ∧ (left = [] → t.cal.run = none ∧ t.get CAL_STATUS.RUNNING = 0 ∧ t.get CAL_RUNS.COUNT = min (s.get CAL_RUNS.COUNT + 1) (2 ^ 32 - 1)
        ∧ ∀ h ∈ r.heads, h < 64 → t.bitOf CAL_DUE.DUE h = false)
      ∧ (∀ h < 64, r.forced = some h → (∀ i ∈ left, i.idx ≠ h) → t.bitOf CAL_FIRST.FIRST h = true))
  ∧ (∀ (s : State) (x : Fin 64) (agree : BitVec 64) (r : CalRun) (i : CalItem), s.cal.run = some r → r.items.find? (fun j => decide (j.code = 0) && decide (j.idx = x.val)) = some i →
      let ts := calTemps r x.val
      let q8 := tapQ8 (s.get CAL_HEAD_TAP.BASE x.val) (tdiv (ts.foldl (· + ·) 0) 4) (s.getS CAL_HEAD_TAP.T_BASE x.val) (s.getS CAL_HEAD_MODEL.TC x.val)
    Gives (.calItemEnd 0 x agree) s fun t => t.get CAL_HEAD_TAP.BASE x.val = s.get CAL_HEAD_TAP.BASE x.val
      ∧ (i.ended = true → t.get CAL_HEAD_RES.FIRE_R x.val = 3 ∧ t.get HL_FIRE_DELAY.TAP x.val = s.get HL_FIRE_DELAY.TAP x.val)
      ∧ (i.ended = false → t.get HL_FIRE_DELAY.STALE x.val = 0
        ∧ (tapOf q8 < 0 ∨ 255 < tapOf q8 → t.get CAL_HEAD_RES.FIRE_R x.val = 2 ∧ t.get CAL_HEAD_RES.REASON x.val = 1 ∧ t.get HL_FIRE_DELAY.TAP x.val = s.get HL_FIRE_DELAY.TAP x.val
          ∧ t.get CAL_REJECTS.COUNT = min (s.get CAL_REJECTS.COUNT + 1) (2 ^ 32 - 1))
        ∧ (0 ≤ tapOf q8 → tapOf q8 ≤ 255 →
          ((i.free = false ∧ s.get CAL_LIMIT_HEAD.TAP_STEP < (tapOf q8 - (s.get HL_FIRE_DELAY.TAP x.val : Int)).natAbs) →
            t.get CAL_HEAD_RES.FIRE_R x.val = 2 ∧ t.get CAL_HEAD_RES.REASON x.val = 2 ∧ t.get HL_FIRE_DELAY.TAP x.val = s.get HL_FIRE_DELAY.TAP x.val)
          ∧ ((i.free = true ∨ (tapOf q8 - (s.get HL_FIRE_DELAY.TAP x.val : Int)).natAbs ≤ s.get CAL_LIMIT_HEAD.TAP_STEP) →
            (calNoTemp s x.val = true → t.get CAL_HEAD_RES.FIRE_R x.val = 2 ∧ t.get CAL_HEAD_RES.REASON x.val = 5 ∧ t.get HL_FIRE_DELAY.TAP x.val = s.get HL_FIRE_DELAY.TAP x.val)
            ∧ (calNoTemp s x.val = false → t.get CAL_HEAD_RES.FIRE_R x.val = 1 ∧ (t.get HL_FIRE_DELAY.TAP x.val : Int) = tapOf q8)))))
  ∧ (∀ (s : State) (x : Fin 64) (agree : BitVec 64) (r : CalRun) (i : CalItem), s.cal.run = some r → r.items.find? (fun j => decide (j.code = 1) && decide (j.idx = x.val)) = some i →
      let run := longestRun agree.toNat; let tap := run.1 + (run.2 - 1) / 2
      1 ≤ run.2 → i.ended = false →
    (s.get CAL_LIMIT_HEAD.MIN_EYE ≤ run.2 → i.left = false → i.free = true ∨ ((tap : Int) - s.get HL_RX_PHASE.TAP x.val).natAbs ≤ s.get CAL_LIMIT_HEAD.PHASE_STEP →
      Gives (.calItemEnd 1 x agree) s fun t => t.get HL_RX_PHASE.TAP x.val = tap ∧ t.get HL_RX_PHASE.EYE x.val = run.2 % 64 ∧ t.get HL_RX_PHASE.STALE x.val = 0
        ∧ t.get CAL_HEAD_RES.PHASE_R x.val = 1)
    ∧ (run.2 < s.get CAL_LIMIT_HEAD.MIN_EYE ∨ i.left = true → Gives (.calItemEnd 1 x agree) s fun t =>
      t.get HL_RX_PHASE.TAP x.val = s.get HL_RX_PHASE.TAP x.val ∧ t.get HL_RX_PHASE.EYE x.val = s.get HL_RX_PHASE.EYE x.val ∧ t.get CAL_HEAD_RES.PHASE_R x.val = 2))
  ∧ (∀ (s : State) (x : Fin 64) (agree : BitVec 64) (r : CalRun) (i : CalItem), s.cal.run = some r → r.items.find? (fun j => decide (j.code = 2) && decide (j.idx = x.val)) = some i →
      i.ended = false → s.get CAL_HEAD_MODEL.RNOM x.val ≠ 0 → factoryOk s x.val = true →
      let rnom := s.get CAL_HEAD_MODEL.RNOM x.val
      let trims := (calNozzles s x.val).map fun n => (n, trimOf ((calResult s n).getD rnom) ((calTemps r x.val).getD (n % 2048 / 512) 0) (sext 16 (idField s x.val 0x1C 2)) rnom)
    ((∃ e ∈ trims, e.2 < -32 ∨ 31 < e.2) → Gives (.calItemEnd 2 x agree) s fun t =>
      t.get CAL_HEAD_RES.TRIM_R x.val = 2 ∧ t.get CAL_HEAD_RES.REASON x.val = 1 ∧ t.nmap = s.nmap)
    ∧ ((∀ e ∈ trims, -32 ≤ e.2 ∧ e.2 ≤ 31 ∧ (i.free = true ∨ (e.2 - liveTrim s e.1).natAbs ≤ s.get CAL_LIMIT_HEAD.TRIM_STEP)) → calNoTemp s x.val = false → followsTable s = false →
      Gives (.calItemEnd 2 x agree) s fun t => t.get CAL_HEAD_RES.TRIM_R x.val = 1
        ∧ ((∀ e ∈ trims, e.2 = liveTrim s e.1) → t.nmap = s.nmap)
        ∧ ((∃ e ∈ trims, e.2 ≠ liveTrim s e.1) → mapGet [] t.nmap.trims x.val = calImage s x.val trims)))
  ∧ (∀ (s : State) (n : Fin 64) (agree : BitVec 64) (r : CalRun) (i : CalItem), n.val < 4 → s.cal.run = some r → r.items.find? (fun j => decide (j.code = 3) && decide (j.idx = n.val)) = some i →
      i.ended = false → (s.chan n.val).samples = none → Gives (.calItemEnd 3 n agree) s fun t => t.get CAL_POS_RES.SC_R n.val = 4 ∧ (t.chan n.val).coef = (s.chan n.val).coef
        ∧ mapGet 0 t.cal.notBefore n.val = s.time.raw + 1000000000 ∧ t.get CAL_REJECTS.COUNT = s.get CAL_REJECTS.COUNT)

/-- The camera ports and the image pipeline (R412 to R436, Tables 15.1, 15.2 and 15.7). The exactness of srgb8 is R429's; where a repeated Frame Start finds no group to join is log entry 1503. -/
def Obligations.Cameras : Prop :=
  (∀ (via : Ingress) (h : Hdr) (s : State) (c : Fin 4) (v : Word), let a := 0xC00000 + 0x4000 * c.val; let ps := writeParams a v.toNat
      let dt := bits v.toNat 21 16; let en := bit v.toNat 0
      let moved : Prop := dt ≠ s.get CAM_CTL.DT c.val ∨ bits v.toNat 15 12 ≠ s.get CAM_CTL.VC c.val ∨ bits v.toNat 11 8 ≠ s.get CAM_CTL.LANE_INV c.val ∨ bits v.toNat 2 1 ≠ s.get CAM_CTL.LANES c.val
      let bad : Prop := dt < 0x2A ∨ 0x2E < dt ∨ bits v.toNat 2 1 = 2
      let busy : Prop := (s.is CAM_CTL.EN c.val = true ∧ moved) ∨ (en = true ∧ (s.camPort c.val).taken = false)
    (bad → Runs (.camCtlWrite via h c v) via 2 h ps s stBadParam fun _ t => t = actionState via 2 h ps s)
    ∧ (¬bad → busy → Runs (.camCtlWrite via h c v) via 2 h ps s stBusy fun _ t => t = actionState via 2 h ps s)
    ∧ (¬bad → ¬busy → Writes (.camCtlWrite via h c v) via h a v.toNat s fun t => SameMemory s t
      ∧ t.get CAM_CTL.DT c.val = dt ∧ t.get CAM_CTL.VC c.val = bits v.toNat 15 12 ∧ t.get CAM_CTL.LANE_INV c.val = bits v.toNat 11 8 ∧ t.get CAM_CTL.LANES c.val = bits v.toNat 2 1
      ∧ t.is CAM_CTL.EN c.val = en ∧ (∀ d < 4, d ≠ c.val → t.camPort d = s.camPort d)
      ∧ (en = true → s.is CAM_CTL.EN c.val = false → t.camPort c.val = { s.camPort c.val with nextFrame := 0, posted := 0 })
      ∧ (en = false → t.camPort c.val = { s.camPort c.val with groups := [], dropped := [], trigs := [] } ∧ t.get CAM_STATUS.STATE c.val = 0 ∧ t.get CAM_STATUS.LEVEL c.val = 0)))
  ∧ (∀ (via : Ingress) (h : Hdr) (s : State) (c : Fin 4) (v : Word), let a := 0xC00030 + 0x4000 * c.val; let w := v.toNat ||| 0x80000000; let ps := writeParams a w
      let r := commitReason s c.val
    (s.is ISP_COMMIT.COMMIT c.val = true → Runs (.ispCommit via h c v) via 2 h ps s stBusy fun _ t => t = actionState via 2 h ps s)
    ∧ (s.is ISP_COMMIT.COMMIT c.val = false → r ≠ 0 → Runs (.ispCommit via h c v) via 2 h ps s (if r = 7 then stDenied else stBadParam) fun _ t =>
      t.get ISP_COMMIT.REASON c.val = r ∧ t.is ISP_COMMIT.COMMIT c.val = false ∧ t.cam = s.cam ∧ SameMemory s t)
    ∧ (s.is ISP_COMMIT.COMMIT c.val = false → r = 0 → Writes (.ispCommit via h c v) via h a w s fun t =>
      t.get ISP_COMMIT.COMMIT c.val = 1 ∧ t.cam = s.cam ∧ SameMemory s t))
  ∧ (∀ (s : State) (c : Fin 4),
    (s.is ISP_COMMIT.COMMIT c.val = false ∨ s.is CAM_CTL.EN c.val = true → Gives (.ispShadowTaken c) s fun t => t = s)
    ∧ (s.is ISP_COMMIT.COMMIT c.val = true → s.is CAM_CTL.EN c.val = false → Gives (.ispShadowTaken c) s fun t =>
      t.get ISP_COMMIT.COMMIT c.val = 0 ∧ t.get ISP_COMMITS.COUNT c.val = min (s.get ISP_COMMITS.COUNT c.val + 1) (2 ^ 32 - 1) ∧ (t.camPort c.val).taken = true
        ∧ (t.camPort c.val).setNo = t.get ISP_COMMITS.COUNT c.val ∧ (t.camPort c.val).groups = (s.camPort c.val).groups ∧ SameMemory s t
        ∧ ∀ (F : Fld) (j : Nat), shadowed c.val (F.key c.val j) = true → (activeSet t c.val).get F j = s.get F c.val j))
  ∧ (∀ (s : State) (c : Fin 4) (u : Bool), Gives (.camUlpsChange c u) s fun t => SameMemory s t ∧ t.cam = s.cam
      ∧ (s.is CAM_CTL.EN c.val = false → t = s) ∧ (s.is CAM_CTL.EN c.val = true → t.is CAM_STATUS.ULPS c.val = u))
  ∧ (∀ (s : State) (c : Fin 4) (pk : CsiPacket), s.is CAM_CTL.EN c.val = false → Gives (.csiPacketRx c pk) s fun t => t = s)
  ∧ (∀ (s : State) (c : Fin 4), s.is CAM_CTL.EN c.val = true →
    (Gives (.csiPacketRx c .badHeader) s fun t => t.get CAM_ECC_ERR.COUNT c.val = min (s.get CAM_ECC_ERR.COUNT c.val + 1) (2 ^ 32 - 1) ∧ t.cam = s.cam ∧ SameMemory s t)
    ∧ (∀ (ch : BitVec 4) (dt : BitVec 6) (f : BitVec 16) (px : List (BitVec 16)) (ok : Bool), let vc := s.get CAM_CTL.VC c.val; let e := ch.toNat - vc; let gs := (s.camPort c.val).groups
        let out : Prop := ch.toNat < vc ∨ (vc + (activeSet s c.val).exposures ≤ ch.toNat ∧ ∀ g ∈ gs, vc + g.exps.length ≤ ch.toNat)
        let counted (t : State) : Prop := t.get CAM_DISCARD.COUNT c.val = min (s.get CAM_DISCARD.COUNT c.val + 1) (2 ^ 32 - 1) ∧ t.cam = s.cam ∧ SameMemory s t
      (out → Gives (.csiPacketRx c (.short ch dt f)) s counted ∧ Gives (.csiPacketRx c (.long ch dt px ok)) s counted)
      ∧ (dt.toNat ≠ s.get CAM_CTL.DT c.val → Gives (.csiPacketRx c (.long ch dt px ok)) s counted)
      ∧ (¬out → channelOpen s c.val e = false → Gives (.csiPacketRx c (.short ch 1 f)) s counted ∧ Gives (.csiPacketRx c (.long ch dt px ok)) s counted)
      ∧ (¬out → 0 < e → gs = [] → (s.camPort c.val).dropped = [] → Gives (.csiPacketRx c (.short ch 0 f)) s counted)
      ∧ (¬out → Gives (.csiPacketRx c (.short ch 2 f)) s (fun t => t.cam = s.cam ∧ t.get CAM_DISCARD.COUNT c.val = s.get CAM_DISCARD.COUNT c.val ∧ SameMemory s t)
        ∧ Gives (.csiPacketRx c (.short ch 3 f)) s (fun t => t.cam = s.cam ∧ t.get CAM_DISCARD.COUNT c.val = s.get CAM_DISCARD.COUNT c.val ∧ SameMemory s t))))
  ∧ (∀ (s : State) (c : Fin 4) (ch : BitVec 4) (f : BitVec 16), let p := s.camPort c.val
      let within (k : CamTrig) : Prop := k.time ≤ s.now ∧ s.now ≤ k.time + 1000 * s.get CAM_CFG.TRIG_WIN c.val
      s.is CAM_CTL.EN c.val = true → ch.toNat = s.get CAM_CTL.VC c.val → 1 ≤ (activeSet s c.val).exposures → channelOpen s c.val 0 = false →
    Gives (.csiPacketRx c (.short ch 0 f)) s fun t => SameMemory s t ∧ (t.camPort c.val).nextFrame = (p.nextFrame + 1) % 2 ^ 32
      ∧ ∃ g : CamGroup, (t.camPort c.val).groups = p.groups ++ [g] ∧ g.frame = p.nextFrame ∧ g.fn = f.toNat ∧ g.flags = 0 ∧ g.born = s.time.raw ∧ g.fifo = [] ∧ g.merged = []
        ∧ frameOpen g 0 = decide (1 ≤ g.exps.length) ∧ (∃ d ≤ 40, g.fs = wrap 64 ((s.now : Int) + d - 20))
        ∧ (∀ k, g.trig = some k → k ∈ p.trigs ∧ within k ∧ (t.camPort c.val).trigs.length < p.trigs.length) ∧ (g.trig = none → ∀ k ∈ p.trigs, ¬within k)
        ∧ (s.is ISP_COMMIT.COMMIT c.val = true ∧ twoSets s c.val = false → t.get ISP_COMMIT.COMMIT c.val = 0 ∧ g.setNo = t.get ISP_COMMITS.COUNT c.val
          ∧ t.get ISP_COMMITS.COUNT c.val = min (s.get ISP_COMMITS.COUNT c.val + 1) (2 ^ 32 - 1)
          ∧ ∀ (F : Fld) (j : Nat), shadowed c.val (F.key c.val j) = true → (groupSet c.val g).get F j = s.get F c.val j)
        ∧ (s.is ISP_COMMIT.COMMIT c.val = false ∨ twoSets s c.val = true → g.set = p.active ∧ g.setNo = p.setNo))
  ∧ (∀ (s : State) (c : Fin 4) (ch : BitVec 4) (dt : BitVec 6) (px : List (BitVec 16)) (ok : Bool) (g : CamGroup), let p := groupSet c.val g; let l := (groupExp g 0).lines
      s.is CAM_CTL.EN c.val = true → ch.toNat = s.get CAM_CTL.VC c.val → dt.toNat = s.get CAM_CTL.DT c.val → (s.camPort c.val).groups = [g] → g.exps.length = 1 → frameOpen g 0 = true →
    (l < p.height → g.missing = [] → fifoTight s c.val g = false → Gives (.csiPacketRx c (.long ch dt px ok)) s fun t => SameMemory s t
      ∧ t.get CAM_LINE_ERR.COUNT c.val = (if px.length = p.width then s.get CAM_LINE_ERR.COUNT c.val else min (s.get CAM_LINE_ERR.COUNT c.val + 1) (2 ^ 32 - 1))
      ∧ t.get CAM_CRC_ERR.COUNT c.val = (if ok then s.get CAM_CRC_ERR.COUNT c.val else min (s.get CAM_CRC_ERR.COUNT c.val + 1) (2 ^ 32 - 1))
      ∧ ∃ (g' : CamGroup) (line : List Nat), (t.camPort c.val).groups = [g'] ∧ g'.fifo = g.fifo ++ [(0, l, line)] ∧ (groupExp g' 0).lines = l + 1
        ∧ g'.flags = g.flags ||| (if px.length = p.width then 0 else 4) ||| (if ok then 0 else 8) ∧ line.length = p.width
        ∧ ∀ x < p.width, line.getD x 0 = (match px[x]? with | some r => if ok then r.toNat * 2 ^ (16 - rawBits dt.toNat) % 65536 else p.get ISP_FRAME.FILL | none => p.get ISP_FRAME.FILL))
    ∧ (l < p.height → g.missing = [] → fifoTight s c.val g = true → (∀ d < 4, d ≠ c.val → (s.camPort d).groups = []) → Gives (.csiPacketRx c (.long ch dt px ok)) s fun t => SameMemory s t
      ∧ (t.camPort c.val).groups = [] ∧ (t.camPort c.val).posted = (s.camPort c.val).posted ∧ t.get CAM_DROPS.COUNT c.val = min (s.get CAM_DROPS.COUNT c.val + 1) (2 ^ 32 - 1)
      ∧ t.get CAM_STATUS.STATE c.val = 3 ∧ t.get CAM_STATUS.LEVEL c.val = 0)
    ∧ (p.height ≤ l → Gives (.csiPacketRx c (.long ch dt px ok)) s fun t => SameMemory s t
      ∧ ∃ g' : CamGroup, (t.camPort c.val).groups = [g'] ∧ g'.fifo = g.fifo ∧ g'.flags = g.flags ||| 2 ∧ (groupExp g' 0).lines = l + 1))
  ∧ (∀ (s : State) (c : Fin 4) (ch : BitVec 4) (dt : BitVec 6) (px : List (BitVec 16)) (g : CamGroup), let p := groupSet c.val g; let l := (groupExp g 0).lines
      let lag := p.get ISP_MERGE.STAGGER + 1; let i := l - lag
      s.is CAM_CTL.EN c.val = true → ch.toNat = s.get CAM_CTL.VC c.val → dt.toNat = s.get CAM_CTL.DT c.val → (s.camPort c.val).groups = [g] → g.exps.length = 2 → frameOpen g 0 = true →
      l < p.height → g.missing = [] → fifoTight s c.val g = false → lag ≤ l → (groupExp g 1).lines ≤ i → (groupExp g 1).ended = false →
    Gives (.csiPacketRx c (.long ch dt px true)) s fun t => SameMemory s t ∧ ∃ g' : CamGroup, (t.camPort c.val).groups = [g'] ∧ g'.missing = [(1, i)] ∧ bit g'.flags 5 = true
      ∧ (groupExp g' 1).lines = (groupExp g 1).lines)
  ∧ (∀ (s : State) (c : Fin 4) (e : Fin 3) (ch : BitVec 4) (f : BitVec 16) (g : CamGroup), let p := groupSet c.val g; let n := (groupExp g e.val).lines
      let after (byEnd : Bool) (t : State) : Prop := ∃ g' ∈ (t.camPort c.val).groups, g'.frame = g.frame ∧ (groupExp g' e.val).ended = true ∧ (groupExp g' e.val).lines = n
        ∧ g'.flags = g.flags ||| (if n < p.height then 1 else 0) ||| (if byEnd then 0 else 16) ∧ (byEnd = true → ∃ d ≤ 40, g'.fe = some (wrap 64 ((s.now : Int) + d - 20)))
        ∧ (∀ i < p.height, n ≤ i → g.missing.contains (e.val, i) = false → (e.val, i, List.replicate p.width (p.get ISP_FRAME.FILL)) ∈ g'.fifo)
      s.is CAM_CTL.EN c.val = true → openGroup (s.camPort c.val).groups e.val = some g → g.merged.length ≠ p.height →
    (ch.toNat = s.get CAM_CTL.VC c.val + e.val → Gives (.csiPacketRx c (.short ch 1 f)) s (after true)) ∧ Gives (.camFrameTimeout c e) s (after false)
      ∧ (ch.toNat = s.get CAM_CTL.VC c.val → e.val = 0 → Gives (.csiPacketRx c (.short ch 0 f)) s (after false)))
  ∧ (∀ (s : State) (c : Fin 4) (e : Fin 3), s.is CAM_CTL.EN c.val = false ∨ channelOpen s c.val e.val = false → Gives (.camFrameTimeout c e) s fun t => t.cam = s.cam ∧ SameMemory s t)
  ∧ (∀ (s : State) (c : Nat) (g : CamGroup), newestGroup s = some (c, g) → c < 4 ∧ g ∈ (s.camPort c).groups
      ∧ ∀ c' < 4, ∀ g' ∈ (s.camPort c').groups, g'.born ≤ g.born ∧ (g'.born = g.born → c' ≤ c))
  ∧ (∀ s : State, nextReady s = none → Gives .ispLineProcessed s fun t => t = s)
  ∧ (∀ (s : State) (c : Nat) (g : CamGroup) (raws : List (List Nat)), let p := groupSet c g; let i := g.merged.length; let slot := (s.camPort c).posted % p.slots
      nextReady s = some (c, g, raws) → Gives .ispLineProcessed s fun t => t.cam.turn = c
      ∧ (∀ x, (∀ o < 4, memKey x < slotStart p o slot ∨ slotStart p o slot + slotSize p o ≤ memKey x) → t.byte x = s.byte x)
      ∧ (i + 1 < p.height → (t.camPort c).posted = (s.camPort c).posted
        ∧ ∃ g' : CamGroup, (t.camPort c).groups.head? = some g' ∧ g'.merged = g.merged ++ [fixDefects p i (mergeLine p raws)] ∧ (∀ f ∈ g'.fifo, f.2.1 ≠ i) ∧ ∀ f ∈ g.fifo, f.2.1 ≠ i → f ∈ g'.fifo)
      ∧ (i + 1 = p.height → groupEnded g = true → (s.camPort c).groups = [g] → (t.camPort c).groups = [] ∧ (t.camPort c).posted = (s.camPort c).posted + 1
        ∧ t.get CAM_FRAMES.COUNT c = min (s.get CAM_FRAMES.COUNT c + 1) (2 ^ 32 - 1)))
  ∧ (∀ (s : State) (c : Nat) (g : CamGroup) (raws : List (List Nat)), nextReady s = some (c, g, raws) →
      ∀ d : Nat, 1 ≤ d → d < (if c ≤ s.cam.turn % 4 then 4 + c - s.cam.turn % 4 else c - s.cam.turn % 4) →
        ∀ g' : CamGroup, (s.camPort ((s.cam.turn + d) % 4)).groups.head? = some g' → readyLine ((s.cam.turn + d) % 4) g' = none)
  ∧ (∀ (p : IspSet) (raw : Nat), (∀ i < 4096, p.get ISP_LUT.ENTRY i = 16 * i) → raw ≤ 65520 → linPixel p raw = raw)
  ∧ (∀ (p : IspSet) (l : List Nat), (∀ x ∈ l, x < 65536) → 16 ≤ p.get ISP_RATIO.RATIO1 → 16 ≤ p.get ISP_RATIO.RATIO2 → mergePixel p l < 2 ^ 20)
  ∧ (∀ v < 65536, srgb8 v ≤ 255 ∧ (srgb8 v = 0 ∨ srgbAtLeast v (srgb8 v) = true) ∧ (srgb8 v = 255 ∨ srgbAtLeast v (srgb8 v + 1) = false))

/-- The nozzle-health analyser (R440 to R463). That a write of EN that does not change it starts no baseline period is log entry 1610. -/
def Obligations.NozzleHealth : Prop :=
  (∀ (via : Ingress) (h : Hdr) (ps : List Byte) (s : State), Runs (.inspectSet via h ps) via 0x48 h ps s stOk fun _ t => SameMemory s t
      ∧ t.is NHA_CTL.EN = bit (beAt ps 0 4) 0 ∧ t.is NHA_CTL.NOMASK = bit (beAt ps 0 4) 1 ∧ t.get NHA_HEAD_MASK.MASK = beAt ps 4 8 ∧ t.nha.sums = s.nha.sums
      ∧ (bit (beAt ps 0 4) 2 = true → t.get NHA_STATUS.BASELINE = 0 ∧ t.get NHA_STATUS.BASE_SEEN = 0 ∧ ∀ n : Nat, baselineOf t n = 256)
      ∧ (bit (beAt ps 0 4) 2 = false → t.nha = s.nha ∧ t.get NHA_STATUS.BASELINE = s.get NHA_STATUS.BASELINE))
  ∧ (∀ (via : Ingress) (h : Hdr) (s : State) (c : Fin 8) (v : Word), let loc : Bool := decide (c.val < 4); let r := c.val - 4
      let a := if loc then 0xD00100 + 0x80 * c.val else 0xD00500 + 0x20 * r; let ps := writeParams a v.toNat
      let now := if loc then s.get NHA_CAM_CFG.EN c.val else s.get NHA_RSRC_CFG.EN r; let en := if loc then bit v.toNat 0 else bit v.toNat 15
      let moved : Prop := if loc then bits v.toNat 31 16 ≠ s.get NHA_CAM_CFG.LPITCH c.val % 65536 ∨ bits v.toNat 2 2 ≠ s.get NHA_CAM_CFG.DIR c.val % 2
        else bits v.toNat 31 16 ≠ s.get NHA_RSRC_CFG.LPITCH r % 65536 ∨ bits v.toNat 14 14 ≠ s.get NHA_RSRC_CFG.DIR r % 2 ∨ bits v.toNat 13 12 ≠ s.get NHA_RSRC_CFG.PORT r % 4 ∨ bits v.toNat 9 0 ≠ s.get NHA_RSRC_CFG.NODE r % 1024
      let busy : Prop := (now = 1 ∧ moved) ∨ (b2n en ≠ now ∧ armed s = true)
      now ≤ 1 →
    (busy → Runs (.nhaSourceEnWrite via h c v) via 2 h ps s stBusy fun _ t => t = actionState via 2 h ps s)
    ∧ (¬busy → Writes (.nhaSourceEnWrite via h c v) via h a v.toNat s fun t => SameMemory s t ∧ srcOn t c.val = en
      ∧ srcPitch t c.val = sext 16 (bits v.toNat 31 16) ∧ srcRev t c.val = (if loc then bit v.toNat 2 else bit v.toNat 14)
      ∧ (loc = false → t.get NHA_RSRC_CFG.PORT r = bits v.toNat 13 12 ∧ t.get NHA_RSRC_CFG.NODE r = bits v.toNat 9 0)
      ∧ (b2n en ≠ now → t.get NHA_STATUS.BASELINE = 0 ∧ ∀ n : Nat, baselineOf t n = 256) ∧ (b2n en = now → t.nha = s.nha)))
  ∧ (∀ (s : State) (c : Fin 4),
    ((s.camPort c.val).waiting = [] → Gives (.nhaGroupAnalyse c) s fun t => t = s)
    ∧ (∀ (w : CamPost) (rest : List CamPost), (s.camPort c.val).waiting = w :: rest →
      let set : IspSet := { port := c.val, set := w.set }
      let aside : Prop := w.trig = none ∨ w.flags % 256 ≠ 0 ∨ planesHeld s c.val set = false
      (aside → Gives (.nhaGroupAnalyse c) s fun t => (t.camPort c.val).waiting = rest ∧ t.nha = s.nha ∧ t.get NHA_LATE.COUNT = s.get NHA_LATE.COUNT
        ∧ t.get NHA_SKIPPED.COUNT = min (s.get NHA_SKIPPED.COUNT + 1) (2 ^ 32 - 1))
      ∧ (¬aside → w.late = true → Gives (.nhaGroupAnalyse c) s fun t => (t.camPort c.val).waiting = rest ∧ t.nha = s.nha ∧ t.get NHA_SKIPPED.COUNT = s.get NHA_SKIPPED.COUNT
        ∧ t.get NHA_LATE.COUNT = min (s.get NHA_LATE.COUNT + 1) (2 ^ 32 - 1))
      ∧ (¬aside → w.late = false → rangeViol s 5 0 0 0 (slotStart set 2 w.slot) (slotSize set 2) = none → Gives (.nhaGroupAnalyse c) s fun t =>
        (t.camPort c.val).waiting = rest ∧ t.get NHA_SKIPPED.COUNT = s.get NHA_SKIPPED.COUNT ∧ t.get NHA_LATE.COUNT = s.get NHA_LATE.COUNT ∧ t.nha.next = s.nha.next
          ∧ ∀ (w n : Nat), (sumsOf s w n).nd ≤ (sumsOf t w n).nd ∧ (sumsOf s w n).sm ≤ (sumsOf t w n).sm)))
  ∧ (∀ (s : State) (c : Nat) (dark : Nat → Nat) (p : Page) (r col x : Nat), let q := p.base + r; let b := (rowBank s q).1; let t := addSample c dark p r col x s
    (printingNozzle s b col r = none → t = s)
    ∧ (∀ n : Nat, printingNozzle s b col r = some n → let k := expectedCode s p b col r; let u := sumsOf s (q / 512) n; let v := sumsOf t (q / 512) n
      v.se = u.se + volume s k ∧ v.sm = u.sm + dark x ∧ v.nd = u.nd + b2n (k ≠ 0) ∧ u.ni ≤ v.ni ∧ v.ni ≤ u.ni + b2n (k ≠ 0)
        ∧ (∀ (w m : Nat), m < 131072 → (w, m) ≠ (q / 512, n) → sumsOf t w m = sumsOf s w m) ∧ t.regs = s.regs ∧ SameMemory s t))
  ∧ (∀ (s : State) (e : Nat), 1 ≤ e → e ≤ 8 → (exclude e s).get NHA_EXCL.COUNT = min (s.get NHA_EXCL.COUNT + 1) (2 ^ 32 - 1) ∧ (exclude e s).get NHA_EXCL_REASON.LAST = e ∧ (exclude e s).nha = s.nha)
  ∧ (∀ (s : State) (cell : List Byte), let src := beAt cell 2 2 % 1024; let d := cell.drop 8; let part := beAt d 17 1; let i := part % 128
    (beAt d 0 1 ≠ 1 ∨ s.is NHA_CTL.EN = false ∨ remoteSource s src (beAt d 1 1 % 4) = none → Gives (.nozzleReportRx cell) s fun t => t = s)
    ∧ (∀ (r : Nat) (g : Nat × NhaGroup) (b : NhaBlock), beAt d 0 1 = 1 → s.is NHA_CTL.EN = true → remoteSource s src (beAt d 1 1 % 4) = some r →
        s.nha.groups.find? (fun e => e.1 = r) = some g → g.2.frame = beAt d 10 4 → s.nha.blocks.find? (fun b => b.source = r && b.bseq = beAt d 2 2) = some b →
        let more : NhaBlock := { b with
          cells := b.cells ++ [(i, beAt d 18 2, (List.range (beAt d 20 1)).map fun k => beAt d (24 + 2 * k) 2)]
          last := if 128 ≤ part then some i else b.last }
      (b.ended = true → Gives (.nozzleReportRx cell) s fun t => t = s)
      ∧ (b.ended = false → (b.cells.any fun e => e.1 = i) = true → Gives (.nozzleReportRx cell) s fun t => t.get NHA_LATE.COUNT = min (s.get NHA_LATE.COUNT + 1) (2 ^ 32 - 1)
        ∧ t.nha.sums = s.nha.sums ∧ (∀ x ∈ t.nha.blocks, x.source = b.source → x.bseq = b.bseq → x.ended = true) ∧ SameMemory s t)
      ∧ (b.ended = false → (b.cells.any fun e => e.1 = i) = false → blockWhole more = false → Gives (.nozzleReportRx cell) s fun t => more ∈ t.nha.blocks ∧ t.nha.sums = s.nha.sums ∧ t.regs = s.regs ∧ SameMemory s t)
      ∧ (b.ended = false → (b.cells.any fun e => e.1 = i) = false → blockWhole more = true →
        (historyAt s (fullTime s b.expo) = none → Gives (.nozzleReportRx cell) s fun t => t.get NHA_LATE.COUNT = min (s.get NHA_LATE.COUNT + 1) (2 ^ 32 - 1) ∧ t.nha.sums = s.nha.sums)
        ∧ (historyAt s (fullTime s b.expo) ≠ none → Gives (.nozzleReportRx cell) s fun t => t.get NHA_RSRC_BLOCKS.COUNT r = min (s.get NHA_RSRC_BLOCKS.COUNT r + 1) (2 ^ 32 - 1)
          ∧ t.get NHA_LATE.COUNT = s.get NHA_LATE.COUNT ∧ ∀ (w n : Nat), (sumsOf s w n).nd ≤ (sumsOf t w n).nd))))
  ∧ (∀ (s : State) (r : Fin 4) (q : BitVec 16), let found := s.nha.blocks.find? fun b => b.source = r.val && b.bseq = q.toNat && !b.ended
    (found = none → Gives (.nhaReportTimeout r q) s fun t => t = s)
    ∧ (found ≠ none → Gives (.nhaReportTimeout r q) s fun t => t.get NHA_LATE.COUNT = min (s.get NHA_LATE.COUNT + 1) (2 ^ 32 - 1) ∧ t.nha.sums = s.nha.sums
      ∧ (∀ x ∈ t.nha.blocks, x.source = r.val → x.bseq = q.toNat → x.ended = true) ∧ SameMemory s t))
  ∧ (∀ (s : State) (r : Fin 4) (q : BitVec 48), (pageOfRow s q.toNat = none → Gives (.nhaRwaitExpiry r q) s fun t => t = s)
    ∧ (∀ p : Page, pageOfRow s q.toNat = some p → let n := rowsPassed p (posQ16 s s.pos.last s.now) (farLine s (r.val + 4))
      (n ≤ (q.toNat : Int) - p.base → Gives (.nhaRwaitExpiry r q) s fun t => t = s)
      ∧ ((q.toNat : Int) - p.base < n → Gives (.nhaRwaitExpiry r q) s fun t => mapGet 0 t.nha.passed r.val = max (q.toNat + 1) (mapGet 0 s.nha.passed r.val) ∧ t.nha.sums = s.nha.sums)))
  ∧ (∀ s : State, let u := nhaReadBack s
    (windowReady u = false → Gives .nhaWindowClose s fun t => t = u ∧ t.nha = s.nha)
    ∧ (windowReady u = true → Gives .nhaWindowClose s fun t => t.nha.next = s.nha.next + 1 ∧ t.get NHA_WINDOWS.COUNT = min (s.get NHA_WINDOWS.COUNT + 1) (2 ^ 32 - 1)
      ∧ (∀ n < 131072, sumsOf t s.nha.next n = {}) ∧ (∀ n < 131072, nzMasked (nz u (liveBase u) n) = true → t.get NHA_NOZ.CLASS n = s.get NHA_NOZ.CLASS n)
      ∧ t.get NHA_SUSPECTS.COUNT = ((List.range 131072).filter fun n => t.get NHA_NOZ.STREAK n ≠ 0).length))
  ∧ (∀ (s : State) (w n c g : Nat), n < 131072 → let x := sumsOf s w n; let k := classify s x (ratioQ8 x.sm x.se g (baselineOf s n)); let t := judgeNozzle w n c g s
      let due : Bool := max 1 (s.get NHA_CTL.CONFIRM) ≤ t.get NHA_NOZ.STREAK n && s.is NHA_STATUS.BASELINE && !s.is NHA_CTL.NOMASK && s.bitOf NHA_HEAD_MASK.MASK (n / 2048) && !s.nha.queued.contains n
      t.get NHA_NOZ.CLASS n = k.1 ∧ (k.1 = clsUnseen → t.get NHA_NOZ.STREAK n = s.get NHA_NOZ.STREAK n)
      ∧ (k.1 = clsMissing ∨ (k.1 = clsWeak ∧ s.is NHA_CTL.MASK_WEAK = true) ∨ (k.1 = clsDeviated ∧ s.is NHA_CTL.MASK_DEV = true) → t.get NHA_NOZ.STREAK n = min (s.get NHA_NOZ.STREAK n + 1) 15)
      ∧ (k.1 = clsHealthy ∨ (k.1 = clsWeak ∧ s.is NHA_CTL.MASK_WEAK = false) ∨ (k.1 = clsDeviated ∧ s.is NHA_CTL.MASK_DEV = false) → t.get NHA_NOZ.STREAK n = 0)
      ∧ (∀ m < 131072, m ≠ n → t.get NHA_NOZ.STREAK m = s.get NHA_NOZ.STREAK m ∧ t.get NHA_NOZ.CLASS m = s.get NHA_NOZ.CLASS m)
      ∧ (due = true → t.get NHA_MASKS.COUNT = min (s.get NHA_MASKS.COUNT + 1) (2 ^ 32 - 1) ∧ n ∈ t.nha.queued
        ∧ (followsTable s = false → s.nmap.queue.length < 1024 → t.nmap.queue = s.nmap.queue ++ [(n, 2)]))
      ∧ (due = false → t.get NHA_MASKS.COUNT = s.get NHA_MASKS.COUNT ∧ t.nmap = s.nmap))
  ∧ (∀ (s : State) (x : NhaSum) (r : Nat), let miss := s.get NHA_TH.MISS_TH; let weak := s.get NHA_TH.WEAK_TH; let conf (m : Nat) : Nat := min 255 (x.nd * m / 256)
      let is (k m : Nat) : Prop := classify s x r = (if conf m < s.get NHA_CTL.CONF_MIN then clsUnseen else k, conf m)
      let off : Bool := max 1 (s.get NHA_MIN.MIN_ISO) ≤ x.ni && s.get NHA_TH.DEV_TH < (deviation x).natAbs
    (x.nd < max 1 (s.get NHA_MIN.MIN_DROPS) → (classify s x r).1 = clsUnseen)
    ∧ (max 1 (s.get NHA_MIN.MIN_DROPS) ≤ x.nd → (r < miss → is clsMissing (miss - r)) ∧ (miss ≤ r → r < weak → is clsWeak (min (r - miss) (weak - r)))
      ∧ (miss ≤ r → weak ≤ r → (off = false → is clsHealthy (r - weak)) ∧ (off = true → is clsDeviated ((deviation x).natAbs - s.get NHA_TH.DEV_TH)))))
  ∧ (∀ s : State, let some_ := ∃ c < 4, (s.camPort c).waiting ≠ []
    (some_ → Gives .nhaLagTimeout s fun t => t = s.put NHA_STATUS.LAG 1) ∧ (¬some_ → Gives .nhaLagTimeout s fun t => t = s))
  ∧ (∀ (s : State) (c : Nat), c < 8 → srcOn s c = true → farLine s c ≤ 256 * ((dCam s : Int) + tblDab s (liveBase s)))

/-- The redundant pair (R468 to R473, R475, R476, R479, R480, R483, Tables 17.1, 17.2 and 17.4). That the order of refusals of a write is that of this statement is log entry 1706. -/
def Obligations.PairRoles : Prop :=
  (∀ (via : Ingress) (h : Hdr) (s : State) (v : Word) (claim release : Bool),
      let w := v.toNat ||| (if claim then 0x80000000 else if release then 0x40000000 else 0); let ps := writeParams 0xE00000 w
      bit w 31 = claim → bit w 30 = release →
      let c : Instr := if claim then .pairCtlClaim via h v else if release then .pairCtlRelease via h v else .pairCtlEnWrite via h v
      let r := role s; let en := bit w 0; let active : Prop := r = 2 ∨ r = 3 ∨ r = 4; let moved : Prop := en ≠ s.is PAIR_CTL.EN ∨ bit w 1 ≠ s.is PAIR_CTL.MEMBER
      let st := if en = true ∧ s.get HOOP_CFG.HOLD = 0xFF then stBadParam else if moved ∧ (armed s = true ∨ active) then stBusy
        else if claim = true ∧ (active ∨ s.is PAIR_STATUS.PEER_CLAIM = true ∨ s.pow.testmode = true) then stBusy else if release = true ∧ r ≠ 3 then stBusy else stOk
      let rest := if r = 0 ∧ en = true then 1 else if r = 1 ∧ en = false then 0 else r
    (st ≠ stOk → Runs c via 2 h ps s st fun _ t => t = actionState via 2 h ps s)
    ∧ (st = stOk → Runs c via 2 h ps s stOk fun _ t => SameMemory s t ∧ t.is PAIR_CTL.EN = en ∧ t.is PAIR_CTL.MEMBER = bit w 1 ∧ t.is PAIR_CTL.AUTO = bit w 5 ∧ t.is PAIR_CTL.FWD = bit w 6 ∧ t.is PAIR_CTL.TABLE_SYNC = bit w 7
      ∧ (claim = true → release = false ∧ role t = 2 ∧ t.pair.guardFrom = rest ∧ t.pair.guardAuto = false ∧ t.get PAIR_STATUS.OWN_CLAIM = s.get PAIR_STATUS.OWN_CLAIM)
      ∧ (release = true → role t = (if en then 1 else 0) ∧ claimed t = false ∧ t.get PAIR_STATUS.SWAP_WAIT = 0 ∧ (armed s = true → s.fire.stop = none → t.fire.stop = some 5))
      ∧ (claim = false → release = false → role t = rest ∧ t.get PAIR_STATUS.OWN_CLAIM = s.get PAIR_STATUS.OWN_CLAIM ∧ t.fire = s.fire)))
  ∧ (∀ s : State,
    (role s ≠ 2 ∨ s.pair.peerLow = true → Gives .pairGuardPass s fun t => t = s)
    ∧ (role s = 2 → s.pair.peerLow = false → Gives .pairGuardPass s fun t => role t = 3 ∧ t.get PAIR_STATUS.OWN_CLAIM = 1 ∧ t.get PAIR_TAKEOVERS.COUNT = min (s.get PAIR_TAKEOVERS.COUNT + 1) (2 ^ 32 - 1)
      ∧ t.get PAIR_LAST_TAKE.T = s.now % 2 ^ 48 ∧ SameMemory s t
      ∧ (armed s = true → t.fire.standby = false ∧ t.fire.takeover = some (s.pair.releasedAt, beAt s.pair.peer 2 1, s.pair.guardAuto))
      ∧ (armed s = false → t.get PAIR_LAST_GAP.FIRES = 0 ∧ t.fire = s.fire)))
  ∧ (∀ (s : State) (low : Bool),
    (low = s.pair.peerLow → Gives (.ownPeerNChange low) s fun t => t = s)
    ∧ (low ≠ s.pair.peerLow → s.on 1 = false → Gives (.ownPeerNChange low) s fun t => t = { s with pair := { s.pair with peerLow := low } })
    ∧ (s.pair.peerLow = false → s.on 1 = true → Gives (.ownPeerNChange true) s fun t => t.pair.peerLow = true ∧ t.get PAIR_STATUS.PEER_CLAIM = 1 ∧ SameMemory s t
      ∧ (role s = 2 → s.pair.guardFrom ≤ 1 → role t = s.pair.guardFrom ∧ t.get PAIR_STATUS.OWN_CLAIM = s.get PAIR_STATUS.OWN_CLAIM)
      ∧ (role s = 3 → s.is PAIR_CTL.MEMBER = true → role t = (if s.is PAIR_CTL.EN then 1 else 0) ∧ claimed t = false ∧ (armed s = true → s.fire.stop = none → t.fire.stop = some 5))
      ∧ (role s = 3 → s.is PAIR_CTL.MEMBER = false → role t = 3 ∧ t.get PAIR_STATUS.OWN_CLAIM = s.get PAIR_STATUS.OWN_CLAIM ∧ t.fire = s.fire)
      ∧ (role s ≠ 2 → role s ≠ 3 → role t = role s ∧ t.fire = s.fire))
    ∧ (s.pair.peerLow = true → s.on 1 = true → Gives (.ownPeerNChange false) s fun t => t.pair.peerLow = false ∧ t.get PAIR_STATUS.PEER_CLAIM = 0 ∧ t.pair.releasedAt = s.now ∧ SameMemory s t
      ∧ (role s = 1 → t.get PAIR_STATUS.WATCH = 0
        ∧ (role t = 2 ↔ s.is PAIR_CTL.AUTO = true ∧ s.is PAIR_STATUS.WATCH = true ∧ heardLately s = true ∧ s.pair.stepAt = true)
        ∧ (role t = 2 → t.pair.guardFrom = 1 ∧ t.pair.guardAuto = true) ∧ (role t ≠ 2 → role t = 1))
      ∧ (role s ≠ 1 → role t = role s)))
  ∧ (∀ s : State, Gives .pairWatchStart s fun t => SameMemory s t ∧ role t = role s ∧ (role s = 1 → s.pair.peerLow = true → t.get PAIR_STATUS.WATCH = 1) ∧ (role s ≠ 1 ∨ s.pair.peerLow = false → t = s))
  ∧ (∀ s : State,
    (role s = 3 → s.pair.peerLow = true → s.is PAIR_CTL.MEMBER = false → Gives .pairConflictTimeout s fun t => role t = (if s.is PAIR_CTL.EN then 1 else 0) ∧ claimed t = false ∧ SameMemory s t
      ∧ (armed s = true → s.fire.stop = none → t.fire.stop = some 5))
    ∧ (role s ≠ 3 ∨ s.pair.peerLow = false ∨ s.is PAIR_CTL.MEMBER = true → Gives .pairConflictTimeout s fun t => t = s))
  ∧ (∀ s : State, Gives .pairHbSend s fun t => SameMemory s t ∧ role t = role s ∧ t.fire = s.fire
      ∧ (role s = 1 → t.get PAIR_STATUS.OOS = oosNow s ∧ (t.is PAIR_STATUS.IN_STEP = true ↔ oosNow s = 0)) ∧ (role s ≠ 1 → hasPeer s = false → t = s))
  ∧ (∀ s : State, Gives .pairHbLoss s fun t => SameMemory s t ∧ role t = role s ∧ t.get PAIR_STATUS.PEER_IN_STEP = 0
      ∧ (t.pair.lost = true ↔ s.pair.lost = true ∨ ((role s = 1 ∨ role s = 3) ∧ s.on 1 = true)))
  ∧ (∀ (s : State) (cell : List Byte), let src := beAt cell 2 2 % 1024; let seq := beAt cell 6 2; let b := cell.drop 8; let kind := beAt b 0 1; let gap : Prop := ∃ e, s.pair.seq = some e ∧ e ≠ seq
    (s.on 1 = false → Gives (.pairSyncRx cell) s fun t => t = s)
    ∧ (s.on 1 = true → src ≠ s.get PAIR_PEER.NODE ∨ kind = 0 ∨ 3 < kind → Gives (.pairSyncRx cell) s fun t =>
      t.get PAIR_SYNC_ERR.COUNT = min (s.get PAIR_SYNC_ERR.COUNT + 1) (2 ^ 32 - 1) ∧ t.pair = s.pair ∧ SameMemory s t)
    ∧ (s.on 1 = true → src = s.get PAIR_PEER.NODE → kind = 1 → Gives (.pairSyncRx cell) s fun t => SameMemory s t ∧ t.pair.heard = some s.time.raw ∧ t.pair.peer = b ∧ t.pair.lost = false ∧ role t = role s
      ∧ t.pair.seq = some ((seq + 1) % 65536) ∧ t.get PAIR_STATUS.PEER_IN_STEP = (if role s = 3 then bits (beAt b 1 1) 4 4 else 0)
      ∧ (role s = 1 → t.pair.oosAt = t.get PAIR_STATUS.OOS ∧ (t.pair.stepAt = true ↔ t.get PAIR_STATUS.OOS = 0) ∧ (t.is PAIR_STATUS.IN_STEP = true ↔ t.get PAIR_STATUS.OOS = 0)))
    ∧ (s.on 1 = true → src = s.get PAIR_PEER.NODE → kind = 2 → role s ≠ 1 → Gives (.pairSyncRx cell) s fun t => t = { s with pair := { s.pair with seq := some ((seq + 1) % 65536) } })
    ∧ (s.on 1 = true → src = s.get PAIR_PEER.NODE → kind = 3 → role s = 1 → s.is PAIR_CTL.TABLE_SYNC = true → ∀ n : Nat, s.pair.bankIn = some n →
      let off := beAt b 4 4; let data := b.drop 8
      (¬gap → 0 < off → off = n → n + data.length < 0x100000 → Gives (.pairSyncRx cell) s fun t => t.pair.bankIn = some (n + data.length) ∧ t.regs = s.regs
        ∧ (∀ i < data.length, t.byte (spareBase s + n + i) = data.getD i 0) ∧ SameBytesOutside (spareBase s + n) data.length s t)
      ∧ (0 < off → gap ∨ off ≠ n ∨ 0x100000 < off + data.length → Gives (.pairSyncRx cell) s fun t => t.pair.bankIn = none ∧ t.pair.reqBank = true ∧ t.get NMAP_STATUS.SPARE = 0 ∧ SameMemory s t)))
  ∧ (∀ (via : Ingress) (h : Hdr) (ps : List Byte) (s : State), let f := beAt ps 0 4; let busy : Prop := s.is PAIR_STATUS.SWAP_WAIT = true ∨ (s.is PAIR_STATUS.PEER_IN_STEP = false ∧ bit f 1 = false)
    (role s ≠ 3 → Runs (.pairSwap via h ps) via 0x68 h ps s stNotOwner fun _ t => t = actionState via 0x68 h ps s)
    ∧ (role s = 3 → busy → Runs (.pairSwap via h ps) via 0x68 h ps s stBusy fun _ t => t = actionState via 0x68 h ps s)
    ∧ (role s = 3 → ¬busy → bit f 0 = true ∨ armed s = false → Runs (.pairSwap via h ps) via 0x68 h ps s stOk fun _ t =>
      role t = (if s.is PAIR_CTL.EN then 1 else 0) ∧ claimed t = false ∧ SameMemory s t ∧ (armed s = true → s.fire.stop = none → t.fire.stop = some 5))
    ∧ (role s = 3 → ¬busy → bit f 0 = false → armed s = true → Runs (.pairSwap via h ps) via 0x68 h ps s stOk fun _ t => t.get PAIR_STATUS.SWAP_WAIT = 1 ∧ role t = 3 ∧ t.fire = s.fire ∧ SameMemory s t))

/-- The Hoop (R485 to R488, Tables 17.6 and 17.7). -/
def Obligations.Hoop : Prop :=
  (let acted (c : Nat) (s t : State) : Prop := t.bitOf HOOP_STATUS.LATCHED c = true ∧ (∀ d < 8, d ≠ c → t.bitOf HOOP_STATUS.LATCHED d = s.bitOf HOOP_STATUS.LATCHED d) ∧ SameMemory s t
      ∧ (latched s ≠ 0 → role t = role s ∧ t.fire = s.fire ∧ t.get PAIR_STATUS.OWN_CLAIM = s.get PAIR_STATUS.OWN_CLAIM)
      ∧ (latched s = 0 → role t = 4 ∧ t.get HOOP_STATUS.ACTED = 1 ∧ t.get HOOP_TIME.T = s.now % 2 ^ 48 ∧ t.pair.holding = true ∧ t.get PAIR_STATUS.SWAP_WAIT = 0
        ∧ (armed s = true → t.get HOOP_STATUS.OVERRIDE = 1 ∧ (s.fire.stop = none → t.fire.stop = some 4))
        ∧ (s.get HOOP_CFG.HOLD = 0 → claimed t = false) ∧ (s.get HOOP_CFG.HOLD ≠ 0 → t.get PAIR_STATUS.OWN_CLAIM = s.get PAIR_STATUS.OWN_CLAIM));
    (∀ (s : State) (c : Fin 2),
      (s.on 1 = false ∨ s.get HOOP_CFG.WDOG = 0 → Gives (.hoopWdogExpiry c) s fun t => t = s)
      ∧ (s.on 1 = true → s.get HOOP_CFG.WDOG ≠ 0 → s.is HOOP_CFG.DEBUG = true → armed s = false → Gives (.hoopWdogExpiry c) s fun t =>
        latched t = latched s ∧ role t = role s ∧ t.pair = s.pair ∧ t.fire = s.fire ∧ SameMemory s t)
      ∧ (s.on 1 = true → s.get HOOP_CFG.WDOG ≠ 0 → s.is HOOP_CFG.DEBUG = false ∨ armed s = true → Gives (.hoopWdogExpiry c) s fun t => acted c.val s t ∧ hoopHolds t c.val = true))
    ∧ (∀ (via : Ingress) (h : Hdr) (s : State) (v : Word), Writes (.hoopCtlForce via h v) via h 0xE00100 (v.toNat ||| 0x80000000) s fun t => acted 7 s t))
  ∧ (∀ (s : State) (m : BitVec 2), Gives (.hoopKick m) s fun t => SameMemory s t ∧ t.regs = s.regs
      ∧ ∀ c < 2, mapGet 2 t.pair.kicks c = (if bit m.toNat c then min 2 (mapGet 2 s.pair.kicks c + 1) else mapGet 2 s.pair.kicks c))
  ∧ (∀ s : State, (s.pair.holding = false → Gives .hoopHoldExpiry s fun t => t = s)
    ∧ (s.pair.holding = true → Gives .hoopHoldExpiry s fun t => t.get HOOP_STATUS.FAULT = 1 ∧ t.get HOOP_STATUS.CAP = 1 ∧ t.pair.holding = false ∧ role t = role s ∧ t.fire = s.fire ∧ SameMemory s t
      ∧ (s.get HOOP_CFG.HOLD = 0xFF → t.get PAIR_STATUS.OWN_CLAIM = s.get PAIR_STATUS.OWN_CLAIM) ∧ (s.get HOOP_CFG.HOLD ≠ 0xFF → claimed t = false)))
  ∧ (∀ (via : Ingress) (h : Hdr) (s : State) (v : Word), let w := v.toNat; let ps := writeParams 0xE00104 w
      let bad : Prop := bits w 31 24 = 0xFF ∧ s.is PAIR_CTL.EN = true
      let busy : Prop := armed s = true ∧ ((bits w 23 16 = 0 ∧ s.get HOOP_CFG.WDOG ≠ 0) ∨ (bit w 1 = false ∧ s.is HOOP_CFG.HEAD_EN = true) ∨ bits w 0 0 ≠ s.get HOOP_CFG.STOP_KIND)
    (bad → Runs (.hoopCfgWrite via h v) via 2 h ps s stBadParam fun _ t => t = actionState via 2 h ps s)
    ∧ (¬bad → busy → Runs (.hoopCfgWrite via h v) via 2 h ps s stBusy fun _ t => t = actionState via 2 h ps s)
    ∧ (¬bad → ¬busy → Writes (.hoopCfgWrite via h v) via h 0xE00104 w s fun t => t.get HOOP_CFG.HOLD = bits w 31 24 ∧ t.get HOOP_CFG.WDOG = bits w 23 16 ∧ t.is HOOP_CFG.DEBUG = bit w 2
      ∧ t.is HOOP_CFG.HEAD_EN = bit w 1 ∧ t.is HOOP_CFG.STOP_KIND = bit w 0 ∧ t.pair = s.pair ∧ SameMemory s t))
  ∧ (∀ s : State, s.get HOOP_STATUS.LATCHED < 256 → (∀ c < 8, s.bitOf HOOP_STATUS.LATCHED c = true → hoopHolds s c = false) → let t := hoopFaultClr s
      latched t = 0 ∧ t.get HOOP_STATUS.CAP = 0 ∧ t.get HOOP_STATUS.OVERRIDE = 0 ∧ t.is HOOP_STATUS.FAULT = faultBase s ∧ t.pair.holding = false
        ∧ role t = (if role s = 4 then (if s.is PAIR_CTL.EN then 1 else 0) else role s) ∧ (role s = 4 → claimed t = false) ∧ SameMemory s t)

/-- The maintenance axes (R492 to R514, Tables 18.2, 18.3 and 18.5). That EN 0 takes an axis in FAULT to OFF is log entry 1804. -/
def Obligations.MaintenanceAxes : Prop :=
  (∀ (via : Ingress) (h : Hdr) (ps : List Byte) (s : State), let a := beAt ps 0 1; let f := beAt ps 1 1; let run := bit f 1; let t64 := sext 64 (beAt ps 4 8)
      let target := sext 64 (wrap 64 (if bit f 0 = true ∧ run = false then axP s a + t64 else t64)); let up : Bool := if run then 0 ≤ t64 else axP s a ≤ target
      let barred : Prop := (run = true ∨ target ≠ axP s a) ∧ (if up then s.is AXIS_STATUS.LIM_HI a else s.is AXIS_STATUS.LIM_LO a) = true
      let st := if s.is PAIR_CTL.EN = true ∧ role s ≠ 3 then stNotOwner else if axBusy s a = true then stMoving else if axState s a ≠ 1 ∨ barred then stBusy else stOk
    (st ≠ stOk → Runs (.axisMove via h ps) via 0x30 h ps s st fun _ t => t = actionState via 0x30 h ps s)
    ∧ (st = stOk → Runs (.axisMove via h ps) via 0x30 h ps s stOk fun _ t => t.getS AXIS_TARGET.TARGET a = (if run then t64 else target) ∧ t.is AXIS_STATUS.DIR a = !up ∧ axP t a = axP s a
      ∧ t.get AXIS_MOVES.COUNT a = min (s.get AXIS_MOVES.COUNT a + 1) (2 ^ 32 - 1) ∧ t.get AXIS_VNOW.V a = 0 ∧ SameMemory s t ∧ (∀ b < 6, b ≠ a → t.axis b = s.axis b ∧ axState t b = axState s b ∧ axP t b = axP s b)
      ∧ t.get AXIS_STATUS.POS_DOUBT a = s.get AXIS_STATUS.POS_DOUBT a ∧ t.get AXIS_STATUS.HOMED a = s.get AXIS_STATUS.HOMED a
      ∧ (run = false → target = axP s a → axState t a = 1 ∧ t.get AXIS_STATUS.LAST_END a = 1)
      ∧ (run = true ∨ target ≠ axP s a → axState t a = 2 ∧ (t.axis a).aimed = !run ∧ (t.axis a).phase = 0 ∧ (t.axis a).peak ≤ s.get AXIS_VMAX.VMAX a ∧ (run = true → (t.axis a).peak = s.get AXIS_VMAX.VMAX a))))
  ∧ (∀ (via : Ingress) (h : Hdr) (ps : List Byte) (s : State), Runs (.axisStop via h ps) via 0x31 h ps s stOk fun _ t => SameMemory s t ∧ t.regs = (actionState via 0x31 h ps s).regs
      ∧ ∀ a < 6, t.axis a = (if bit (beAt ps 0 1) a = true ∧ axBusy s a = true ∧ (s.axis a).stop = none then { s.axis a with stop := some 2 } else s.axis a))
  ∧ (∀ (via : Ingress) (h : Hdr) (ps : List Byte) (s : State), let a := beAt ps 0 1; let hi : Bool := beAt ps 1 1 = 1
      let st := if s.is PAIR_CTL.EN = true ∧ role s ≠ 3 then stNotOwner else if axBusy s a = true then stMoving
        else if axState s a ≠ 1 ∨ (if hi then s.is AXIS_STATUS.LIM_HI a else s.is AXIS_STATUS.LIM_LO a) = true then stBusy else stOk
    (st ≠ stOk → Runs (.axisHome via h ps) via 0x32 h ps s st fun _ t => t = actionState via 0x32 h ps s)
    ∧ (st = stOk → Runs (.axisHome via h ps) via 0x32 h ps s stOk fun _ t => axState t a = 3 ∧ t.is AXIS_STATUS.DIR a = !hi ∧ axP t a = axP s a ∧ (t.axis a).origin = axP s a ∧ (t.axis a).phase = 0
      ∧ (t.axis a).home = some (beAt ps 8 4, sext 64 (beAt ps 12 8), hi) ∧ (t.axis a).peak = beAt ps 4 4 ∧ t.get AXIS_MOVES.COUNT a = min (s.get AXIS_MOVES.COUNT a + 1) (2 ^ 32 - 1) ∧ SameMemory s t))
  ∧ (∀ (via : Ingress) (h : Hdr) (s : State) (a : Fin 6) (v : Word), let w := v.toNat; let ps := writeParams (0xF00000 + 0x400 * a.val) w; let clr := bit w 31; let en := bit w 0
      let busy : Prop := (clr = true ∧ (s.is AXIS_STATUS.FLT_IN a.val = true ∨ axState s a.val ≠ 4)) ∨ (bit w 1 ≠ s.is AXIS_CTL.INV a.val ∧ axBusy s a.val = true)
    (busy → Runs (.axisCtlWrite via h a v) via 2 h ps s stBusy fun _ t => t = actionState via 2 h ps s)
    ∧ (¬busy → Writes (.axisCtlWrite via h a v) via h (0xF00000 + 0x400 * a.val) w s fun t => t.is AXIS_CTL.EN a.val = en ∧ t.is AXIS_CTL.INV a.val = bit w 1 ∧ t.get AXIS_CTL.LIM_POL a.val = bits w 9 8 ∧ SameMemory s t
      ∧ (en = false → axBusy s a.val = false → axState t a.val = 0)
      ∧ (en = false → axBusy s a.val = true → axState t a.val = axState s a.val ∧ (t.axis a.val).off = true ∧ (t.axis a.val).stop = some ((s.axis a.val).stop.getD 2))
      ∧ (en = true → clr = true → axState t a.val = 1) ∧ (en = true → clr = false → axState s a.val ≠ 0 → axState t a.val = axState s a.val)
      ∧ (en = true → axState s a.val = 0 → s.is AXIS_STATUS.FLT_IN a.val = false → axState t a.val = 1)
      ∧ (en = true → axState s a.val = 0 → s.is AXIS_STATUS.FLT_IN a.val = true → axState t a.val = 4 ∧ t.get AXIS_STATUS.LAST_FAULT a.val = 1)))
  ∧ (∀ (via : Ingress) (h : Hdr) (s : State) (a : Fin 6) (v : Word), let ps := writeParams (0xF0000C + 0x400 * a.val) v.toNat
    (axBusy s a.val = true → Runs (.axisPosCommit via h a v) via 2 h ps s stBusy fun _ t => t = actionState via 2 h ps s)
    ∧ (axBusy s a.val = false → (s.axis a.val).stage < 2 ^ 32 → Writes (.axisPosCommit via h a v) via h (0xF0000C + 0x400 * a.val) v.toNat s fun t =>
      t.get AXIS_POS.P a.val = v.toNat * 2 ^ 32 + (s.axis a.val).stage ∧ t.get AXIS_STATUS.POS_DOUBT a.val = 0 ∧ axState t a.val = axState s a.val ∧ SameMemory s t))
  ∧ (∀ (s : State) (a : Fin 6), let x := s.axis a.val; let v := s.get AXIS_VNOW.V a.val; let n := axUntil x.phase v; let inTick : Prop := axBusy s a.val = true ∧ 0 < v ∧ x.done + n ≤ 100
      let halted : Prop := axAtTarget s a.val = true ∨ x.limit = true ∨ x.found = true ∨ x.wrong = true ∨ x.missed = true
    (¬inTick → Gives (.axisMicrostep a) s fun t => t = s)
    ∧ (inTick → Gives (.axisMicrostep a) s fun t => (t.axis a.val).done = x.done + n ∧ axState t a.val = axState s a.val ∧ SameMemory s t
      ∧ (x.phase < 2 ^ 32 → v < 2 ^ 32 → x.phase + n * v = 2 ^ 32 + (t.axis a.val).phase ∧ (t.axis a.val).phase < v)
      ∧ (halted → t.get AXIS_POS.P a.val = s.get AXIS_POS.P a.val) ∧ (¬halted → axP t a.val = sext 64 (wrap 64 (axP s a.val + axDir s a.val)))))
  ∧ (∀ (s : State) (a : Fin 6), let x := s.axis a.val; let left (s : State) : Int := axDir s a.val * (s.getS AXIS_TARGET.TARGET a.val - axP s a.val);
      axState s a.val = 2 → x.aimed = true → x.home = none → (∀ r : Nat, x.stop = some r → r = 2 ∨ r = 3) → 0 ≤ left s →
    Gives (.axisMicrostep a) s (fun t => 0 ≤ left t ∧ left t ≤ left s ∧ t.getS AXIS_TARGET.TARGET a.val = s.getS AXIS_TARGET.TARGET a.val)
    ∧ Gives (.axisProfileTick a) s (fun t => 0 ≤ left t ∧ left t ≤ left s ∧ t.getS AXIS_TARGET.TARGET a.val = s.getS AXIS_TARGET.TARGET a.val
      ∧ (t.get AXIS_STATUS.LAST_END a.val = 1 → s.get AXIS_STATUS.LAST_END a.val ≠ 1 → left t = 0 ∧ axState t a.val = 1 ∧ t.get AXIS_VNOW.V a.val = 0 ∧ t.get AXIS_STATUS.POS_DOUBT a.val = s.get AXIS_STATUS.POS_DOUBT a.val)))
  ∧ (∀ (x : Axis) (len n : Nat), vnowAt x len n ≤ x.peak) ∧ (∀ amax jmax vmax len : Nat, movePeak amax jmax vmax len ≤ vmax)
  ∧ (∀ (s : State) (a : Fin 6), axBusy s a.val = false → Gives (.axisProfileTick a) s fun t => t = s)
  ∧ (∀ (s : State) (a : Fin 6), let x := s.axis a.val
      let faulted (code : Nat) (t : State) : Prop := axState t a.val = 1 ∧ t.get AXIS_STATUS.LAST_FAULT a.val = code ∧ t.get AXIS_VNOW.V a.val = 0
        ∧ t.get AXIS_FAULTS.COUNT a.val = min (s.get AXIS_FAULTS.COUNT a.val + 1) (2 ^ 32 - 1) ∧ t.get AXIS_STATUS.POS_DOUBT a.val = 1 ∧ t.get AXIS_STATUS.HOMED a.val = 0;
      axBusy s a.val = true → x.aimed = false →
    (x.wrong = true → Gives (.axisProfileTick a) s (faulted 3))
    ∧ (x.wrong = false → x.found = true → ∀ (m : Nat) (pos : Int) (hi : Bool), x.home = some (m, pos, hi) → Gives (.axisProfileTick a) s fun t => axState t a.val = 1 ∧ t.get AXIS_VNOW.V a.val = 0
      ∧ axP t a.val = sext 64 (wrap 64 (pos + (axP s a.val - (if hi then s.getS AXIS_LIM_HI_POS.P a.val else s.getS AXIS_LIM_LO_POS.P a.val)))) ∧ t.get AXIS_STATUS.POS_DOUBT a.val = 0 ∧ t.get AXIS_STATUS.HOMED a.val = 1)
    ∧ (x.wrong = false → x.found = false → x.limit = true → Gives (.axisProfileTick a) s (faulted 2))
    ∧ (x.wrong = false → x.found = false → x.limit = false → x.missed = true → Gives (.axisProfileTick a) s (faulted 4))
    ∧ (x.wrong = false → x.found = false → x.limit = false → x.missed = false → x.home = none → ∀ r : Nat, r < 16 → x.stop = some r → Gives (.axisProfileTick a) s fun t =>
      axState t a.val = (if x.off then 0 else 1) ∧ t.get AXIS_STATUS.LAST_END a.val = r ∧ t.get AXIS_VNOW.V a.val = 0 ∧ t.get AXIS_STATUS.POS_DOUBT a.val = 1 ∧ t.get AXIS_STATUS.HOMED a.val = 0))
  ∧ (∀ (s : State) (a : Fin 6), let st := axState s a.val; let p := wrap 64 (axP s a.val); let q := p / 256 % 4; let m := p % 256; let odd : Bool := q % 2 = 1
      let tab (i : Nat) : Nat := s.get AXIS_TABLE.T a.val i; let k := min 4095 ((if st = 1 then s.get AXIS_KVAL.KHOLD a.val else s.get AXIS_KVAL.KRUN a.val) + s.get AXIS_BEMF.BEMF a.val * (s.get AXIS_VNOW.V a.val * 100000000 / 2 ^ 40) / 2 ^ 16)
    (st = 0 ∨ st = 4 → Gives (.axisPwmPeriod a) s fun t => (t.axis a.val).dutyA = 0 ∧ (t.axis a.val).dutyB = 0 ∧ t.regs = s.regs ∧ SameMemory s t)
    ∧ (st ≠ 0 → st ≠ 4 → Gives (.axisPwmPeriod a) s fun t => t.regs = s.regs ∧ SameMemory s t
      ∧ (t.axis a.val).dutyA = (tab (if odd then m else 255 - m) * k + 511) / 1023 ∧ (t.axis a.val).dutyB = (tab (if odd then 255 - m else m) * k + 511) / 1023
      ∧ ((t.axis a.val).negA = true ↔ q = 1 ∨ q = 2) ∧ ((t.axis a.val).negB = true ↔ (2 ≤ q ↔ s.is AXIS_CTL.INV a.val = false))
      ∧ ((∀ i < 256, tab i ≤ 1023) → (t.axis a.val).dutyA ≤ 4095 ∧ (t.axis a.val).dutyB ≤ 4095)))
  ∧ (∀ (s : State) (a : Fin 6), Gives (.axisDriverFault a) s fun t => t.get AXIS_STATUS.FLT_IN a.val = 1 ∧ SameMemory s t
      ∧ (axState s a.val = 0 ∨ axState s a.val = 4 → axState t a.val = axState s a.val ∧ t.axis a.val = s.axis a.val)
      ∧ (axState s a.val ≠ 0 → axState s a.val ≠ 4 → axState t a.val = 4 ∧ t.get AXIS_STATUS.LAST_FAULT a.val = 1 ∧ t.get AXIS_VNOW.V a.val = 0 ∧ t.get AXIS_STATUS.POS_DOUBT a.val = 1 ∧ t.get AXIS_STATUS.HOMED a.val = 0
        ∧ t.get AXIS_FAULTS.COUNT a.val = min (s.get AXIS_FAULTS.COUNT a.val + 1) (2 ^ 32 - 1) ∧ axP t a.val = axP s a.val))
  ∧ (∀ (s : State) (a : Fin 6), Gives (.axisFltNRelease a) s fun t => t = s.put AXIS_STATUS.FLT_IN 0 a.val)
  ∧ (∀ (s : State) (a : Fin 6) (hi : Bool), Gives (.axisLimitRelease a hi) s fun t => t = (if hi then s.put AXIS_STATUS.LIM_HI 0 a.val else s.put AXIS_STATUS.LIM_LO 0 a.val))
  ∧ (∀ (s : State) (a : Fin 6) (hi : Bool) (n : BitVec 10), let tripped (s : State) : Bool := if hi then s.is AXIS_STATUS.LIM_HI a.val else s.is AXIS_STATUS.LIM_LO a.val
      let latch (s : State) : Int := if hi then s.getS AXIS_LIM_HI_POS.P a.val else s.getS AXIS_LIM_LO_POS.P a.val
    (tripped s = true → Gives (.axisLimitTrip a hi n) s fun t => t = s)
    ∧ (tripped s = false → Gives (.axisLimitTrip a hi n) s fun t => tripped t = true ∧ latch t = sext 64 (wrap 64 (axP s a.val - axDir s a.val * n.toNat)) ∧ axP t a.val = axP s a.val ∧ SameMemory s t
      ∧ (axAtTarget s a.val = true → axState t a.val = 1 ∧ t.get AXIS_STATUS.LAST_END a.val = 1 ∧ (t.axis a.val).limit = false)
      ∧ (axAtTarget s a.val = false → axState t a.val = axState s a.val
        ∧ (∀ (m : Nat) (pos : Int), (s.axis a.val).home = some (m, pos, hi) → (t.axis a.val).found = true) ∧ (∀ (m : Nat) (pos : Int), (s.axis a.val).home = some (m, pos, !hi) → (t.axis a.val).wrong = true)
        ∧ ((s.axis a.val).home = none → axState s a.val = 2 → (axDir s a.val = 1 ↔ hi = true) → (t.axis a.val).limit = true)
        ∧ ((s.axis a.val).home = none → axBusy s a.val = false ∨ ¬(axDir s a.val = 1 ↔ hi = true) → t.axis a.val = s.axis a.val))))

/-- Illumination and indicators (R519 to R530). That a cell is lit in even intervals of its blink is log entry 1902. -/
def Obligations.LampsAndIndicators : Prop :=
  (∀ (via : Ingress) (h : Hdr) (s : State) (l : Fin 8) (v : Word), let w := v.toNat; let ps := writeParams (0x1000000 + 0x40 * l.val) w
      let busy : Prop := s.is LAMP_CTL.EN l.val = true ∧ (bit w 1 ≠ s.is LAMP_CTL.MODE l.val ∨ bits w 7 4 ≠ s.get LAMP_CTL.NTC l.val)
    (7 < bits w 7 4 → Runs (.lampCtlWrite via h l v) via 2 h ps s stBadParam fun _ t => t = actionState via 2 h ps s)
    ∧ (bits w 7 4 ≤ 7 → busy → Runs (.lampCtlWrite via h l v) via 2 h ps s stBusy fun _ t => t = actionState via 2 h ps s)
    ∧ (bits w 7 4 ≤ 7 → ¬busy → Writes (.lampCtlWrite via h l v) via h (0x1000000 + 0x40 * l.val) w s fun t => SameMemory s t ∧ t.get LAMP_CTL.CAM_SRC l.val = bits w 11 8 ∧ t.get LAMP_CTL.NTC l.val = bits w 7 4
      ∧ t.is LAMP_CTL.COMP_EN l.val = bit w 2 ∧ t.is LAMP_CTL.MODE l.val = bit w 1 ∧ t.is LAMP_CTL.EN l.val = bit w 0 ∧ (∀ m < 8, m ≠ l.val → t.lampAt m = s.lampAt m)
      ∧ (bit w 0 = true → t.lampAt l.val = { s.lampAt l.val with acc := 0 }) ∧ (bit w 0 = false → t.get LAMP_STATUS.STROBING l.val = 0 ∧ t.lampAt l.val = { s.lampAt l.val with on := 0, windows := [], openTo := none })))
  ∧ (∀ (via : Ingress) (h : Hdr) (s : State) (l : Fin 8) (v : Word), let w := v.toNat; Writes (.lampSetWrite via h l v) via h (0x1000004 + 0x40 * l.val) w s fun t => SameMemory s t
      ∧ t.get LAMP_SET.FADE_MS l.val = w / 65536 ∧ t.get LAMP_SET.TARGET l.val = w % 65536 ∧ t.get LAMP_NOW.NOW l.val = s.get LAMP_NOW.NOW l.val
      ∧ (w < 65536 → t.get LAMP_STATUS.FADING l.val = 0 ∧ (t.lampAt l.val).fade = none ∧ (t.lampAt l.val).jump = some w)
      ∧ (65536 ≤ w → t.get LAMP_STATUS.FADING l.val = 1 ∧ (t.lampAt l.val).jump = none ∧ (t.lampAt l.val).fade = some { start := s.get LAMP_NOW.NOW l.val, target := w % 65536, n := w / 65536 }))
  ∧ (∀ (s : State) (l : Fin 8), let x := s.lampAt l.val; let runs : Prop := s.is LAMP_CTL.EN l.val = true ∧ s.is LAMP_CTL.MODE l.val = false
      let duty := min 65535 ((match x.jump with | some v => v % 65536 | none => s.get LAMP_NOW.NOW l.val) * (if s.is LAMP_CTL.COMP_EN l.val then x.gain else 0x4000) / 2 ^ 14)
    Gives (.lampPwmPeriod l) s fun t => SameMemory s t ∧ (t.lampAt l.val).jump = none ∧ t.get LAMP_NOW.NOW l.val = (match x.jump with | some v => v % 65536 | none => s.get LAMP_NOW.NOW l.val)
      ∧ (¬runs → (t.lampAt l.val).on = 0 ∧ (t.lampAt l.val).acc = x.acc)
      ∧ (runs → t.get LAMP_STATUS.DUTY l.val = duty ∧ (t.lampAt l.val).on * 65536 + (t.lampAt l.val).acc = duty * 800 + x.acc ∧ (t.lampAt l.val).acc < 65536 ∧ (x.acc < 65536 → (t.lampAt l.val).on ≤ 800)))
  ∧ (∀ (s : State) (l : Fin 8), let x := s.lampAt l.val
    (x.windows = [] → Gives (.lampStrobeOpen l) s fun t => t = s)
    ∧ (∀ (w : Nat × Nat) (ws : List (Nat × Nat)), x.windows = w :: ws → Gives (.lampStrobeOpen l) s fun t => (t.lampAt l.val).windows = ws ∧ SameMemory s t
      ∧ (x.openTo = none → (t.lampAt l.val).openTo = some w.2 ∧ t.get LAMP_STATUS.STROBING l.val = 1 ∧ t.get LAMP_STROBE_MERGED.COUNT l.val = s.get LAMP_STROBE_MERGED.COUNT l.val)
      ∧ (∀ c : Nat, x.openTo = some c → (t.lampAt l.val).openTo = some (max c w.2) ∧ t.get LAMP_STROBE_MERGED.COUNT l.val = min (s.get LAMP_STROBE_MERGED.COUNT l.val + 1) (2 ^ 32 - 1)))
    ∧ Gives (.lampStrobeClose l) s (fun t => t.get LAMP_STATUS.STROBING l.val = 0 ∧ (t.lampAt l.val).openTo = none ∧ (t.lampAt l.val).windows = x.windows ∧ SameMemory s t))
  ∧ (∀ (s : State) (l : Fin 8),
    ((s.lampAt l.val).fade = none → Gives (.lampFadeTick l) s fun t => t = s)
    ∧ (∀ f : Fade, (s.lampAt l.val).fade = some f → f.target < 65536 →
      (f.n ≤ f.i + 1 → Gives (.lampFadeTick l) s fun t => t.get LAMP_NOW.NOW l.val = f.target ∧ t.get LAMP_STATUS.FADING l.val = 0 ∧ (t.lampAt l.val).fade = none ∧ SameMemory s t)
      ∧ (f.i + 1 < f.n → Gives (.lampFadeTick l) s fun t => t.get LAMP_NOW.NOW l.val = fadeAt f (f.i + 1) ∧ (t.lampAt l.val).fade = some { f with i := f.i + 1 } ∧ SameMemory s t)))
  ∧ (∀ (s : State) (codes : Vector (BitVec 12) 8), let u := if s.lamp.load then lampApply s else s; let code (i : Nat) : Nat := (codes.toList.map BitVec.toNat).getD i 0; let bad (i : Nat) : Prop := code i < 16 ∨ 4079 < code i
    Gives (.ntcEvaluation codes) s fun t => t.lamp.load = false ∧ SameMemory s t ∧ curvePts t = curvePts u
      ∧ (∀ i < 8, t.get LAMP_NTC.CODE i = code i ∧ (bad i → t.is LAMP_NTC.FAULT i = true ∧ t.get LAMP_NTC.TEMP i = s.get LAMP_NTC.TEMP i)
        ∧ (¬bad i → t.get LAMP_NTC.FAULT i = 0 ∧ t.getS LAMP_NTC.TEMP i = sext 16 (wrap 16 (interp (curvePts u) (code i)))))
      ∧ (∀ l < 8, s.get LAMP_CTL.NTC l < 8 → (t.lampAt l).gain = (if t.is LAMP_NTC.FAULT (s.get LAMP_CTL.NTC l) then (s.lampAt l).gain else wrap 16 (interp (compPts u l) (t.getS LAMP_NTC.TEMP (s.get LAMP_CTL.NTC l))))))
  ∧ (∀ (s : State) (p : Nat), p < 16 → let u := lampApply s; (curvePts u).getD p (0, 0) = ((s.get LAMP_CURVE.CODE p : Int), s.getS LAMP_CURVE.TEMP p)
      ∧ ∀ l < 8, (compPts u l).getD p (0, 0) = (s.getS LAMP_COMP.TEMP l p, (s.get LAMP_COMP.GAIN l p : Int)))
  ∧ (∀ (via : Ingress) (h : Hdr) (s : State), let ps := writeParams 0x1000A00 1; let fine : Prop := ascending (stagedCurve s) = true ∧ ∀ l < 8, ascending (stagedComp s l) = true
    (¬fine → Runs (.lampGlobalLoad via h) via 2 h ps s stBadParam fun _ t => t = actionState via 2 h ps s)
    ∧ (fine → Writes (.lampGlobalLoad via h) via h 0x1000A00 1 s fun t => t.lamp = { s.lamp with load := true } ∧ t.regs = (actionState via 2 h ps s).regs ∧ SameMemory s t))
  ∧ (∀ (pts : List (Int × Int)) (x : Int), ascending pts = true →
      (∀ p : Int × Int, pts.head? = some p → x ≤ p.1 → interp pts x = p.2) ∧ (∀ p : Int × Int, pts.getLast? = some p → p.1 ≤ x → interp pts x = p.2)
      ∧ ∀ (i : Nat) (p q : Int × Int), pts[i]? = some p → pts[i + 1]? = some q → p.1 < x → x ≤ q.1 → interp pts x = p.2 + tdiv ((x - p.1) * (q.2 - p.2)) (q.1 - p.1))
  ∧ (∀ s : State, (s.is MX_CFG.EN = false → Gives .mxSlot s fun t => t.lamp = { s.lamp with row := none } ∧ t.regs = s.regs ∧ SameMemory s t)
    ∧ (s.is MX_CFG.EN = true → Gives .mxSlot s fun t => t.regs = s.regs ∧ SameMemory s t ∧ t.lamp.nextRow = (s.lamp.nextRow + 1) % 8
      ∧ ∃ levels : List Nat, t.lamp.row = some (s.lamp.nextRow, levels) ∧ levels.length = 16
        ∧ ∀ c < 16, let cell := 16 * s.lamp.nextRow + c; (s.is MX_CELL.BLINK cell = false → levels.getD c 0 = s.get MX_CELL.LEVEL cell) ∧ (levels.getD c 0 = 0 ∨ levels.getD c 0 = s.get MX_CELL.LEVEL cell)))

/-- The check units (R532 to R537). How far an aborted scan has come is a free value (log entry 2002). -/
def Obligations.CheckUnits : Prop :=
  (let exact (u n : Nat) (s t : State) : Prop := t.get CHK_DONE.DONE u = n % 2 ^ 32
      ∧ chkValue t u % 2 ^ 32 = (s.bytes (s.get CHK_SRC.SRC u) n).foldl (chkByte (chkAlg s u)) (chkValue s u) % 2 ^ 32;
    (∀ (s : State) (u : Fin 4), let n := s.get CHK_LEN.LEN u.val; let a := s.get CHK_SRC.SRC u.val
      (s.get CHK_STATUS.STATE u.val ≠ 1 → Gives (.chkScanEnd u) s fun t => t = s)
      ∧ (s.get CHK_STATUS.STATE u.val = 1 → (∀ i < n, chkFails s (a + i) = 0) → Gives (.chkScanEnd u) s fun t => t.get CHK_STATUS.STATE u.val = 2 ∧ exact u.val n s t ∧ SameMemory s t
        ∧ (t.is CHK_STATUS.MATCH u.val = true ↔ (if chkAlg s u.val = 2 then chkResult t u.val % 65536 = s.get CHK_EXPECT.EXPECT u.val % 65536 else chkResult t u.val = s.get CHK_EXPECT.EXPECT u.val)))
      ∧ (s.get CHK_STATUS.STATE u.val = 1 → ∀ i < n, chkFails s (a + i) ≠ 0 → (∀ j < i, chkFails s (a + j) = 0) → Gives (.chkScanEnd u) s fun t =>
        t.get CHK_STATUS.STATE u.val = 4 ∧ t.get CHK_STATUS.ERR u.val = chkFails s (a + i) ∧ exact u.val i s t ∧ SameMemory s t))
    ∧ (∀ (via : Ingress) (h : Hdr) (s : State) (u : Fin 4) (v : Word), let w := v.toNat ||| 0x40000000; let ps := writeParams (0x1100000 + 0x100 * u.val) w
        let locked : Prop := bits w 16 16 ≠ s.get CHK_CTL.ALIVE_EN u.val ∨ bits w 15 8 ≠ s.get CHK_CTL.ALIVE u.val ∨ bits w 1 0 ≠ s.get CHK_CTL.ALG u.val ∨ bit w 29 = true
        let n := s.get CHK_LEN.LEN u.val; let a := s.get CHK_SRC.SRC u.val
        bit w 31 = false →
      (s.get CHK_STATUS.STATE u.val = 1 → locked → Runs (.chkAbort via h u v) via 2 h ps s stBusy fun _ t => t = actionState via 2 h ps s)
      ∧ (s.get CHK_STATUS.STATE u.val = 1 → ¬locked → 1 ≤ n → (∀ i < n, chkFails s (a + i) = 0) → Writes (.chkAbort via h u v) via h (0x1100000 + 0x100 * u.val) w s fun t =>
        t.get CHK_STATUS.STATE u.val = 3 ∧ SameMemory s t ∧ ∃ d < n, exact u.val d s t)
      ∧ (s.get CHK_STATUS.STATE u.val ≠ 1 → bit w 29 = false → Writes (.chkAbort via h u v) via h (0x1100000 + 0x100 * u.val) w s fun t =>
        t.get CHK_STATUS.STATE u.val = s.get CHK_STATUS.STATE u.val ∧ t.get CHK_VALUE.VALUE u.val = s.get CHK_VALUE.VALUE u.val ∧ t.get CHK_CTL.ALG u.val = bits w 1 0 ∧ SameMemory s t)))
  ∧ (∀ (via : Ingress) (h : Hdr) (s : State) (u : Fin 4) (v : Word), let w := v.toNat ||| 0x20000000; let ps := writeParams (0x1100000 + 0x100 * u.val) w
      (s.get CHK_STATUS.STATE u.val = 1 → Runs (.chkInit via h u v) via 2 h ps s stBusy fun _ t => t = actionState via 2 h ps s)
      ∧ (s.get CHK_STATUS.STATE u.val ≠ 1 → bit w 31 = false → Writes (.chkInit via h u v) via h (0x1100000 + 0x100 * u.val) w s fun t => SameMemory s t
        ∧ t.get CHK_CTL.ALG u.val = bits w 1 0 ∧ t.get CHK_CTL.ALIVE u.val = bits w 15 8 ∧ t.get CHK_CTL.ALIVE_EN u.val = bits w 16 16 ∧ t.get CHK_STATUS.STATE u.val = s.get CHK_STATUS.STATE u.val
        ∧ chkValue t u.val = (if bits w 1 0 < 2 then 0xFFFFFFFF else if bits w 1 0 = 2 then 0xFFFF else 1)))
  ∧ (∀ (via : Ingress) (h : Hdr) (s : State) (u : Fin 4) (v : Word), let w := v.toNat ||| 0x80000000; let ps := writeParams (0x1100000 + 0x100 * u.val) w
      let n := s.get CHK_LEN.LEN u.val; let a := s.get CHK_SRC.SRC u.val
      let st := if s.get CHK_STATUS.STATE u.val = 1 then stBusy else if n = 0 ∨ ¬(isVat a = true ∨ isDram a = true) ∨ oneSpace s a n = false then stBadParam
        else if bit w 16 = true ∧ s.is CHK_LAST_ALIVE.VALID u.val = true ∧ bits w 15 8 = s.get CHK_LAST_ALIVE.LAST u.val then stRepeat
        else if rangeViol s 4 0 1 0 a n ≠ none then stDenied else stOk
    (st ≠ stOk → st ≠ stDenied → Runs (.chkGo via h u v) via 2 h ps s st fun _ t => t = actionState via 2 h ps s)
    ∧ (st = stDenied → Runs (.chkGo via h u v) via 2 h ps s stDenied fun _ t => t.get CHK_STATUS.STATE u.val = s.get CHK_STATUS.STATE u.val ∧ t.get CHK_VALUE.VALUE u.val = s.get CHK_VALUE.VALUE u.val ∧ SameMemory s t)
    ∧ (st = stOk → Runs (.chkGo via h u v) via 2 h ps s stOk fun _ t => t.get CHK_STATUS.STATE u.val = 1 ∧ t.get CHK_DONE.DONE u.val = 0 ∧ t.get CHK_STATUS.MATCH u.val = 0 ∧ t.get CHK_CTL.ALG u.val = bits w 1 0 ∧ SameMemory s t
      ∧ (bit w 29 = false → t.get CHK_VALUE.VALUE u.val = s.get CHK_VALUE.VALUE u.val) ∧ (bit w 29 = true → chkValue t u.val = chkInit (bits w 1 0))
      ∧ (bit w 16 = true → t.get CHK_LAST_ALIVE.VALID u.val = 1 ∧ t.get CHK_LAST_ALIVE.LAST u.val = bits w 15 8)
      ∧ (bit w 16 = false → t.get CHK_LAST_ALIVE.VALID u.val = s.get CHK_LAST_ALIVE.VALID u.val)))

/-- The non-volatile store (R539 to R545). What a page holds after a second mismatch is free (log entry 2006). -/
def Obligations.NonVolatileStore : Prop :=
  (∀ (via : Ingress) (h : Hdr) (ps : List Byte) (s : State), let first := beAt ps 0 2; let count := beAt ps 2 1; let erase := bit (beAt ps 3 1) 0
      let hostMay (p : Nat) : Prop := p < 256 ∨ 8192 ≤ p; let reserved (p : Nat) : Prop := 6688 ≤ p ∧ p < 8192; let device (p : Nat) : Prop := 256 ≤ p ∧ p < 6688
      let barred : Prop := (erase = false ∧ ∃ i < count, ¬hostMay (first + i)) ∨ (erase = true ∧ ∃ i < count, reserved (first + i))
      let held : Prop := erase = true ∧ (∃ i < count, device (first + i)) ∧ armed s = true
    (s.nvm.host ≠ none → Runs (.nvmWrite via h ps) via 0x50 h ps s stBusy fun _ t => t = actionState via 0x50 h ps s)
    ∧ (s.nvm.host = none → barred → Runs (.nvmWrite via h ps) via 0x50 h ps s stBadParam fun _ t => t = actionState via 0x50 h ps s)
    ∧ (s.nvm.host = none → ¬barred → held → Runs (.nvmWrite via h ps) via 0x50 h ps s stBusy fun _ t => t = actionState via 0x50 h ps s)
    ∧ (s.nvm.host = none → ¬barred → ¬held → Runs (.nvmWrite via h ps) via 0x50 h ps s stOk fun _ t => t.get NVM_STATUS.HOST_BUSY = 1 ∧ SameMemory s t ∧ t.nvm.queue = s.nvm.queue
      ∧ ∃ j : NvmHost, t.nvm.host = some j ∧ j.first = first ∧ j.done = 0 ∧ j.left.length = count ∧ ∀ i < count, j.left[i]? = some (if erase then zeros 64 else slice ps (4 + 64 * i) 64)))
  ∧ (∀ (via : Ingress) (h : Hdr) (ps : List Byte) (s : State), Runs (.nvmRead via h ps) via 0x51 h ps s stOk fun d t => t = actionState via 0x51 h ps s
      ∧ d.length = 64 * beAt ps 2 1 ∧ ∀ i < 64 * beAt ps 2 1, d.getD i 0 = s.mramByte (64 * beAt ps 0 2 + i))
  ∧ (∀ (s : State) (a b : Bool), s.on 17 = false ∨ (s.cmd.waiting = [] ∧ s.nvm.host = none ∧ s.nvm.queue = []) → Gives (.nvmPageWritten a b) s fun t => t = s)
  ∧ (let wrote (page off : Nat) (bs : List Byte) (again : Bool) (s t : State) : Prop := t.mem = s.mem
      ∧ (∀ i < bs.length, t.mramByte (64 * page + off + i) = bs.getD i 0) ∧ (∀ x : Nat, x < 64 * page + off ∨ 64 * page + off + bs.length ≤ x → t.mramByte x = s.mramByte x)
      ∧ mapGet 0 t.nvm.counts page = mapGet 0 s.nvm.counts page + 1 + b2n again ∧ t.get NVM_WRITES.COUNT = min (s.get NVM_WRITES.COUNT + 1) (2 ^ 32 - 1) ∧ t.get NVM_VERIFY_FAIL.COUNT = s.get NVM_VERIFY_FAIL.COUNT;
    let failed (page : Nat) (s t : State) : Prop := t.mem = s.mem ∧ (∀ x : Nat, x < 64 * page ∨ 64 * page + 64 ≤ x → t.mramByte x = s.mramByte x) ∧ (page < 16384 → t.get NVM_STATUS.BAD_PAGE = page)
      ∧ mapGet 0 t.nvm.counts page = mapGet 0 s.nvm.counts page + 2 ∧ t.get NVM_VERIFY_FAIL.COUNT = min (s.get NVM_VERIFY_FAIL.COUNT + 1) (2 ^ 32 - 1) ∧ t.get NVM_WRITES.COUNT = s.get NVM_WRITES.COUNT;
    (∀ (s : State) (a b : Bool) (j : NvmHost) (bs : List Byte) (rest : List (List Byte)), s.on 17 = true → s.cmd.waiting = [] → s.nvm.host = some j → j.left = bs :: rest → (s.nvm.queue = [] ∨ s.nvm.deviceTurn = false) →
      (a = false ∨ b = false → Gives (.nvmPageWritten a b) s fun t => wrote (j.first + j.done) 0 bs a s t
        ∧ (rest = [] → t.nvm.host = none ∧ t.get NVM_STATUS.HOST_BUSY = 0) ∧ (rest ≠ [] → t.nvm.host = some { j with done := j.done + 1, left := rest } ∧ t.nvm.deviceTurn = true))
      ∧ (a = true → b = true → Gives (.nvmPageWritten a b) s fun t => failed (j.first + j.done) s t ∧ t.nvm.host = none ∧ t.get NVM_STATUS.HOST_BUSY = 0))
    ∧ (∀ (s : State) (a b : Bool) (k : NvmJob) (rest : List NvmJob), s.on 17 = true → s.cmd.waiting = [] → s.nvm.queue = k :: rest → (s.nvm.host = none ∨ s.nvm.deviceTurn = true) →
      (a = false ∨ b = false → Gives (.nvmPageWritten a b) s fun t => wrote k.page k.off k.bytes a s t ∧ t.nvm.host = s.nvm.host ∧ t.nvm.deviceTurn = false)
      ∧ (a = true → b = true → Gives (.nvmPageWritten a b) s fun t => failed k.page s t ∧ t.nvm.host = s.nvm.host)))
end

