-- ==== Sys2Proof/Laws/Maps.lean ====
section
/-! SUPPORT. Sparse maps: reading after writing, and the canonical form that every write keeps. -/

namespace Sys2Proof.Machine

/-- An entry that has been put is found. -/
theorem mapGet_mapPut_self {α : Type} (d v : α) (k : Nat) (m : List (Nat × α)) : mapGet d (mapPut k v m) k = v := by
  induction m with
  | nil => simp [mapPut, mapGet]
  | cons e m ih =>
    obtain ⟨k', v'⟩ := e
    unfold mapPut
    split
    · simp [mapGet]
    · split
      · simp [mapGet]
      · simp [mapGet, *]

theorem mapGet_mapDel_self {α : Type} (d : α) (k : Nat) (m : List (Nat × α)) : mapGet d (mapDel k m) k = d := by
  induction m with
  | nil => rfl
  | cons e m ih =>
    obtain ⟨k', v'⟩ := e
    unfold mapDel at ih ⊢
    rw [List.filter_cons]
    split <;> rename_i h
    · simp only [bne_iff_ne, ne_eq] at h
      simp [mapGet, h, ih]
    · exact ih

/-- A value that has been set is found. -/
theorem mapGet_mapSet_self {α : Type} [DecidableEq α] (d v : α) (k : Nat) (m : List (Nat × α)) : mapGet d (mapSet d k v m) k = v := by
  unfold mapSet
  split
  · rename_i h; rw [mapGet_mapDel_self, h]
  · exact mapGet_mapPut_self d v k m

theorem mapGet_mapPut_ne {α : Type} (d v : α) {k k' : Nat} (hk : k' ≠ k) (m : List (Nat × α)) :
    mapGet d (mapPut k v m) k' = mapGet d m k' := by
  induction m with
  | nil => simp [mapPut, mapGet, Ne.symm hk]
  | cons e m ih =>
    obtain ⟨a, b⟩ := e
    unfold mapPut
    split <;> rename_i h
    · subst h; simp [mapGet, Ne.symm hk]
    · split
      · simp [mapGet, Ne.symm hk]
      · simp [mapGet, ih]

theorem mapGet_mapDel_ne {α : Type} (d : α) {k k' : Nat} (hk : k' ≠ k) (m : List (Nat × α)) :
    mapGet d (mapDel k m) k' = mapGet d m k' := by
  induction m with
  | nil => rfl
  | cons e m ih =>
    obtain ⟨a, b⟩ := e
    unfold mapDel at ih ⊢
    rw [List.filter_cons]
    split <;> rename_i h
    · simp [mapGet, ih]
    · simp only [bne_iff_ne, ne_eq, Decidable.not_not] at h
      subst h; simp [mapGet, Ne.symm hk, ih]

/-- Setting one key leaves the others. -/
theorem mapGet_mapSet_ne {α : Type} [DecidableEq α] (d d' v : α) {k k' : Nat} (hk : k' ≠ k) (m : List (Nat × α)) :
    mapGet d' (mapSet d k v m) k' = mapGet d' m k' := by
  unfold mapSet
  split
  · exact mapGet_mapDel_ne d' hk m
  · exact mapGet_mapPut_ne d' v hk m

/-! ### The canonical form -/

/-- Every key of a map is above a bound. -/
def mapAbove {α : Type} (n : Nat) (m : List (Nat × α)) : Prop := ∀ e ∈ m, n < e.1

theorem mapWf_cons {α : Type} [DecidableEq α] (d : α) (k : Nat) (v : α) (m : List (Nat × α)) :
    mapWf d ((k, v) :: m) = true ↔ v ≠ d ∧ mapAbove k m ∧ mapWf d m = true := by
  induction m generalizing k v with
  | nil => simp [mapWf, mapAbove]
  | cons e m ih =>
    obtain ⟨k', v'⟩ := e
    have h2 := ih k' v'
    simp only [mapWf, Bool.and_eq_true, decide_eq_true_eq] at h2 ⊢
    constructor
    · rintro ⟨⟨h1, h3⟩, h4⟩
      refine ⟨h1, ?_, h4⟩
      intro e he
      rcases List.mem_cons.mp he with rfl | he
      · exact h3
      · exact Nat.lt_trans h3 ((h2.mp h4).2.1 e he)
    · rintro ⟨h1, h3, h4⟩
      exact ⟨⟨h1, h3 (k', v') (List.mem_cons_self ..)⟩, h4⟩

theorem mem_mapPut {α : Type} {k : Nat} {v : α} {m : List (Nat × α)} {e : Nat × α} (h : e ∈ mapPut k v m) : e.1 = k ∨ e ∈ m := by
  induction m with
  | nil => simp only [mapPut, List.mem_singleton] at h; left; rw [h]
  | cons a m ih =>
    obtain ⟨k', v'⟩ := a
    unfold mapPut at h
    split at h
    · rcases List.mem_cons.mp h with rfl | h
      · left; rfl
      · right; exact List.mem_cons_of_mem _ h
    · split at h
      · rcases List.mem_cons.mp h with rfl | h
        · left; rfl
        · right; exact h
      · rcases List.mem_cons.mp h with rfl | h
        · right; exact List.mem_cons_self ..
        · rcases ih h with h | h
          · left; exact h
          · right; exact List.mem_cons_of_mem _ h

/-- Putting a value other than the default keeps the canonical form. -/
theorem mapWf_mapPut {α : Type} [DecidableEq α] {d v : α} (hv : v ≠ d) (k : Nat) {m : List (Nat × α)} (h : mapWf d m = true) :
    mapWf d (mapPut k v m) = true := by
  induction m with
  | nil => simp [mapPut, mapWf, hv]
  | cons a m ih =>
    obtain ⟨k', v'⟩ := a
    rw [mapWf_cons] at h
    obtain ⟨h1, h2, h3⟩ := h
    unfold mapPut
    split <;> rename_i hk
    · subst hk; rw [mapWf_cons]; exact ⟨hv, h2, h3⟩
    · split <;> rename_i hlt
      · rw [mapWf_cons, mapWf_cons]
        refine ⟨hv, ?_, h1, h2, h3⟩
        intro e he
        rcases List.mem_cons.mp he with rfl | he
        · exact hlt
        · exact Nat.lt_trans hlt (h2 e he)
      · rw [mapWf_cons]
        refine ⟨h1, ?_, ih h3⟩
        intro e he
        rcases mem_mapPut he with he | he
        · rw [he]; omega
        · exact h2 e he

/-- Filtering keeps the canonical form. -/
theorem mapWf_filter {α : Type} [DecidableEq α] {d : α} (p : Nat × α → Bool) {m : List (Nat × α)} (h : mapWf d m = true) :
    mapWf d (m.filter p) = true := by
  induction m with
  | nil => rfl
  | cons a m ih =>
    obtain ⟨k, v⟩ := a
    rw [mapWf_cons] at h
    rw [List.filter_cons]
    split
    · rw [mapWf_cons]
      exact ⟨h.1, fun e he => h.2.1 e (List.mem_filter.mp he).1, ih h.2.2⟩
    · exact ih h.2.2

/-- Setting a value keeps the canonical form. -/
theorem mapWf_mapSet {α : Type} [DecidableEq α] (d : α) (k : Nat) (v : α) {m : List (Nat × α)} (h : mapWf d m = true) :
    mapWf d (mapSet d k v m) = true := by
  unfold mapSet
  split
  · exact mapWf_filter _ h
  · rename_i hv; exact mapWf_mapPut hv k h

/-! ### The memories -/

/-- A byte written keeps memory canonical. -/
theorem setByte_wf {s : State} (h : Memory.wf s.mem = true) (a : Nat) (b : Byte) : Memory.wf (s.setByte a b).mem = true :=
  mapWf_mapSet 0 _ b h

/-- Bytes written keep memory canonical. -/
theorem setBytes_wf {s : State} (h : Memory.wf s.mem = true) (a : Nat) (bs : List Byte) : Memory.wf (s.setBytes a bs).mem = true := by
  induction bs generalizing s a with
  | nil => exact h
  | cons b bs ih => exact ih (setByte_wf h a b) (a + 1)

/-- Forgetting a range keeps memory canonical. -/
theorem forget_wf {s : State} (h : Memory.wf s.mem = true) (lo hi : Nat) : Memory.wf (s.forget lo hi).mem = true := mapWf_filter _ h

/-- Bytes written to the MRAM keep it canonical. -/
theorem mramPut_wf {m : List Host.Cell} (h : Memory.wf m = true) (a : Nat) (bs : List Byte) : Memory.wf (mramPut m a bs) = true := by
  induction bs generalizing m a with
  | nil => exact h
  | cons b bs ih => exact ih (mapWf_mapSet 0 a b h) (a + 1)

/-- A byte reads back as written. -/
theorem byte_setByte_self (s : State) (a : Nat) (b : Byte) : (s.setByte a b).byte a = b := mapGet_mapSet_self 0 b _ _

/-- A byte kept elsewhere is left alone. -/
theorem byte_setByte_ne {s : State} {a a' : Nat} (h : memKey a' ≠ memKey a) (b : Byte) : (s.setByte a b).byte a' = s.byte a' :=
  mapGet_mapSet_ne 0 0 b h _

/-! ### Register fields -/

/-- A field reads back as written, in its low bits. -/
theorem get_put_self (s : State) (F : Fld) (v i j : Nat) : (s.put F v i j).get F i j = v % 2 ^ F.len := mapGet_mapSet_self _ _ _ _

/-- Another field is left alone. -/
theorem get_put_ne {s : State} {F G : Fld} {i j i' j' : Nat} (h : G.key i' j' ≠ F.key i j) (v : Nat) :
    (s.put F v i j).get G i' j' = s.get G i' j' := mapGet_mapSet_ne _ _ _ h _

end Sys2Proof.Machine
end

