-- ==== Sys2Proof/Laws/State.lean ====
section
/-! SUPPORT. Which fields of State the named updates leave alone, one lemma a field. -/

namespace Sys2Proof.Machine

@[simp] theorem State.put_mem (s : State) (F : Fld) (v i j : Nat) : (s.put F v i j).mem = s.mem := rfl
@[simp] theorem State.put_mram (s : State) (F : Fld) (v i j : Nat) : (s.put F v i j).mram = s.mram := rfl
@[simp] theorem State.put_pending (s : State) (F : Fld) (v i j : Nat) : (s.put F v i j).pending = s.pending := rfl
@[simp] theorem State.put_tx (s : State) (F : Fld) (v i j : Nat) : (s.put F v i j).tx = s.tx := rfl
@[simp] theorem State.put_draws (s : State) (F : Fld) (v i j : Nat) : (s.put F v i j).draws = s.draws := rfl
@[simp] theorem State.put_pow (s : State) (F : Fld) (v i j : Nat) : (s.put F v i j).pow = s.pow := rfl
@[simp] theorem State.put_cave (s : State) (F : Fld) (v i j : Nat) : (s.put F v i j).cave = s.cave := rfl
@[simp] theorem State.put_cmd (s : State) (F : Fld) (v i j : Nat) : (s.put F v i j).cmd = s.cmd := rfl
@[simp] theorem State.put_evt (s : State) (F : Fld) (v i j : Nat) : (s.put F v i j).evt = s.evt := rfl
@[simp] theorem State.put_time (s : State) (F : Fld) (v i j : Nat) : (s.put F v i j).time = s.time := rfl
@[simp] theorem State.put_host (s : State) (F : Fld) (v i j : Nat) : (s.put F v i j).host = s.host := rfl
@[simp] theorem State.put_fab (s : State) (F : Fld) (v i j : Nat) : (s.put F v i j).fab = s.fab := rfl
@[simp] theorem State.put_nvm (s : State) (F : Fld) (v i j : Nat) : (s.put F v i j).nvm = s.nvm := rfl
@[simp] theorem State.put_jtag (s : State) (F : Fld) (v i j : Nat) : (s.put F v i j).jtag = s.jtag := rfl
@[simp] theorem State.put_ing (s : State) (F : Fld) (v i j : Nat) : (s.put F v i j).ing = s.ing := rfl
@[simp] theorem State.put_nmap (s : State) (F : Fld) (v i j : Nat) : (s.put F v i j).nmap = s.nmap := rfl
@[simp] theorem State.put_fire (s : State) (F : Fld) (v i j : Nat) : (s.put F v i j).fire = s.fire := rfl
@[simp] theorem State.put_hl (s : State) (F : Fld) (v i j : Nat) : (s.put F v i j).hl = s.hl := rfl
@[simp] theorem State.put_pair (s : State) (F : Fld) (v i j : Nat) : (s.put F v i j).pair = s.pair := rfl
@[simp] theorem State.put_cam (s : State) (F : Fld) (v i j : Nat) : (s.put F v i j).cam = s.cam := rfl
@[simp] theorem State.put_axes (s : State) (F : Fld) (v i j : Nat) : (s.put F v i j).axes = s.axes := rfl
@[simp] theorem State.put_lamp (s : State) (F : Fld) (v i j : Nat) : (s.put F v i j).lamp = s.lamp := rfl
@[simp] theorem State.put_pos (s : State) (F : Fld) (v i j : Nat) : (s.put F v i j).pos = s.pos := rfl
@[simp] theorem State.put_dram (s : State) (F : Fld) (v i j : Nat) : (s.put F v i j).dram = s.dram := rfl
@[simp] theorem State.put_nha (s : State) (F : Fld) (v i j : Nat) : (s.put F v i j).nha = s.nha := rfl
@[simp] theorem State.put_cal (s : State) (F : Fld) (v i j : Nat) : (s.put F v i j).cal = s.cal := rfl

@[simp] theorem State.emit_regs (s : State) (o : Out) : (s.emit o).regs = s.regs := rfl
@[simp] theorem State.emit_mem (s : State) (o : Out) : (s.emit o).mem = s.mem := rfl
@[simp] theorem State.emit_mram (s : State) (o : Out) : (s.emit o).mram = s.mram := rfl
@[simp] theorem State.emit_pending (s : State) (o : Out) : (s.emit o).pending = s.pending := rfl
@[simp] theorem State.emit_draws (s : State) (o : Out) : (s.emit o).draws = s.draws := rfl
@[simp] theorem State.emit_pow (s : State) (o : Out) : (s.emit o).pow = s.pow := rfl
@[simp] theorem State.emit_cave (s : State) (o : Out) : (s.emit o).cave = s.cave := rfl
@[simp] theorem State.emit_cmd (s : State) (o : Out) : (s.emit o).cmd = s.cmd := rfl
@[simp] theorem State.emit_evt (s : State) (o : Out) : (s.emit o).evt = s.evt := rfl
@[simp] theorem State.emit_time (s : State) (o : Out) : (s.emit o).time = s.time := rfl
@[simp] theorem State.emit_host (s : State) (o : Out) : (s.emit o).host = s.host := rfl
@[simp] theorem State.emit_fab (s : State) (o : Out) : (s.emit o).fab = s.fab := rfl
@[simp] theorem State.emit_nvm (s : State) (o : Out) : (s.emit o).nvm = s.nvm := rfl
@[simp] theorem State.emit_jtag (s : State) (o : Out) : (s.emit o).jtag = s.jtag := rfl
@[simp] theorem State.emit_ing (s : State) (o : Out) : (s.emit o).ing = s.ing := rfl
@[simp] theorem State.emit_nmap (s : State) (o : Out) : (s.emit o).nmap = s.nmap := rfl
@[simp] theorem State.emit_fire (s : State) (o : Out) : (s.emit o).fire = s.fire := rfl
@[simp] theorem State.emit_hl (s : State) (o : Out) : (s.emit o).hl = s.hl := rfl
@[simp] theorem State.emit_pair (s : State) (o : Out) : (s.emit o).pair = s.pair := rfl
@[simp] theorem State.emit_cam (s : State) (o : Out) : (s.emit o).cam = s.cam := rfl
@[simp] theorem State.emit_axes (s : State) (o : Out) : (s.emit o).axes = s.axes := rfl
@[simp] theorem State.emit_lamp (s : State) (o : Out) : (s.emit o).lamp = s.lamp := rfl
@[simp] theorem State.emit_pos (s : State) (o : Out) : (s.emit o).pos = s.pos := rfl
@[simp] theorem State.emit_dram (s : State) (o : Out) : (s.emit o).dram = s.dram := rfl
@[simp] theorem State.emit_nha (s : State) (o : Out) : (s.emit o).nha = s.nha := rfl
@[simp] theorem State.emit_cal (s : State) (o : Out) : (s.emit o).cal = s.cal := rfl

@[simp] theorem State.setByte_regs (s : State) (a : Nat) (b : Byte) : (s.setByte a b).regs = s.regs := rfl
@[simp] theorem State.setByte_mram (s : State) (a : Nat) (b : Byte) : (s.setByte a b).mram = s.mram := rfl
@[simp] theorem State.setByte_pending (s : State) (a : Nat) (b : Byte) : (s.setByte a b).pending = s.pending := rfl
@[simp] theorem State.setByte_tx (s : State) (a : Nat) (b : Byte) : (s.setByte a b).tx = s.tx := rfl
@[simp] theorem State.setByte_draws (s : State) (a : Nat) (b : Byte) : (s.setByte a b).draws = s.draws := rfl
@[simp] theorem State.setByte_pow (s : State) (a : Nat) (b : Byte) : (s.setByte a b).pow = s.pow := rfl
@[simp] theorem State.setByte_cave (s : State) (a : Nat) (b : Byte) : (s.setByte a b).cave = s.cave := rfl
@[simp] theorem State.setByte_cmd (s : State) (a : Nat) (b : Byte) : (s.setByte a b).cmd = s.cmd := rfl
@[simp] theorem State.setByte_evt (s : State) (a : Nat) (b : Byte) : (s.setByte a b).evt = s.evt := rfl
@[simp] theorem State.setByte_time (s : State) (a : Nat) (b : Byte) : (s.setByte a b).time = s.time := rfl
@[simp] theorem State.setByte_host (s : State) (a : Nat) (b : Byte) : (s.setByte a b).host = s.host := rfl
@[simp] theorem State.setByte_fab (s : State) (a : Nat) (b : Byte) : (s.setByte a b).fab = s.fab := rfl
@[simp] theorem State.setByte_nvm (s : State) (a : Nat) (b : Byte) : (s.setByte a b).nvm = s.nvm := rfl
@[simp] theorem State.setByte_jtag (s : State) (a : Nat) (b : Byte) : (s.setByte a b).jtag = s.jtag := rfl
@[simp] theorem State.setByte_ing (s : State) (a : Nat) (b : Byte) : (s.setByte a b).ing = s.ing := rfl
@[simp] theorem State.setByte_nmap (s : State) (a : Nat) (b : Byte) : (s.setByte a b).nmap = s.nmap := rfl
@[simp] theorem State.setByte_fire (s : State) (a : Nat) (b : Byte) : (s.setByte a b).fire = s.fire := rfl
@[simp] theorem State.setByte_hl (s : State) (a : Nat) (b : Byte) : (s.setByte a b).hl = s.hl := rfl
@[simp] theorem State.setByte_pair (s : State) (a : Nat) (b : Byte) : (s.setByte a b).pair = s.pair := rfl
@[simp] theorem State.setByte_cam (s : State) (a : Nat) (b : Byte) : (s.setByte a b).cam = s.cam := rfl
@[simp] theorem State.setByte_axes (s : State) (a : Nat) (b : Byte) : (s.setByte a b).axes = s.axes := rfl
@[simp] theorem State.setByte_lamp (s : State) (a : Nat) (b : Byte) : (s.setByte a b).lamp = s.lamp := rfl
@[simp] theorem State.setByte_pos (s : State) (a : Nat) (b : Byte) : (s.setByte a b).pos = s.pos := rfl
@[simp] theorem State.setByte_dram (s : State) (a : Nat) (b : Byte) : (s.setByte a b).dram = s.dram := rfl
@[simp] theorem State.setByte_nha (s : State) (a : Nat) (b : Byte) : (s.setByte a b).nha = s.nha := rfl
@[simp] theorem State.setByte_cal (s : State) (a : Nat) (b : Byte) : (s.setByte a b).cal = s.cal := rfl

@[simp] theorem State.forget_regs (s : State) (lo hi : Nat) : (s.forget lo hi).regs = s.regs := rfl
@[simp] theorem State.forget_mram (s : State) (lo hi : Nat) : (s.forget lo hi).mram = s.mram := rfl
@[simp] theorem State.forget_pending (s : State) (lo hi : Nat) : (s.forget lo hi).pending = s.pending := rfl
@[simp] theorem State.forget_tx (s : State) (lo hi : Nat) : (s.forget lo hi).tx = s.tx := rfl
@[simp] theorem State.forget_draws (s : State) (lo hi : Nat) : (s.forget lo hi).draws = s.draws := rfl
@[simp] theorem State.forget_pow (s : State) (lo hi : Nat) : (s.forget lo hi).pow = s.pow := rfl
@[simp] theorem State.forget_cave (s : State) (lo hi : Nat) : (s.forget lo hi).cave = s.cave := rfl
@[simp] theorem State.forget_cmd (s : State) (lo hi : Nat) : (s.forget lo hi).cmd = s.cmd := rfl
@[simp] theorem State.forget_evt (s : State) (lo hi : Nat) : (s.forget lo hi).evt = s.evt := rfl
@[simp] theorem State.forget_time (s : State) (lo hi : Nat) : (s.forget lo hi).time = s.time := rfl
@[simp] theorem State.forget_host (s : State) (lo hi : Nat) : (s.forget lo hi).host = s.host := rfl
@[simp] theorem State.forget_fab (s : State) (lo hi : Nat) : (s.forget lo hi).fab = s.fab := rfl
@[simp] theorem State.forget_nvm (s : State) (lo hi : Nat) : (s.forget lo hi).nvm = s.nvm := rfl
@[simp] theorem State.forget_jtag (s : State) (lo hi : Nat) : (s.forget lo hi).jtag = s.jtag := rfl
@[simp] theorem State.forget_ing (s : State) (lo hi : Nat) : (s.forget lo hi).ing = s.ing := rfl
@[simp] theorem State.forget_nmap (s : State) (lo hi : Nat) : (s.forget lo hi).nmap = s.nmap := rfl
@[simp] theorem State.forget_fire (s : State) (lo hi : Nat) : (s.forget lo hi).fire = s.fire := rfl
@[simp] theorem State.forget_hl (s : State) (lo hi : Nat) : (s.forget lo hi).hl = s.hl := rfl
@[simp] theorem State.forget_pair (s : State) (lo hi : Nat) : (s.forget lo hi).pair = s.pair := rfl
@[simp] theorem State.forget_cam (s : State) (lo hi : Nat) : (s.forget lo hi).cam = s.cam := rfl
@[simp] theorem State.forget_axes (s : State) (lo hi : Nat) : (s.forget lo hi).axes = s.axes := rfl
@[simp] theorem State.forget_lamp (s : State) (lo hi : Nat) : (s.forget lo hi).lamp = s.lamp := rfl
@[simp] theorem State.forget_pos (s : State) (lo hi : Nat) : (s.forget lo hi).pos = s.pos := rfl
@[simp] theorem State.forget_dram (s : State) (lo hi : Nat) : (s.forget lo hi).dram = s.dram := rfl
@[simp] theorem State.forget_nha (s : State) (lo hi : Nat) : (s.forget lo hi).nha = s.nha := rfl
@[simp] theorem State.forget_cal (s : State) (lo hi : Nat) : (s.forget lo hi).cal = s.cal := rfl

@[simp] theorem State.dropRegs_mem (s : State) (d : Nat) : (s.dropRegs d).mem = s.mem := rfl
@[simp] theorem State.dropRegs_mram (s : State) (d : Nat) : (s.dropRegs d).mram = s.mram := rfl
@[simp] theorem State.dropRegs_pending (s : State) (d : Nat) : (s.dropRegs d).pending = s.pending := rfl
@[simp] theorem State.dropRegs_tx (s : State) (d : Nat) : (s.dropRegs d).tx = s.tx := rfl
@[simp] theorem State.dropRegs_draws (s : State) (d : Nat) : (s.dropRegs d).draws = s.draws := rfl
@[simp] theorem State.dropRegs_pow (s : State) (d : Nat) : (s.dropRegs d).pow = s.pow := rfl
@[simp] theorem State.dropRegs_cave (s : State) (d : Nat) : (s.dropRegs d).cave = s.cave := rfl
@[simp] theorem State.dropRegs_cmd (s : State) (d : Nat) : (s.dropRegs d).cmd = s.cmd := rfl
@[simp] theorem State.dropRegs_evt (s : State) (d : Nat) : (s.dropRegs d).evt = s.evt := rfl
@[simp] theorem State.dropRegs_time (s : State) (d : Nat) : (s.dropRegs d).time = s.time := rfl
@[simp] theorem State.dropRegs_host (s : State) (d : Nat) : (s.dropRegs d).host = s.host := rfl
@[simp] theorem State.dropRegs_fab (s : State) (d : Nat) : (s.dropRegs d).fab = s.fab := rfl
@[simp] theorem State.dropRegs_nvm (s : State) (d : Nat) : (s.dropRegs d).nvm = s.nvm := rfl
@[simp] theorem State.dropRegs_jtag (s : State) (d : Nat) : (s.dropRegs d).jtag = s.jtag := rfl
@[simp] theorem State.dropRegs_ing (s : State) (d : Nat) : (s.dropRegs d).ing = s.ing := rfl
@[simp] theorem State.dropRegs_nmap (s : State) (d : Nat) : (s.dropRegs d).nmap = s.nmap := rfl
@[simp] theorem State.dropRegs_fire (s : State) (d : Nat) : (s.dropRegs d).fire = s.fire := rfl
@[simp] theorem State.dropRegs_hl (s : State) (d : Nat) : (s.dropRegs d).hl = s.hl := rfl
@[simp] theorem State.dropRegs_pair (s : State) (d : Nat) : (s.dropRegs d).pair = s.pair := rfl
@[simp] theorem State.dropRegs_cam (s : State) (d : Nat) : (s.dropRegs d).cam = s.cam := rfl
@[simp] theorem State.dropRegs_axes (s : State) (d : Nat) : (s.dropRegs d).axes = s.axes := rfl
@[simp] theorem State.dropRegs_lamp (s : State) (d : Nat) : (s.dropRegs d).lamp = s.lamp := rfl
@[simp] theorem State.dropRegs_pos (s : State) (d : Nat) : (s.dropRegs d).pos = s.pos := rfl
@[simp] theorem State.dropRegs_dram (s : State) (d : Nat) : (s.dropRegs d).dram = s.dram := rfl
@[simp] theorem State.dropRegs_nha (s : State) (d : Nat) : (s.dropRegs d).nha = s.nha := rfl
@[simp] theorem State.dropRegs_cal (s : State) (d : Nat) : (s.dropRegs d).cal = s.cal := rfl

@[simp] theorem State.setFabPort_regs (s : State) (k : Nat) (p : FabPort) : (s.setFabPort k p).regs = s.regs := rfl
@[simp] theorem State.setFabPort_mem (s : State) (k : Nat) (p : FabPort) : (s.setFabPort k p).mem = s.mem := rfl
@[simp] theorem State.setFabPort_mram (s : State) (k : Nat) (p : FabPort) : (s.setFabPort k p).mram = s.mram := rfl
@[simp] theorem State.setFabPort_pending (s : State) (k : Nat) (p : FabPort) : (s.setFabPort k p).pending = s.pending := rfl
@[simp] theorem State.setFabPort_tx (s : State) (k : Nat) (p : FabPort) : (s.setFabPort k p).tx = s.tx := rfl
@[simp] theorem State.setFabPort_draws (s : State) (k : Nat) (p : FabPort) : (s.setFabPort k p).draws = s.draws := rfl
@[simp] theorem State.setFabPort_pow (s : State) (k : Nat) (p : FabPort) : (s.setFabPort k p).pow = s.pow := rfl
@[simp] theorem State.setFabPort_cave (s : State) (k : Nat) (p : FabPort) : (s.setFabPort k p).cave = s.cave := rfl
@[simp] theorem State.setFabPort_cmd (s : State) (k : Nat) (p : FabPort) : (s.setFabPort k p).cmd = s.cmd := rfl
@[simp] theorem State.setFabPort_evt (s : State) (k : Nat) (p : FabPort) : (s.setFabPort k p).evt = s.evt := rfl
@[simp] theorem State.setFabPort_time (s : State) (k : Nat) (p : FabPort) : (s.setFabPort k p).time = s.time := rfl
@[simp] theorem State.setFabPort_host (s : State) (k : Nat) (p : FabPort) : (s.setFabPort k p).host = s.host := rfl
@[simp] theorem State.setFabPort_nvm (s : State) (k : Nat) (p : FabPort) : (s.setFabPort k p).nvm = s.nvm := rfl
@[simp] theorem State.setFabPort_jtag (s : State) (k : Nat) (p : FabPort) : (s.setFabPort k p).jtag = s.jtag := rfl
@[simp] theorem State.setFabPort_ing (s : State) (k : Nat) (p : FabPort) : (s.setFabPort k p).ing = s.ing := rfl
@[simp] theorem State.setFabPort_nmap (s : State) (k : Nat) (p : FabPort) : (s.setFabPort k p).nmap = s.nmap := rfl
@[simp] theorem State.setFabPort_fire (s : State) (k : Nat) (p : FabPort) : (s.setFabPort k p).fire = s.fire := rfl
@[simp] theorem State.setFabPort_hl (s : State) (k : Nat) (p : FabPort) : (s.setFabPort k p).hl = s.hl := rfl
@[simp] theorem State.setFabPort_pair (s : State) (k : Nat) (p : FabPort) : (s.setFabPort k p).pair = s.pair := rfl
@[simp] theorem State.setFabPort_cam (s : State) (k : Nat) (p : FabPort) : (s.setFabPort k p).cam = s.cam := rfl
@[simp] theorem State.setFabPort_axes (s : State) (k : Nat) (p : FabPort) : (s.setFabPort k p).axes = s.axes := rfl
@[simp] theorem State.setFabPort_lamp (s : State) (k : Nat) (p : FabPort) : (s.setFabPort k p).lamp = s.lamp := rfl
@[simp] theorem State.setFabPort_pos (s : State) (k : Nat) (p : FabPort) : (s.setFabPort k p).pos = s.pos := rfl
@[simp] theorem State.setFabPort_dram (s : State) (k : Nat) (p : FabPort) : (s.setFabPort k p).dram = s.dram := rfl
@[simp] theorem State.setFabPort_nha (s : State) (k : Nat) (p : FabPort) : (s.setFabPort k p).nha = s.nha := rfl
@[simp] theorem State.setFabPort_cal (s : State) (k : Nat) (p : FabPort) : (s.setFabPort k p).cal = s.cal := rfl

@[simp] theorem State.setHead_regs (s : State) (h : Nat) (p : Head) : (s.setHead h p).regs = s.regs := rfl
@[simp] theorem State.setHead_mem (s : State) (h : Nat) (p : Head) : (s.setHead h p).mem = s.mem := rfl
@[simp] theorem State.setHead_mram (s : State) (h : Nat) (p : Head) : (s.setHead h p).mram = s.mram := rfl
@[simp] theorem State.setHead_pending (s : State) (h : Nat) (p : Head) : (s.setHead h p).pending = s.pending := rfl
@[simp] theorem State.setHead_tx (s : State) (h : Nat) (p : Head) : (s.setHead h p).tx = s.tx := rfl
@[simp] theorem State.setHead_draws (s : State) (h : Nat) (p : Head) : (s.setHead h p).draws = s.draws := rfl
@[simp] theorem State.setHead_pow (s : State) (h : Nat) (p : Head) : (s.setHead h p).pow = s.pow := rfl
@[simp] theorem State.setHead_cave (s : State) (h : Nat) (p : Head) : (s.setHead h p).cave = s.cave := rfl
@[simp] theorem State.setHead_cmd (s : State) (h : Nat) (p : Head) : (s.setHead h p).cmd = s.cmd := rfl
@[simp] theorem State.setHead_evt (s : State) (h : Nat) (p : Head) : (s.setHead h p).evt = s.evt := rfl
@[simp] theorem State.setHead_time (s : State) (h : Nat) (p : Head) : (s.setHead h p).time = s.time := rfl
@[simp] theorem State.setHead_host (s : State) (h : Nat) (p : Head) : (s.setHead h p).host = s.host := rfl
@[simp] theorem State.setHead_fab (s : State) (h : Nat) (p : Head) : (s.setHead h p).fab = s.fab := rfl
@[simp] theorem State.setHead_nvm (s : State) (h : Nat) (p : Head) : (s.setHead h p).nvm = s.nvm := rfl
@[simp] theorem State.setHead_jtag (s : State) (h : Nat) (p : Head) : (s.setHead h p).jtag = s.jtag := rfl
@[simp] theorem State.setHead_ing (s : State) (h : Nat) (p : Head) : (s.setHead h p).ing = s.ing := rfl
@[simp] theorem State.setHead_nmap (s : State) (h : Nat) (p : Head) : (s.setHead h p).nmap = s.nmap := rfl
@[simp] theorem State.setHead_fire (s : State) (h : Nat) (p : Head) : (s.setHead h p).fire = s.fire := rfl
@[simp] theorem State.setHead_pair (s : State) (h : Nat) (p : Head) : (s.setHead h p).pair = s.pair := rfl
@[simp] theorem State.setHead_cam (s : State) (h : Nat) (p : Head) : (s.setHead h p).cam = s.cam := rfl
@[simp] theorem State.setHead_axes (s : State) (h : Nat) (p : Head) : (s.setHead h p).axes = s.axes := rfl
@[simp] theorem State.setHead_lamp (s : State) (h : Nat) (p : Head) : (s.setHead h p).lamp = s.lamp := rfl
@[simp] theorem State.setHead_pos (s : State) (h : Nat) (p : Head) : (s.setHead h p).pos = s.pos := rfl
@[simp] theorem State.setHead_dram (s : State) (h : Nat) (p : Head) : (s.setHead h p).dram = s.dram := rfl
@[simp] theorem State.setHead_nha (s : State) (h : Nat) (p : Head) : (s.setHead h p).nha = s.nha := rfl
@[simp] theorem State.setHead_cal (s : State) (h : Nat) (p : Head) : (s.setHead h p).cal = s.cal := rfl

@[simp] theorem State.setAxis_regs (s : State) (a : Nat) (x : Axis) : (s.setAxis a x).regs = s.regs := rfl
@[simp] theorem State.setAxis_mem (s : State) (a : Nat) (x : Axis) : (s.setAxis a x).mem = s.mem := rfl
@[simp] theorem State.setAxis_mram (s : State) (a : Nat) (x : Axis) : (s.setAxis a x).mram = s.mram := rfl
@[simp] theorem State.setAxis_pending (s : State) (a : Nat) (x : Axis) : (s.setAxis a x).pending = s.pending := rfl
@[simp] theorem State.setAxis_tx (s : State) (a : Nat) (x : Axis) : (s.setAxis a x).tx = s.tx := rfl
@[simp] theorem State.setAxis_draws (s : State) (a : Nat) (x : Axis) : (s.setAxis a x).draws = s.draws := rfl
@[simp] theorem State.setAxis_pow (s : State) (a : Nat) (x : Axis) : (s.setAxis a x).pow = s.pow := rfl
@[simp] theorem State.setAxis_cave (s : State) (a : Nat) (x : Axis) : (s.setAxis a x).cave = s.cave := rfl
@[simp] theorem State.setAxis_cmd (s : State) (a : Nat) (x : Axis) : (s.setAxis a x).cmd = s.cmd := rfl
@[simp] theorem State.setAxis_evt (s : State) (a : Nat) (x : Axis) : (s.setAxis a x).evt = s.evt := rfl
@[simp] theorem State.setAxis_time (s : State) (a : Nat) (x : Axis) : (s.setAxis a x).time = s.time := rfl
@[simp] theorem State.setAxis_host (s : State) (a : Nat) (x : Axis) : (s.setAxis a x).host = s.host := rfl
@[simp] theorem State.setAxis_fab (s : State) (a : Nat) (x : Axis) : (s.setAxis a x).fab = s.fab := rfl
@[simp] theorem State.setAxis_nvm (s : State) (a : Nat) (x : Axis) : (s.setAxis a x).nvm = s.nvm := rfl
@[simp] theorem State.setAxis_jtag (s : State) (a : Nat) (x : Axis) : (s.setAxis a x).jtag = s.jtag := rfl
@[simp] theorem State.setAxis_ing (s : State) (a : Nat) (x : Axis) : (s.setAxis a x).ing = s.ing := rfl
@[simp] theorem State.setAxis_nmap (s : State) (a : Nat) (x : Axis) : (s.setAxis a x).nmap = s.nmap := rfl
@[simp] theorem State.setAxis_fire (s : State) (a : Nat) (x : Axis) : (s.setAxis a x).fire = s.fire := rfl
@[simp] theorem State.setAxis_hl (s : State) (a : Nat) (x : Axis) : (s.setAxis a x).hl = s.hl := rfl
@[simp] theorem State.setAxis_pair (s : State) (a : Nat) (x : Axis) : (s.setAxis a x).pair = s.pair := rfl
@[simp] theorem State.setAxis_cam (s : State) (a : Nat) (x : Axis) : (s.setAxis a x).cam = s.cam := rfl
@[simp] theorem State.setAxis_lamp (s : State) (a : Nat) (x : Axis) : (s.setAxis a x).lamp = s.lamp := rfl
@[simp] theorem State.setAxis_pos (s : State) (a : Nat) (x : Axis) : (s.setAxis a x).pos = s.pos := rfl
@[simp] theorem State.setAxis_dram (s : State) (a : Nat) (x : Axis) : (s.setAxis a x).dram = s.dram := rfl
@[simp] theorem State.setAxis_nha (s : State) (a : Nat) (x : Axis) : (s.setAxis a x).nha = s.nha := rfl
@[simp] theorem State.setAxis_cal (s : State) (a : Nat) (x : Axis) : (s.setAxis a x).cal = s.cal := rfl

@[simp] theorem State.setLamp_regs (s : State) (l : Nat) (x : Lamp) : (s.setLamp l x).regs = s.regs := rfl
@[simp] theorem State.setLamp_mem (s : State) (l : Nat) (x : Lamp) : (s.setLamp l x).mem = s.mem := rfl
@[simp] theorem State.setLamp_mram (s : State) (l : Nat) (x : Lamp) : (s.setLamp l x).mram = s.mram := rfl
@[simp] theorem State.setLamp_pending (s : State) (l : Nat) (x : Lamp) : (s.setLamp l x).pending = s.pending := rfl
@[simp] theorem State.setLamp_tx (s : State) (l : Nat) (x : Lamp) : (s.setLamp l x).tx = s.tx := rfl
@[simp] theorem State.setLamp_draws (s : State) (l : Nat) (x : Lamp) : (s.setLamp l x).draws = s.draws := rfl
@[simp] theorem State.setLamp_pow (s : State) (l : Nat) (x : Lamp) : (s.setLamp l x).pow = s.pow := rfl
@[simp] theorem State.setLamp_cave (s : State) (l : Nat) (x : Lamp) : (s.setLamp l x).cave = s.cave := rfl
@[simp] theorem State.setLamp_cmd (s : State) (l : Nat) (x : Lamp) : (s.setLamp l x).cmd = s.cmd := rfl
@[simp] theorem State.setLamp_evt (s : State) (l : Nat) (x : Lamp) : (s.setLamp l x).evt = s.evt := rfl
@[simp] theorem State.setLamp_time (s : State) (l : Nat) (x : Lamp) : (s.setLamp l x).time = s.time := rfl
@[simp] theorem State.setLamp_host (s : State) (l : Nat) (x : Lamp) : (s.setLamp l x).host = s.host := rfl
@[simp] theorem State.setLamp_fab (s : State) (l : Nat) (x : Lamp) : (s.setLamp l x).fab = s.fab := rfl
@[simp] theorem State.setLamp_nvm (s : State) (l : Nat) (x : Lamp) : (s.setLamp l x).nvm = s.nvm := rfl
@[simp] theorem State.setLamp_jtag (s : State) (l : Nat) (x : Lamp) : (s.setLamp l x).jtag = s.jtag := rfl
@[simp] theorem State.setLamp_ing (s : State) (l : Nat) (x : Lamp) : (s.setLamp l x).ing = s.ing := rfl
@[simp] theorem State.setLamp_nmap (s : State) (l : Nat) (x : Lamp) : (s.setLamp l x).nmap = s.nmap := rfl
@[simp] theorem State.setLamp_fire (s : State) (l : Nat) (x : Lamp) : (s.setLamp l x).fire = s.fire := rfl
@[simp] theorem State.setLamp_hl (s : State) (l : Nat) (x : Lamp) : (s.setLamp l x).hl = s.hl := rfl
@[simp] theorem State.setLamp_pair (s : State) (l : Nat) (x : Lamp) : (s.setLamp l x).pair = s.pair := rfl
@[simp] theorem State.setLamp_cam (s : State) (l : Nat) (x : Lamp) : (s.setLamp l x).cam = s.cam := rfl
@[simp] theorem State.setLamp_axes (s : State) (l : Nat) (x : Lamp) : (s.setLamp l x).axes = s.axes := rfl
@[simp] theorem State.setLamp_pos (s : State) (l : Nat) (x : Lamp) : (s.setLamp l x).pos = s.pos := rfl
@[simp] theorem State.setLamp_dram (s : State) (l : Nat) (x : Lamp) : (s.setLamp l x).dram = s.dram := rfl
@[simp] theorem State.setLamp_nha (s : State) (l : Nat) (x : Lamp) : (s.setLamp l x).nha = s.nha := rfl
@[simp] theorem State.setLamp_cal (s : State) (l : Nat) (x : Lamp) : (s.setLamp l x).cal = s.cal := rfl

@[simp] theorem State.setChan_regs (s : State) (n : Nat) (c : PosChan) : (s.setChan n c).regs = s.regs := rfl
@[simp] theorem State.setChan_mem (s : State) (n : Nat) (c : PosChan) : (s.setChan n c).mem = s.mem := rfl
@[simp] theorem State.setChan_mram (s : State) (n : Nat) (c : PosChan) : (s.setChan n c).mram = s.mram := rfl
@[simp] theorem State.setChan_pending (s : State) (n : Nat) (c : PosChan) : (s.setChan n c).pending = s.pending := rfl
@[simp] theorem State.setChan_tx (s : State) (n : Nat) (c : PosChan) : (s.setChan n c).tx = s.tx := rfl
@[simp] theorem State.setChan_draws (s : State) (n : Nat) (c : PosChan) : (s.setChan n c).draws = s.draws := rfl
@[simp] theorem State.setChan_pow (s : State) (n : Nat) (c : PosChan) : (s.setChan n c).pow = s.pow := rfl
@[simp] theorem State.setChan_cave (s : State) (n : Nat) (c : PosChan) : (s.setChan n c).cave = s.cave := rfl
@[simp] theorem State.setChan_cmd (s : State) (n : Nat) (c : PosChan) : (s.setChan n c).cmd = s.cmd := rfl
@[simp] theorem State.setChan_evt (s : State) (n : Nat) (c : PosChan) : (s.setChan n c).evt = s.evt := rfl
@[simp] theorem State.setChan_time (s : State) (n : Nat) (c : PosChan) : (s.setChan n c).time = s.time := rfl
@[simp] theorem State.setChan_host (s : State) (n : Nat) (c : PosChan) : (s.setChan n c).host = s.host := rfl
@[simp] theorem State.setChan_fab (s : State) (n : Nat) (c : PosChan) : (s.setChan n c).fab = s.fab := rfl
@[simp] theorem State.setChan_nvm (s : State) (n : Nat) (c : PosChan) : (s.setChan n c).nvm = s.nvm := rfl
@[simp] theorem State.setChan_jtag (s : State) (n : Nat) (c : PosChan) : (s.setChan n c).jtag = s.jtag := rfl
@[simp] theorem State.setChan_ing (s : State) (n : Nat) (c : PosChan) : (s.setChan n c).ing = s.ing := rfl
@[simp] theorem State.setChan_nmap (s : State) (n : Nat) (c : PosChan) : (s.setChan n c).nmap = s.nmap := rfl
@[simp] theorem State.setChan_fire (s : State) (n : Nat) (c : PosChan) : (s.setChan n c).fire = s.fire := rfl
@[simp] theorem State.setChan_hl (s : State) (n : Nat) (c : PosChan) : (s.setChan n c).hl = s.hl := rfl
@[simp] theorem State.setChan_pair (s : State) (n : Nat) (c : PosChan) : (s.setChan n c).pair = s.pair := rfl
@[simp] theorem State.setChan_cam (s : State) (n : Nat) (c : PosChan) : (s.setChan n c).cam = s.cam := rfl
@[simp] theorem State.setChan_axes (s : State) (n : Nat) (c : PosChan) : (s.setChan n c).axes = s.axes := rfl
@[simp] theorem State.setChan_lamp (s : State) (n : Nat) (c : PosChan) : (s.setChan n c).lamp = s.lamp := rfl
@[simp] theorem State.setChan_dram (s : State) (n : Nat) (c : PosChan) : (s.setChan n c).dram = s.dram := rfl
@[simp] theorem State.setChan_nha (s : State) (n : Nat) (c : PosChan) : (s.setChan n c).nha = s.nha := rfl
@[simp] theorem State.setChan_cal (s : State) (n : Nat) (c : PosChan) : (s.setChan n c).cal = s.cal := rfl

@[simp] theorem State.setCamPort_regs (s : State) (c : Nat) (p : CamPort) : (s.setCamPort c p).regs = s.regs := rfl
@[simp] theorem State.setCamPort_mem (s : State) (c : Nat) (p : CamPort) : (s.setCamPort c p).mem = s.mem := rfl
@[simp] theorem State.setCamPort_mram (s : State) (c : Nat) (p : CamPort) : (s.setCamPort c p).mram = s.mram := rfl
@[simp] theorem State.setCamPort_pending (s : State) (c : Nat) (p : CamPort) : (s.setCamPort c p).pending = s.pending := rfl
@[simp] theorem State.setCamPort_tx (s : State) (c : Nat) (p : CamPort) : (s.setCamPort c p).tx = s.tx := rfl
@[simp] theorem State.setCamPort_draws (s : State) (c : Nat) (p : CamPort) : (s.setCamPort c p).draws = s.draws := rfl
@[simp] theorem State.setCamPort_pow (s : State) (c : Nat) (p : CamPort) : (s.setCamPort c p).pow = s.pow := rfl
@[simp] theorem State.setCamPort_cave (s : State) (c : Nat) (p : CamPort) : (s.setCamPort c p).cave = s.cave := rfl
@[simp] theorem State.setCamPort_cmd (s : State) (c : Nat) (p : CamPort) : (s.setCamPort c p).cmd = s.cmd := rfl
@[simp] theorem State.setCamPort_evt (s : State) (c : Nat) (p : CamPort) : (s.setCamPort c p).evt = s.evt := rfl
@[simp] theorem State.setCamPort_time (s : State) (c : Nat) (p : CamPort) : (s.setCamPort c p).time = s.time := rfl
@[simp] theorem State.setCamPort_host (s : State) (c : Nat) (p : CamPort) : (s.setCamPort c p).host = s.host := rfl
@[simp] theorem State.setCamPort_fab (s : State) (c : Nat) (p : CamPort) : (s.setCamPort c p).fab = s.fab := rfl
@[simp] theorem State.setCamPort_nvm (s : State) (c : Nat) (p : CamPort) : (s.setCamPort c p).nvm = s.nvm := rfl
@[simp] theorem State.setCamPort_jtag (s : State) (c : Nat) (p : CamPort) : (s.setCamPort c p).jtag = s.jtag := rfl
@[simp] theorem State.setCamPort_ing (s : State) (c : Nat) (p : CamPort) : (s.setCamPort c p).ing = s.ing := rfl
@[simp] theorem State.setCamPort_nmap (s : State) (c : Nat) (p : CamPort) : (s.setCamPort c p).nmap = s.nmap := rfl
@[simp] theorem State.setCamPort_fire (s : State) (c : Nat) (p : CamPort) : (s.setCamPort c p).fire = s.fire := rfl
@[simp] theorem State.setCamPort_hl (s : State) (c : Nat) (p : CamPort) : (s.setCamPort c p).hl = s.hl := rfl
@[simp] theorem State.setCamPort_pair (s : State) (c : Nat) (p : CamPort) : (s.setCamPort c p).pair = s.pair := rfl
@[simp] theorem State.setCamPort_axes (s : State) (c : Nat) (p : CamPort) : (s.setCamPort c p).axes = s.axes := rfl
@[simp] theorem State.setCamPort_lamp (s : State) (c : Nat) (p : CamPort) : (s.setCamPort c p).lamp = s.lamp := rfl
@[simp] theorem State.setCamPort_pos (s : State) (c : Nat) (p : CamPort) : (s.setCamPort c p).pos = s.pos := rfl
@[simp] theorem State.setCamPort_dram (s : State) (c : Nat) (p : CamPort) : (s.setCamPort c p).dram = s.dram := rfl
@[simp] theorem State.setCamPort_nha (s : State) (c : Nat) (p : CamPort) : (s.setCamPort c p).nha = s.nha := rfl
@[simp] theorem State.setCamPort_cal (s : State) (c : Nat) (p : CamPort) : (s.setCamPort c p).cal = s.cal := rfl

@[simp] theorem State.setStream_regs (s : State) (p n : Nat) (x : Stream) : (s.setStream p n x).regs = s.regs := rfl
@[simp] theorem State.setStream_mem (s : State) (p n : Nat) (x : Stream) : (s.setStream p n x).mem = s.mem := rfl
@[simp] theorem State.setStream_mram (s : State) (p n : Nat) (x : Stream) : (s.setStream p n x).mram = s.mram := rfl
@[simp] theorem State.setStream_pending (s : State) (p n : Nat) (x : Stream) : (s.setStream p n x).pending = s.pending := rfl
@[simp] theorem State.setStream_tx (s : State) (p n : Nat) (x : Stream) : (s.setStream p n x).tx = s.tx := rfl
@[simp] theorem State.setStream_draws (s : State) (p n : Nat) (x : Stream) : (s.setStream p n x).draws = s.draws := rfl
@[simp] theorem State.setStream_pow (s : State) (p n : Nat) (x : Stream) : (s.setStream p n x).pow = s.pow := rfl
@[simp] theorem State.setStream_cave (s : State) (p n : Nat) (x : Stream) : (s.setStream p n x).cave = s.cave := rfl
@[simp] theorem State.setStream_cmd (s : State) (p n : Nat) (x : Stream) : (s.setStream p n x).cmd = s.cmd := rfl
@[simp] theorem State.setStream_evt (s : State) (p n : Nat) (x : Stream) : (s.setStream p n x).evt = s.evt := rfl
@[simp] theorem State.setStream_time (s : State) (p n : Nat) (x : Stream) : (s.setStream p n x).time = s.time := rfl
@[simp] theorem State.setStream_fab (s : State) (p n : Nat) (x : Stream) : (s.setStream p n x).fab = s.fab := rfl
@[simp] theorem State.setStream_nvm (s : State) (p n : Nat) (x : Stream) : (s.setStream p n x).nvm = s.nvm := rfl
@[simp] theorem State.setStream_jtag (s : State) (p n : Nat) (x : Stream) : (s.setStream p n x).jtag = s.jtag := rfl
@[simp] theorem State.setStream_ing (s : State) (p n : Nat) (x : Stream) : (s.setStream p n x).ing = s.ing := rfl
@[simp] theorem State.setStream_nmap (s : State) (p n : Nat) (x : Stream) : (s.setStream p n x).nmap = s.nmap := rfl
@[simp] theorem State.setStream_fire (s : State) (p n : Nat) (x : Stream) : (s.setStream p n x).fire = s.fire := rfl
@[simp] theorem State.setStream_hl (s : State) (p n : Nat) (x : Stream) : (s.setStream p n x).hl = s.hl := rfl
@[simp] theorem State.setStream_pair (s : State) (p n : Nat) (x : Stream) : (s.setStream p n x).pair = s.pair := rfl
@[simp] theorem State.setStream_cam (s : State) (p n : Nat) (x : Stream) : (s.setStream p n x).cam = s.cam := rfl
@[simp] theorem State.setStream_axes (s : State) (p n : Nat) (x : Stream) : (s.setStream p n x).axes = s.axes := rfl
@[simp] theorem State.setStream_lamp (s : State) (p n : Nat) (x : Stream) : (s.setStream p n x).lamp = s.lamp := rfl
@[simp] theorem State.setStream_pos (s : State) (p n : Nat) (x : Stream) : (s.setStream p n x).pos = s.pos := rfl
@[simp] theorem State.setStream_dram (s : State) (p n : Nat) (x : Stream) : (s.setStream p n x).dram = s.dram := rfl
@[simp] theorem State.setStream_nha (s : State) (p n : Nat) (x : Stream) : (s.setStream p n x).nha = s.nha := rfl
@[simp] theorem State.setStream_cal (s : State) (p n : Nat) (x : Stream) : (s.setStream p n x).cal = s.cal := rfl

@[simp] theorem State.setPtp_regs (s : State) (p : Nat) (x : Ptp) : (s.setPtp p x).regs = s.regs := rfl
@[simp] theorem State.setPtp_mem (s : State) (p : Nat) (x : Ptp) : (s.setPtp p x).mem = s.mem := rfl
@[simp] theorem State.setPtp_mram (s : State) (p : Nat) (x : Ptp) : (s.setPtp p x).mram = s.mram := rfl
@[simp] theorem State.setPtp_pending (s : State) (p : Nat) (x : Ptp) : (s.setPtp p x).pending = s.pending := rfl
@[simp] theorem State.setPtp_tx (s : State) (p : Nat) (x : Ptp) : (s.setPtp p x).tx = s.tx := rfl
@[simp] theorem State.setPtp_draws (s : State) (p : Nat) (x : Ptp) : (s.setPtp p x).draws = s.draws := rfl
@[simp] theorem State.setPtp_pow (s : State) (p : Nat) (x : Ptp) : (s.setPtp p x).pow = s.pow := rfl
@[simp] theorem State.setPtp_cave (s : State) (p : Nat) (x : Ptp) : (s.setPtp p x).cave = s.cave := rfl
@[simp] theorem State.setPtp_cmd (s : State) (p : Nat) (x : Ptp) : (s.setPtp p x).cmd = s.cmd := rfl
@[simp] theorem State.setPtp_evt (s : State) (p : Nat) (x : Ptp) : (s.setPtp p x).evt = s.evt := rfl
@[simp] theorem State.setPtp_time (s : State) (p : Nat) (x : Ptp) : (s.setPtp p x).time = s.time := rfl
@[simp] theorem State.setPtp_fab (s : State) (p : Nat) (x : Ptp) : (s.setPtp p x).fab = s.fab := rfl
@[simp] theorem State.setPtp_nvm (s : State) (p : Nat) (x : Ptp) : (s.setPtp p x).nvm = s.nvm := rfl
@[simp] theorem State.setPtp_jtag (s : State) (p : Nat) (x : Ptp) : (s.setPtp p x).jtag = s.jtag := rfl
@[simp] theorem State.setPtp_ing (s : State) (p : Nat) (x : Ptp) : (s.setPtp p x).ing = s.ing := rfl
@[simp] theorem State.setPtp_nmap (s : State) (p : Nat) (x : Ptp) : (s.setPtp p x).nmap = s.nmap := rfl
@[simp] theorem State.setPtp_fire (s : State) (p : Nat) (x : Ptp) : (s.setPtp p x).fire = s.fire := rfl
@[simp] theorem State.setPtp_hl (s : State) (p : Nat) (x : Ptp) : (s.setPtp p x).hl = s.hl := rfl
@[simp] theorem State.setPtp_pair (s : State) (p : Nat) (x : Ptp) : (s.setPtp p x).pair = s.pair := rfl
@[simp] theorem State.setPtp_cam (s : State) (p : Nat) (x : Ptp) : (s.setPtp p x).cam = s.cam := rfl
@[simp] theorem State.setPtp_axes (s : State) (p : Nat) (x : Ptp) : (s.setPtp p x).axes = s.axes := rfl
@[simp] theorem State.setPtp_lamp (s : State) (p : Nat) (x : Ptp) : (s.setPtp p x).lamp = s.lamp := rfl
@[simp] theorem State.setPtp_pos (s : State) (p : Nat) (x : Ptp) : (s.setPtp p x).pos = s.pos := rfl
@[simp] theorem State.setPtp_dram (s : State) (p : Nat) (x : Ptp) : (s.setPtp p x).dram = s.dram := rfl
@[simp] theorem State.setPtp_nha (s : State) (p : Nat) (x : Ptp) : (s.setPtp p x).nha = s.nha := rfl
@[simp] theorem State.setPtp_cal (s : State) (p : Nat) (x : Ptp) : (s.setPtp p x).cal = s.cal := rfl

@[simp] theorem State.setEndpoint_regs (s : State) (k : Nat) (e : Endpoint) : (s.setEndpoint k e).regs = s.regs := rfl
@[simp] theorem State.setEndpoint_mem (s : State) (k : Nat) (e : Endpoint) : (s.setEndpoint k e).mem = s.mem := rfl
@[simp] theorem State.setEndpoint_mram (s : State) (k : Nat) (e : Endpoint) : (s.setEndpoint k e).mram = s.mram := rfl
@[simp] theorem State.setEndpoint_pending (s : State) (k : Nat) (e : Endpoint) : (s.setEndpoint k e).pending = s.pending := rfl
@[simp] theorem State.setEndpoint_tx (s : State) (k : Nat) (e : Endpoint) : (s.setEndpoint k e).tx = s.tx := rfl
@[simp] theorem State.setEndpoint_draws (s : State) (k : Nat) (e : Endpoint) : (s.setEndpoint k e).draws = s.draws := rfl
@[simp] theorem State.setEndpoint_pow (s : State) (k : Nat) (e : Endpoint) : (s.setEndpoint k e).pow = s.pow := rfl
@[simp] theorem State.setEndpoint_cave (s : State) (k : Nat) (e : Endpoint) : (s.setEndpoint k e).cave = s.cave := rfl
@[simp] theorem State.setEndpoint_evt (s : State) (k : Nat) (e : Endpoint) : (s.setEndpoint k e).evt = s.evt := rfl
@[simp] theorem State.setEndpoint_time (s : State) (k : Nat) (e : Endpoint) : (s.setEndpoint k e).time = s.time := rfl
@[simp] theorem State.setEndpoint_host (s : State) (k : Nat) (e : Endpoint) : (s.setEndpoint k e).host = s.host := rfl
@[simp] theorem State.setEndpoint_fab (s : State) (k : Nat) (e : Endpoint) : (s.setEndpoint k e).fab = s.fab := rfl
@[simp] theorem State.setEndpoint_nvm (s : State) (k : Nat) (e : Endpoint) : (s.setEndpoint k e).nvm = s.nvm := rfl
@[simp] theorem State.setEndpoint_jtag (s : State) (k : Nat) (e : Endpoint) : (s.setEndpoint k e).jtag = s.jtag := rfl
@[simp] theorem State.setEndpoint_ing (s : State) (k : Nat) (e : Endpoint) : (s.setEndpoint k e).ing = s.ing := rfl
@[simp] theorem State.setEndpoint_nmap (s : State) (k : Nat) (e : Endpoint) : (s.setEndpoint k e).nmap = s.nmap := rfl
@[simp] theorem State.setEndpoint_fire (s : State) (k : Nat) (e : Endpoint) : (s.setEndpoint k e).fire = s.fire := rfl
@[simp] theorem State.setEndpoint_hl (s : State) (k : Nat) (e : Endpoint) : (s.setEndpoint k e).hl = s.hl := rfl
@[simp] theorem State.setEndpoint_pair (s : State) (k : Nat) (e : Endpoint) : (s.setEndpoint k e).pair = s.pair := rfl
@[simp] theorem State.setEndpoint_cam (s : State) (k : Nat) (e : Endpoint) : (s.setEndpoint k e).cam = s.cam := rfl
@[simp] theorem State.setEndpoint_axes (s : State) (k : Nat) (e : Endpoint) : (s.setEndpoint k e).axes = s.axes := rfl
@[simp] theorem State.setEndpoint_lamp (s : State) (k : Nat) (e : Endpoint) : (s.setEndpoint k e).lamp = s.lamp := rfl
@[simp] theorem State.setEndpoint_pos (s : State) (k : Nat) (e : Endpoint) : (s.setEndpoint k e).pos = s.pos := rfl
@[simp] theorem State.setEndpoint_dram (s : State) (k : Nat) (e : Endpoint) : (s.setEndpoint k e).dram = s.dram := rfl
@[simp] theorem State.setEndpoint_nha (s : State) (k : Nat) (e : Endpoint) : (s.setEndpoint k e).nha = s.nha := rfl
@[simp] theorem State.setEndpoint_cal (s : State) (k : Nat) (e : Endpoint) : (s.setEndpoint k e).cal = s.cal := rfl

@[simp] theorem State.setWake_regs (s : State) (d : Nat) (w : Option Wake) : (s.setWake d w).regs = s.regs := rfl
@[simp] theorem State.setWake_mem (s : State) (d : Nat) (w : Option Wake) : (s.setWake d w).mem = s.mem := rfl
@[simp] theorem State.setWake_mram (s : State) (d : Nat) (w : Option Wake) : (s.setWake d w).mram = s.mram := rfl
@[simp] theorem State.setWake_pending (s : State) (d : Nat) (w : Option Wake) : (s.setWake d w).pending = s.pending := rfl
@[simp] theorem State.setWake_tx (s : State) (d : Nat) (w : Option Wake) : (s.setWake d w).tx = s.tx := rfl
@[simp] theorem State.setWake_draws (s : State) (d : Nat) (w : Option Wake) : (s.setWake d w).draws = s.draws := rfl
@[simp] theorem State.setWake_cave (s : State) (d : Nat) (w : Option Wake) : (s.setWake d w).cave = s.cave := rfl
@[simp] theorem State.setWake_cmd (s : State) (d : Nat) (w : Option Wake) : (s.setWake d w).cmd = s.cmd := rfl
@[simp] theorem State.setWake_evt (s : State) (d : Nat) (w : Option Wake) : (s.setWake d w).evt = s.evt := rfl
@[simp] theorem State.setWake_time (s : State) (d : Nat) (w : Option Wake) : (s.setWake d w).time = s.time := rfl
@[simp] theorem State.setWake_host (s : State) (d : Nat) (w : Option Wake) : (s.setWake d w).host = s.host := rfl
@[simp] theorem State.setWake_fab (s : State) (d : Nat) (w : Option Wake) : (s.setWake d w).fab = s.fab := rfl
@[simp] theorem State.setWake_nvm (s : State) (d : Nat) (w : Option Wake) : (s.setWake d w).nvm = s.nvm := rfl
@[simp] theorem State.setWake_jtag (s : State) (d : Nat) (w : Option Wake) : (s.setWake d w).jtag = s.jtag := rfl
@[simp] theorem State.setWake_ing (s : State) (d : Nat) (w : Option Wake) : (s.setWake d w).ing = s.ing := rfl
@[simp] theorem State.setWake_nmap (s : State) (d : Nat) (w : Option Wake) : (s.setWake d w).nmap = s.nmap := rfl
@[simp] theorem State.setWake_fire (s : State) (d : Nat) (w : Option Wake) : (s.setWake d w).fire = s.fire := rfl
@[simp] theorem State.setWake_hl (s : State) (d : Nat) (w : Option Wake) : (s.setWake d w).hl = s.hl := rfl
@[simp] theorem State.setWake_pair (s : State) (d : Nat) (w : Option Wake) : (s.setWake d w).pair = s.pair := rfl
@[simp] theorem State.setWake_cam (s : State) (d : Nat) (w : Option Wake) : (s.setWake d w).cam = s.cam := rfl
@[simp] theorem State.setWake_axes (s : State) (d : Nat) (w : Option Wake) : (s.setWake d w).axes = s.axes := rfl
@[simp] theorem State.setWake_lamp (s : State) (d : Nat) (w : Option Wake) : (s.setWake d w).lamp = s.lamp := rfl
@[simp] theorem State.setWake_pos (s : State) (d : Nat) (w : Option Wake) : (s.setWake d w).pos = s.pos := rfl
@[simp] theorem State.setWake_dram (s : State) (d : Nat) (w : Option Wake) : (s.setWake d w).dram = s.dram := rfl
@[simp] theorem State.setWake_nha (s : State) (d : Nat) (w : Option Wake) : (s.setWake d w).nha = s.nha := rfl
@[simp] theorem State.setWake_cal (s : State) (d : Nat) (w : Option Wake) : (s.setWake d w).cal = s.cal := rfl

@[simp] theorem State.setJtag_regs (s : State) (j : Jtag) : (s.setJtag j).regs = s.regs := rfl
@[simp] theorem State.setJtag_mem (s : State) (j : Jtag) : (s.setJtag j).mem = s.mem := rfl
@[simp] theorem State.setJtag_mram (s : State) (j : Jtag) : (s.setJtag j).mram = s.mram := rfl
@[simp] theorem State.setJtag_pending (s : State) (j : Jtag) : (s.setJtag j).pending = s.pending := rfl
@[simp] theorem State.setJtag_tx (s : State) (j : Jtag) : (s.setJtag j).tx = s.tx := rfl
@[simp] theorem State.setJtag_draws (s : State) (j : Jtag) : (s.setJtag j).draws = s.draws := rfl
@[simp] theorem State.setJtag_pow (s : State) (j : Jtag) : (s.setJtag j).pow = s.pow := rfl
@[simp] theorem State.setJtag_cave (s : State) (j : Jtag) : (s.setJtag j).cave = s.cave := rfl
@[simp] theorem State.setJtag_cmd (s : State) (j : Jtag) : (s.setJtag j).cmd = s.cmd := rfl
@[simp] theorem State.setJtag_evt (s : State) (j : Jtag) : (s.setJtag j).evt = s.evt := rfl
@[simp] theorem State.setJtag_time (s : State) (j : Jtag) : (s.setJtag j).time = s.time := rfl
@[simp] theorem State.setJtag_host (s : State) (j : Jtag) : (s.setJtag j).host = s.host := rfl
@[simp] theorem State.setJtag_fab (s : State) (j : Jtag) : (s.setJtag j).fab = s.fab := rfl
@[simp] theorem State.setJtag_nvm (s : State) (j : Jtag) : (s.setJtag j).nvm = s.nvm := rfl
@[simp] theorem State.setJtag_ing (s : State) (j : Jtag) : (s.setJtag j).ing = s.ing := rfl
@[simp] theorem State.setJtag_nmap (s : State) (j : Jtag) : (s.setJtag j).nmap = s.nmap := rfl
@[simp] theorem State.setJtag_fire (s : State) (j : Jtag) : (s.setJtag j).fire = s.fire := rfl
@[simp] theorem State.setJtag_hl (s : State) (j : Jtag) : (s.setJtag j).hl = s.hl := rfl
@[simp] theorem State.setJtag_pair (s : State) (j : Jtag) : (s.setJtag j).pair = s.pair := rfl
@[simp] theorem State.setJtag_cam (s : State) (j : Jtag) : (s.setJtag j).cam = s.cam := rfl
@[simp] theorem State.setJtag_axes (s : State) (j : Jtag) : (s.setJtag j).axes = s.axes := rfl
@[simp] theorem State.setJtag_lamp (s : State) (j : Jtag) : (s.setJtag j).lamp = s.lamp := rfl
@[simp] theorem State.setJtag_pos (s : State) (j : Jtag) : (s.setJtag j).pos = s.pos := rfl
@[simp] theorem State.setJtag_dram (s : State) (j : Jtag) : (s.setJtag j).dram = s.dram := rfl
@[simp] theorem State.setJtag_nha (s : State) (j : Jtag) : (s.setJtag j).nha = s.nha := rfl
@[simp] theorem State.setJtag_cal (s : State) (j : Jtag) : (s.setJtag j).cal = s.cal := rfl

@[simp] theorem State.setCalView_regs (s : State) (h : Nat) (v : CalView) : (s.setCalView h v).regs = s.regs := rfl
@[simp] theorem State.setCalView_mem (s : State) (h : Nat) (v : CalView) : (s.setCalView h v).mem = s.mem := rfl
@[simp] theorem State.setCalView_mram (s : State) (h : Nat) (v : CalView) : (s.setCalView h v).mram = s.mram := rfl
@[simp] theorem State.setCalView_pending (s : State) (h : Nat) (v : CalView) : (s.setCalView h v).pending = s.pending := rfl
@[simp] theorem State.setCalView_tx (s : State) (h : Nat) (v : CalView) : (s.setCalView h v).tx = s.tx := rfl
@[simp] theorem State.setCalView_draws (s : State) (h : Nat) (v : CalView) : (s.setCalView h v).draws = s.draws := rfl
@[simp] theorem State.setCalView_pow (s : State) (h : Nat) (v : CalView) : (s.setCalView h v).pow = s.pow := rfl
@[simp] theorem State.setCalView_cave (s : State) (h : Nat) (v : CalView) : (s.setCalView h v).cave = s.cave := rfl
@[simp] theorem State.setCalView_cmd (s : State) (h : Nat) (v : CalView) : (s.setCalView h v).cmd = s.cmd := rfl
@[simp] theorem State.setCalView_evt (s : State) (h : Nat) (v : CalView) : (s.setCalView h v).evt = s.evt := rfl
@[simp] theorem State.setCalView_time (s : State) (h : Nat) (v : CalView) : (s.setCalView h v).time = s.time := rfl
@[simp] theorem State.setCalView_host (s : State) (h : Nat) (v : CalView) : (s.setCalView h v).host = s.host := rfl
@[simp] theorem State.setCalView_fab (s : State) (h : Nat) (v : CalView) : (s.setCalView h v).fab = s.fab := rfl
@[simp] theorem State.setCalView_nvm (s : State) (h : Nat) (v : CalView) : (s.setCalView h v).nvm = s.nvm := rfl
@[simp] theorem State.setCalView_jtag (s : State) (h : Nat) (v : CalView) : (s.setCalView h v).jtag = s.jtag := rfl
@[simp] theorem State.setCalView_ing (s : State) (h : Nat) (v : CalView) : (s.setCalView h v).ing = s.ing := rfl
@[simp] theorem State.setCalView_nmap (s : State) (h : Nat) (v : CalView) : (s.setCalView h v).nmap = s.nmap := rfl
@[simp] theorem State.setCalView_fire (s : State) (h : Nat) (v : CalView) : (s.setCalView h v).fire = s.fire := rfl
@[simp] theorem State.setCalView_hl (s : State) (h : Nat) (v : CalView) : (s.setCalView h v).hl = s.hl := rfl
@[simp] theorem State.setCalView_pair (s : State) (h : Nat) (v : CalView) : (s.setCalView h v).pair = s.pair := rfl
@[simp] theorem State.setCalView_cam (s : State) (h : Nat) (v : CalView) : (s.setCalView h v).cam = s.cam := rfl
@[simp] theorem State.setCalView_axes (s : State) (h : Nat) (v : CalView) : (s.setCalView h v).axes = s.axes := rfl
@[simp] theorem State.setCalView_lamp (s : State) (h : Nat) (v : CalView) : (s.setCalView h v).lamp = s.lamp := rfl
@[simp] theorem State.setCalView_pos (s : State) (h : Nat) (v : CalView) : (s.setCalView h v).pos = s.pos := rfl
@[simp] theorem State.setCalView_dram (s : State) (h : Nat) (v : CalView) : (s.setCalView h v).dram = s.dram := rfl
@[simp] theorem State.setCalView_nha (s : State) (h : Nat) (v : CalView) : (s.setCalView h v).nha = s.nha := rfl

@[simp] theorem State.setPages_regs (s : State) (ps : List Page) : (s.setPages ps).regs = s.regs := rfl
@[simp] theorem State.setPages_mem (s : State) (ps : List Page) : (s.setPages ps).mem = s.mem := rfl
@[simp] theorem State.setPages_mram (s : State) (ps : List Page) : (s.setPages ps).mram = s.mram := rfl
@[simp] theorem State.setPages_pending (s : State) (ps : List Page) : (s.setPages ps).pending = s.pending := rfl
@[simp] theorem State.setPages_tx (s : State) (ps : List Page) : (s.setPages ps).tx = s.tx := rfl
@[simp] theorem State.setPages_draws (s : State) (ps : List Page) : (s.setPages ps).draws = s.draws := rfl
@[simp] theorem State.setPages_pow (s : State) (ps : List Page) : (s.setPages ps).pow = s.pow := rfl
@[simp] theorem State.setPages_cave (s : State) (ps : List Page) : (s.setPages ps).cave = s.cave := rfl
@[simp] theorem State.setPages_cmd (s : State) (ps : List Page) : (s.setPages ps).cmd = s.cmd := rfl
@[simp] theorem State.setPages_evt (s : State) (ps : List Page) : (s.setPages ps).evt = s.evt := rfl
@[simp] theorem State.setPages_time (s : State) (ps : List Page) : (s.setPages ps).time = s.time := rfl
@[simp] theorem State.setPages_host (s : State) (ps : List Page) : (s.setPages ps).host = s.host := rfl
@[simp] theorem State.setPages_fab (s : State) (ps : List Page) : (s.setPages ps).fab = s.fab := rfl
@[simp] theorem State.setPages_nvm (s : State) (ps : List Page) : (s.setPages ps).nvm = s.nvm := rfl
@[simp] theorem State.setPages_jtag (s : State) (ps : List Page) : (s.setPages ps).jtag = s.jtag := rfl
@[simp] theorem State.setPages_nmap (s : State) (ps : List Page) : (s.setPages ps).nmap = s.nmap := rfl
@[simp] theorem State.setPages_fire (s : State) (ps : List Page) : (s.setPages ps).fire = s.fire := rfl
@[simp] theorem State.setPages_hl (s : State) (ps : List Page) : (s.setPages ps).hl = s.hl := rfl
@[simp] theorem State.setPages_pair (s : State) (ps : List Page) : (s.setPages ps).pair = s.pair := rfl
@[simp] theorem State.setPages_cam (s : State) (ps : List Page) : (s.setPages ps).cam = s.cam := rfl
@[simp] theorem State.setPages_axes (s : State) (ps : List Page) : (s.setPages ps).axes = s.axes := rfl
@[simp] theorem State.setPages_lamp (s : State) (ps : List Page) : (s.setPages ps).lamp = s.lamp := rfl
@[simp] theorem State.setPages_pos (s : State) (ps : List Page) : (s.setPages ps).pos = s.pos := rfl
@[simp] theorem State.setPages_dram (s : State) (ps : List Page) : (s.setPages ps).dram = s.dram := rfl
@[simp] theorem State.setPages_nha (s : State) (ps : List Page) : (s.setPages ps).nha = s.nha := rfl
@[simp] theorem State.setPages_cal (s : State) (ps : List Page) : (s.setPages ps).cal = s.cal := rfl

@[simp] theorem State.withCommand_regs (s : State) (c : Instr) : (s.withCommand c).regs = s.regs := rfl
@[simp] theorem State.withCommand_mem (s : State) (c : Instr) : (s.withCommand c).mem = s.mem := rfl
@[simp] theorem State.withCommand_mram (s : State) (c : Instr) : (s.withCommand c).mram = s.mram := rfl
@[simp] theorem State.withCommand_tx (s : State) (c : Instr) : (s.withCommand c).tx = s.tx := rfl
@[simp] theorem State.withCommand_draws (s : State) (c : Instr) : (s.withCommand c).draws = s.draws := rfl
@[simp] theorem State.withCommand_pow (s : State) (c : Instr) : (s.withCommand c).pow = s.pow := rfl
@[simp] theorem State.withCommand_cave (s : State) (c : Instr) : (s.withCommand c).cave = s.cave := rfl
@[simp] theorem State.withCommand_cmd (s : State) (c : Instr) : (s.withCommand c).cmd = s.cmd := rfl
@[simp] theorem State.withCommand_evt (s : State) (c : Instr) : (s.withCommand c).evt = s.evt := rfl
@[simp] theorem State.withCommand_time (s : State) (c : Instr) : (s.withCommand c).time = s.time := rfl
@[simp] theorem State.withCommand_host (s : State) (c : Instr) : (s.withCommand c).host = s.host := rfl
@[simp] theorem State.withCommand_fab (s : State) (c : Instr) : (s.withCommand c).fab = s.fab := rfl
@[simp] theorem State.withCommand_nvm (s : State) (c : Instr) : (s.withCommand c).nvm = s.nvm := rfl
@[simp] theorem State.withCommand_jtag (s : State) (c : Instr) : (s.withCommand c).jtag = s.jtag := rfl
@[simp] theorem State.withCommand_ing (s : State) (c : Instr) : (s.withCommand c).ing = s.ing := rfl
@[simp] theorem State.withCommand_nmap (s : State) (c : Instr) : (s.withCommand c).nmap = s.nmap := rfl
@[simp] theorem State.withCommand_fire (s : State) (c : Instr) : (s.withCommand c).fire = s.fire := rfl
@[simp] theorem State.withCommand_hl (s : State) (c : Instr) : (s.withCommand c).hl = s.hl := rfl
@[simp] theorem State.withCommand_pair (s : State) (c : Instr) : (s.withCommand c).pair = s.pair := rfl
@[simp] theorem State.withCommand_cam (s : State) (c : Instr) : (s.withCommand c).cam = s.cam := rfl
@[simp] theorem State.withCommand_axes (s : State) (c : Instr) : (s.withCommand c).axes = s.axes := rfl
@[simp] theorem State.withCommand_lamp (s : State) (c : Instr) : (s.withCommand c).lamp = s.lamp := rfl
@[simp] theorem State.withCommand_pos (s : State) (c : Instr) : (s.withCommand c).pos = s.pos := rfl
@[simp] theorem State.withCommand_dram (s : State) (c : Instr) : (s.withCommand c).dram = s.dram := rfl
@[simp] theorem State.withCommand_nha (s : State) (c : Instr) : (s.withCommand c).nha = s.nha := rfl
@[simp] theorem State.withCommand_cal (s : State) (c : Instr) : (s.withCommand c).cal = s.cal := rfl

@[simp] theorem State.draw_regs (s : State) (n : Nat) : (s.draw n).2.regs = s.regs := rfl
@[simp] theorem State.draw_mem (s : State) (n : Nat) : (s.draw n).2.mem = s.mem := rfl
@[simp] theorem State.draw_mram (s : State) (n : Nat) : (s.draw n).2.mram = s.mram := rfl
@[simp] theorem State.draw_pending (s : State) (n : Nat) : (s.draw n).2.pending = s.pending := rfl
@[simp] theorem State.draw_tx (s : State) (n : Nat) : (s.draw n).2.tx = s.tx := rfl
@[simp] theorem State.draw_pow (s : State) (n : Nat) : (s.draw n).2.pow = s.pow := rfl
@[simp] theorem State.draw_cave (s : State) (n : Nat) : (s.draw n).2.cave = s.cave := rfl
@[simp] theorem State.draw_cmd (s : State) (n : Nat) : (s.draw n).2.cmd = s.cmd := rfl
@[simp] theorem State.draw_evt (s : State) (n : Nat) : (s.draw n).2.evt = s.evt := rfl
@[simp] theorem State.draw_time (s : State) (n : Nat) : (s.draw n).2.time = s.time := rfl
@[simp] theorem State.draw_host (s : State) (n : Nat) : (s.draw n).2.host = s.host := rfl
@[simp] theorem State.draw_fab (s : State) (n : Nat) : (s.draw n).2.fab = s.fab := rfl
@[simp] theorem State.draw_nvm (s : State) (n : Nat) : (s.draw n).2.nvm = s.nvm := rfl
@[simp] theorem State.draw_jtag (s : State) (n : Nat) : (s.draw n).2.jtag = s.jtag := rfl
@[simp] theorem State.draw_ing (s : State) (n : Nat) : (s.draw n).2.ing = s.ing := rfl
@[simp] theorem State.draw_nmap (s : State) (n : Nat) : (s.draw n).2.nmap = s.nmap := rfl
@[simp] theorem State.draw_fire (s : State) (n : Nat) : (s.draw n).2.fire = s.fire := rfl
@[simp] theorem State.draw_hl (s : State) (n : Nat) : (s.draw n).2.hl = s.hl := rfl
@[simp] theorem State.draw_pair (s : State) (n : Nat) : (s.draw n).2.pair = s.pair := rfl
@[simp] theorem State.draw_cam (s : State) (n : Nat) : (s.draw n).2.cam = s.cam := rfl
@[simp] theorem State.draw_axes (s : State) (n : Nat) : (s.draw n).2.axes = s.axes := rfl
@[simp] theorem State.draw_lamp (s : State) (n : Nat) : (s.draw n).2.lamp = s.lamp := rfl
@[simp] theorem State.draw_pos (s : State) (n : Nat) : (s.draw n).2.pos = s.pos := rfl
@[simp] theorem State.draw_dram (s : State) (n : Nat) : (s.draw n).2.dram = s.dram := rfl
@[simp] theorem State.draw_nha (s : State) (n : Nat) : (s.draw n).2.nha = s.nha := rfl
@[simp] theorem State.draw_cal (s : State) (n : Nat) : (s.draw n).2.cal = s.cal := rfl

@[simp] theorem State.setJtag_jtag (s : State) (j : Jtag) : (s.setJtag j).jtag = j := rfl
@[simp] theorem State.emit_tx (s : State) (o : Out) : (s.emit o).tx = o :: s.tx := rfl

end Sys2Proof.Machine
end

