-- ==== Sys2Proof/Laws/Events.lean ====
section
/-! SUPPORT. What raising an event and sending a packet leave alone. -/

namespace Sys2Proof.Machine

theorem Quiet.refl (s : State) : Quiet s s := ⟨fun _ _ _ _ _ => rfl, rfl, rfl, rfl, rfl, rfl, rfl, rfl, rfl, rfl, rfl, rfl, rfl, rfl, rfl, rfl, rfl, rfl, rfl, rfl, rfl, rfl⟩

theorem Quiet.trans {s t u : State} (h1 : Quiet s t) (h2 : Quiet t u) : Quiet s u :=
  ⟨fun F i j h h' => (h2.regs F i j h h').trans (h1.regs F i j h h'), h2.mem.trans h1.mem, h2.mram.trans h1.mram, h2.pending.trans h1.pending, h2.draws.trans h1.draws, h2.pow.trans h1.pow, h2.cave.trans h1.cave, h2.cmd.trans h1.cmd, h2.time.trans h1.time, h2.jtag.trans h1.jtag, h2.ing.trans h1.ing, h2.nmap.trans h1.nmap, h2.fire.trans h1.fire, h2.hl.trans h1.hl, h2.pair.trans h1.pair, h2.cam.trans h1.cam, h2.axes.trans h1.axes, h2.lamp.trans h1.lamp, h2.pos.trans h1.pos, h2.dram.trans h1.dram, h2.nha.trans h1.nha, h2.cal.trans h1.cal⟩

theorem quiet_emit (s : State) (o : Out) : Quiet s (s.emit o) := ⟨fun _ _ _ _ _ => rfl, rfl, rfl, rfl, rfl, rfl, rfl, rfl, rfl, rfl, rfl, rfl, rfl, rfl, rfl, rfl, rfl, rfl, rfl, rfl, rfl, rfl⟩

theorem quiet_evt (s : State) (e : Evt) : Quiet s { s with evt := e } := ⟨fun _ _ _ _ _ => rfl, rfl, rfl, rfl, rfl, rfl, rfl, rfl, rfl, rfl, rfl, rfl, rfl, rfl, rfl, rfl, rfl, rfl, rfl, rfl, rfl, rfl⟩

theorem quiet_fab (s : State) (e : Fab) : Quiet s { s with fab := e } := ⟨fun _ _ _ _ _ => rfl, rfl, rfl, rfl, rfl, rfl, rfl, rfl, rfl, rfl, rfl, rfl, rfl, rfl, rfl, rfl, rfl, rfl, rfl, rfl, rfl, rfl⟩

theorem quiet_host (s : State) (e : Hosts) : Quiet s { s with host := e } := ⟨fun _ _ _ _ _ => rfl, rfl, rfl, rfl, rfl, rfl, rfl, rfl, rfl, rfl, rfl, rfl, rfl, rfl, rfl, rfl, rfl, rfl, rfl, rfl, rfl, rfl⟩

theorem quiet_nvm (s : State) (e : Nvm) : Quiet s { s with nvm := e } := ⟨fun _ _ _ _ _ => rfl, rfl, rfl, rfl, rfl, rfl, rfl, rfl, rfl, rfl, rfl, rfl, rfl, rfl, rfl, rfl, rfl, rfl, rfl, rfl, rfl, rfl⟩

/-- A write of TX_SLEEP or of a field of NVM. -/
theorem quiet_put (s : State) (F : Fld) (v i j : Nat)
    (hk : (∃ k < 8, F.key i j = FAB_STATUS.TX_SLEEP.key k 0) ∨ (8 * 0x1200000 ≤ F.key i j ∧ F.key i j < 8 * 0x1300000)) :
    Quiet s (s.put F v i j) :=
  ⟨fun G i' j' h h' => get_put_ne (fun hg => by
      rcases hk with ⟨k, hk, he⟩ | hk
      · exact h' k hk (hg.trans he)
      · omega) v, rfl, rfl, rfl, rfl, rfl, rfl, rfl, rfl, rfl, rfl, rfl, rfl, rfl, rfl, rfl, rfl, rfl, rfl, rfl, rfl, rfl⟩

theorem quiet_each {α : Type} {f : α → State → State} (h : ∀ a s, Quiet s (f a s)) (l : List α) (s : State) : Quiet s (each f l s) := by
  induction l generalizing s with
  | nil => exact Quiet.refl s
  | cons a l ih => exact (h a s).trans (ih (f a s))

theorem quiet_onlyIf {c : Bool} {f : State → State} {s : State} (h : Quiet s (f s)) : Quiet s (onlyIf c f s) := by
  unfold onlyIf; split
  · exact h
  · exact Quiet.refl s

theorem quiet_fabSendNow (k : Nat) (c : List Byte) (s : State) : Quiet s (fabSendNow k c s) :=
  (quiet_fab s _).trans (quiet_emit _ _)

theorem quiet_fabDrain (n k : Nat) (s : State) : Quiet s (fabDrain n k s) := by
  induction n generalizing s with
  | zero => exact Quiet.refl s
  | succ n ih =>
    unfold fabDrain
    split
    · exact Quiet.refl s
    · split
      · exact ((quiet_fab s _).trans (quiet_fabSendNow _ _ _)).trans (ih _)
      · exact Quiet.refl s

theorem quiet_fabEndQuiet {k : Nat} (hk : k < 8) (s : State) : Quiet s (fabEndQuiet k s) := by
  unfold fabEndQuiet
  split
  · exact (quiet_put s FAB_STATUS.TX_SLEEP 0 k 0 (.inl ⟨k, hk, rfl⟩)).trans (quiet_emit _ _)
  · exact Quiet.refl s

theorem quiet_fabPush {k : Nat} (hk : k < 8) (c : List Byte) (s : State) : Quiet s (fabPush k c s) := by
  unfold fabPush
  simp only []
  split
  · exact (quiet_fabEndQuiet hk s).trans (quiet_emit _ _)
  · exact ((quiet_fabEndQuiet hk s).trans (quiet_fab _ _)).trans (quiet_fabDrain _ _ _)

/-- Sending a cell of one's own. -/
theorem quiet_fabOriginate (cls dst : Nat) (payload : List Byte) (s : State) : Quiet s (fabOriginate cls dst payload s) := by
  unfold fabOriginate
  simp only []
  split
  · rename_i k hk
    have hk8 : k < 8 := by
      unfold fabOutPort at hk
      simp only [] at hk
      split at hk
      · rename_i h; cases hk; exact h.1
      · cases hk
    exact (quiet_fab s _).trans (quiet_fabPush hk8 _ _)
  · exact quiet_fab s _

theorem quiet_sendEvent (n : Nat) (rs : List EvtRecord) (s : State) : Quiet s (sendEvent n rs s) := by
  unfold sendEvent
  simp only []
  split
  · split
    · exact ((quiet_evt s _).trans (quiet_emit _ _)).trans (quiet_fabOriginate _ _ _ _)
    · unfold hostDatagram
      split
      · exact (quiet_evt s _).trans (quiet_emit _ _)
      · exact ((quiet_evt s _).trans (quiet_host _ _)).trans (quiet_emit _ _)
  · exact quiet_evt s _

theorem quiet_closeBatch (n : Nat) (s : State) : Quiet s (closeBatch n s) := by
  unfold closeBatch
  split
  · exact Quiet.refl s
  · exact (quiet_evt s _).trans (quiet_sendEvent _ _ _)

theorem quiet_sendRecord (r : EvtRecord) (n : Nat) (s : State) : Quiet s (sendRecord r n s) := by
  unfold sendRecord
  split
  · split
    · simp only []
      split
      · exact (quiet_evt s _).trans (quiet_closeBatch _ _)
      · exact quiet_evt s _
    · exact quiet_sendEvent _ _ _
  · exact Quiet.refl s

theorem quiet_nvmPush (j : NvmJob) (s : State) : Quiet s (nvmPush j s) := by
  unfold nvmPush
  split
  · exact quiet_put s NVM_DROPPED.COUNT _ 0 0 (by simp only [Fld.key, NVM_DROPPED.COUNT]; omega)
  · exact (quiet_nvm s _).trans (quiet_put _ NVM_STATUS.QUEUE _ 0 0 (by simp only [Fld.key, NVM_STATUS.QUEUE]; omega))

theorem quiet_faultLog (source time info : Nat) (s : State) : Quiet s (faultLog source time info s) := by
  unfold faultLog
  split
  · exact (quiet_nvmPush _ s).trans (quiet_nvm _ _)
  · exact quiet_put s NVM_DROPPED.COUNT _ 0 0 (by simp only [Fld.key, NVM_DROPPED.COUNT]; omega)

theorem quiet_evtSet (n count : Nat) (s : State) : Quiet s (evtSet n count s) := quiet_evt s _

theorem quiet_told (r : EvtRecord) {s u : State} (h : Quiet s u) :
    Quiet s (if evtEnabled u r.source then each (sendRecord r) evtSlots (evtSet r.source r.occur u) else u) := by
  split
  · exact (h.trans (quiet_evtSet _ _ u)).trans (quiet_each (fun n s => quiet_sendRecord r n s) _ _)
  · exact h

theorem quiet_occurrence (r : EvtRecord) (s : State) : Quiet s (occurrence r s) := by
  unfold occurrence
  split
  · split
    · exact quiet_evt s _
    · exact Quiet.refl s
  · have h1 : Quiet s (if bit (s.get NVM_LOG_MASK.MASK (r.source / 32)) (r.source % 32) then faultLog r.source r.time r.info s else s) := by
      split
      · exact quiet_faultLog _ _ _ s
      · exact Quiet.refl s
    exact quiet_told r h1

/-- Raising a source at a time. -/
theorem quiet_raiseAt (source info time : Nat) (s : State) : Quiet s (raiseAt source info time s) := by
  unfold raiseAt
  simp only []
  split
  · exact quiet_occurrence _ s
  · exact quiet_evt s _

/-- Raising a source. -/
theorem quiet_raise (source info : Nat) (s : State) : Quiet s (raise source info s) := quiet_raiseAt source info s.now s

/-- Raising the sources that were held. -/
theorem quiet_raiseHeld (s : State) : Quiet s (raiseHeld s) := (quiet_evt s _).trans (quiet_each quiet_occurrence _ _)

end Sys2Proof.Machine
end

