-- ==== Sys2Proof/Laws/Pipeline.lean ====
section
/-! SUPPORT. The command path: a packet that Table 4.5 lets pass is carried out and answered. -/

namespace Sys2Proof.Machine

theorem sameCommand_self (w : Waiting) : sameCommand w w = true := by simp [sameCommand]

theorem targetState_ready {w : Waiting} {s : State}
    (h : ((needsOf w.opcode w.params w.hdr.ordered s).all (needMet s (waitKey w))) = true) :
    targetState w s = perform w (needsOf w.opcode w.params w.hdr.ordered s) s := by
  have hn : (needsOf w.opcode w.params w.hdr.ordered s).filter (needAsleep s) = [] := by
    rw [List.filter_eq_nil_iff]
    intro d hd hs
    have hm := (List.all_eq_true.mp h) d hd
    simp only [needAsleep, Bool.and_eq_true, Bool.or_eq_true, decide_eq_true_eq] at hs
    obtain ⟨h1, h2⟩ := hs
    simp only [needMet] at hm
    rw [if_neg (by omega), if_neg (by omega)] at hm
    simp only [State.on, decide_eq_true_eq] at hm
    omega
  unfold targetState
  simp only [hn, h, if_true]

theorem notePeer_waiting (via : Ingress) (h : Hdr) (p : Option NetAddr) (s : State) : (notePeer via h p s).cmd.waiting = s.cmd.waiting := by
  cases via <;> rfl

theorem notePeer_endpoints (via : Ingress) (h : Hdr) (p : Option NetAddr) (s : State) : (notePeer via h p s).cmd.endpoints = s.cmd.endpoints := by
  cases via <;> rfl

theorem notePeer_pow (via : Ingress) (h : Hdr) (p : Option NetAddr) (s : State) : (notePeer via h p s).pow = s.pow := by
  cases via <;> rfl

theorem accepted_waiting (via : Ingress) (op : Nat) (h : Hdr) (ps : List Byte) (s : State) :
    (accepted via op h ps s).cmd.waiting = [asWaiting via op h ps] := by
  simp [accepted, notePeer_waiting]

theorem accepted_pow (via : Ingress) (op : Nat) (h : Hdr) (ps : List Byte) (s : State) : (accepted via op h ps s).pow = s.pow := by
  simp only [accepted, notePeer_pow]
  cases via <;> rfl

/-- The endpoint of an accepted command keeps its version and its features. -/
theorem accepted_endpoint (via : Ingress) (op : Nat) (h : Hdr) (ps : List Byte) (s : State) :
    (accepted via op h ps s).endpoint (packetKey via h)
      = { s.endpoint (packetKey via h) with window := (h.alive.toNat :: (s.endpoint (packetKey via h)).window).take 8 } := by
  simp only [accepted, State.endpoint, notePeer_endpoints, State.setEndpoint, mapGet_mapSet_self]

theorem stOk_eq : stOk = 0 := rfl

/-- Steps 9 to 12 passed: the command is carried out and answered. -/
theorem startCommand_ready {via : Ingress} {op : Nat} {h : Hdr} {ps : List Byte} {s : State} (hb : bodyReady via op h ps s = true) :
    startCommand (asWaiting via op h ps) (accepted via op h ps s) = answered via op h ps (acted via op h ps s) := by
  simp only [bodyReady, Bool.and_eq_true, Bool.not_eq_true', decide_eq_true_eq] at hb
  obtain ⟨⟨⟨⟨hr, ho⟩, hp⟩, hd⟩, hn⟩ := hb
  have hk : waitKey (asWaiting via op h ps) = packetKey via h := rfl
  unfold startCommand
  simp only [hk, accepted_endpoint, accepted_pow]
  rw [if_neg, if_neg, if_neg]
  · have hd' : denied (viaClass via) op ps (accepted via op h ps s) = none := by simpa using hd
    have hd2 : denied (viaClass (asWaiting via op h ps).via) (asWaiting via op h ps).opcode (asWaiting via op h ps).params (accepted via op h ps s) = none := hd'
    rw [hd2]
    simp only []
    rw [targetState_ready (w := asWaiting via op h ps) hn]
    rfl
  · have : paramsOk (limits via (s.endpoint (packetKey via h)).version) op ps (accepted via op h ps s) = true := hp
    simp [asWaiting, this]
  · simp [ho]
  · intro hc
    have := hc.2
    simp [asWaiting] at this
    simp [hc.1, this] at hr

/-- The only outstanding command starts. -/
theorem resume_one {w : Waiting} {s : State} (hw : s.cmd.waiting = [w]) (hn : w.needs = []) : resume s = startCommand w s := by
  have ht : ([w].takeWhile fun u => !sameCommand w u) = [] := by simp [sameCommand_self]
  have hh : heldBack s w [] = false := rfl
  simp only [resume, hw, each, goOn, List.find?, sameCommand_self, hn, List.isEmpty_nil, if_true, ht, hh, Bool.false_eq_true, if_false]

/-- A packet that Table 4.5 lets pass is carried out and answered. -/
theorem packet_ready {via : Ingress} {op : Nat} {h : Hdr} {ps : List Byte} {s : State} (hr : PacketReady via op h ps s) :
    packet via op h ps s = answered via op h ps (acted via op h ps s) := by
  obtain ⟨hh, hb⟩ := hr
  have hb' := startCommand_ready hb
  simp only [headerReady, Bool.and_eq_true, Bool.or_eq_true, decide_eq_true_eq, List.isEmpty_iff] at hh
  obtain ⟨⟨⟨⟨ha, -⟩, hdst⟩, hw⟩, hst⟩ := hh
  have he : (dropReply via s).endpoint (packetKey via h) = s.endpoint (packetKey via h) := by unfold dropReply; split <;> rfl
  have hw' : (dropReply via s).cmd.waiting = [] := by unfold dropReply; split <;> simpa using hw
  have hadm : admitStatus via h (s.endpoint (packetKey via h)) ((dropReply via s).setEndpoint (packetKey via h)
      { s.endpoint (packetKey via h) with window := (h.alive.toNat :: (s.endpoint (packetKey via h)).window).take 8 }) = stOk := by
    simp only [admitStatus, outstandingOf, State.setEndpoint, hw', List.filter_nil, List.any_nil, List.length_nil]
    unfold limits
    cases via <;> simp <;> split <;> decide
  unfold packet packetFrom takePacket
  rw [if_neg (by simp [ha]), if_neg (by
    have : s.node = (dropReply via s).node := by unfold dropReply; split <;> rfl
    rw [← this]; rcases hdst with h1 | h1 <;> simp [h1])]
  simp only [he, hst, ne_eq, not_true_eq_false, if_false, hadm]
  have hacc : notePeer via h none { ((dropReply via s).setEndpoint (packetKey via h)
      { s.endpoint (packetKey via h) with window := (h.alive.toNat :: (s.endpoint (packetKey via h)).window).take 8 }) with
      cmd := { ((dropReply via s).setEndpoint (packetKey via h)
      { s.endpoint (packetKey via h) with window := (h.alive.toNat :: (s.endpoint (packetKey via h)).window).take 8 }).cmd with
        waiting := [asWaiting via op h ps] } } = accepted via op h ps s := rfl
  have hsw : ((dropReply via s).setEndpoint (packetKey via h)
      { s.endpoint (packetKey via h) with window := (h.alive.toNat :: (s.endpoint (packetKey via h)).window).take 8 }).cmd.waiting = [] := hw'
  have hwl : ((dropReply via s).setEndpoint (packetKey via h)
      { s.endpoint (packetKey via h) with window := (h.alive.toNat :: (s.endpoint (packetKey via h)).window).take 8 }).cmd.waiting
      ++ [({ via := via, hdr := h, opcode := op, params := ps, needs := [], peer := none } : Waiting)] = [asWaiting via op h ps] := by
    rw [hsw]; rfl
  simp only [hwl]
  rw [hacc]
  rw [resume_one (accepted_waiting via op h ps s) rfl]
  exact hb'

end Sys2Proof.Machine
end

