-- ==== Sys2Proof/Laws/Registers.lean ====
section
/-! SUPPORT. The write of a register by a packet: what the action meets, and that it is the block's own write. -/

namespace Sys2Proof.Machine

/-! ### Big-endian numbers -/

theorem length_beBytes (n v : Nat) : (beBytes n v).length = n := by
  induction n with
  | zero => rfl
  | succ n ih => simp [beBytes, ih]

theorem beVal_beBytes (n v : Nat) : beVal (beBytes n v) = v % 256 ^ n := by
  induction n with
  | zero => simp [beBytes, beVal, Nat.mod_one]
  | succ n ih =>
    simp only [beBytes, beVal, ih, length_beBytes, BitVec.toNat_ofNat]
    have h : v % 256 ^ (n + 1) = v % 256 ^ n + 256 ^ n * (v / 256 ^ n % 256) := by rw [Nat.pow_succ, Nat.mod_mul]
    rw [h, Nat.mul_comm (256 ^ n)]; simp only [Nat.reducePow]; omega

/-- A slice that is a part of a list. -/
theorem slice_part (as bs cs : List Byte) : slice (as ++ bs ++ cs) as.length bs.length = bs := by
  apply List.ext_getElem
  · simp [slice]
  · intro i h1 h2
    have h3 : ¬as.length + i < as.length := by omega
    simp [slice, List.getD, List.getElem?_append, h2, h3]

theorem beAt_writeParams_addr {a v : Nat} (ha : a < 2 ^ 64) : beAt (writeParams a v) 0 8 = a := by
  have h := slice_part [] (beBytes 8 a) (beBytes 4 v)
  simp only [length_beBytes, List.nil_append, List.length_nil] at h
  simp only [beAt, writeParams, h, beVal_beBytes]
  omega

theorem beAt_writeParams_value {a v : Nat} (hv : v < 2 ^ 32) : beAt (writeParams a v) 8 4 = v := by
  have h := slice_part (beBytes 8 a) (beBytes 4 v) []
  simp only [length_beBytes, List.append_nil] at h
  simp only [beAt, writeParams, h, beVal_beBytes]
  omega

/-! ### The state that an action meets -/

theorem requestBlocks_eq (op : Nat) (ps : List Byte) (needs : List Nat) (s : State) :
    ∃ idle, requestBlocks op ps needs s = { s with pow := { s.pow with idle := idle } } := by
  unfold requestBlocks
  simp only []
  generalize (if isAccess op then _ else _ : Nat) = b
  induction needs generalizing s with
  | nil => exact ⟨s.pow.idle, rfl⟩
  | cons d ds ih =>
    obtain ⟨i, hi⟩ := ih (blockRequest d b s)
    exact ⟨i, by rw [each, hi]; rfl⟩

theorem accepted_eq (via : Ingress) (op : Nat) (h : Hdr) (ps : List Byte) (s : State) :
    ∃ cmd, accepted via op h ps s = { s with cmd := cmd } := by
  unfold accepted dropReply notePeer State.setEndpoint
  cases via <;> exact ⟨_, rfl⟩

/-- Before its action a command has changed the command path and the blocks in IDLE, and nothing else. -/
theorem actionState_eq (via : Ingress) (op : Nat) (h : Hdr) (ps : List Byte) (s : State) :
    ∃ cmd idle, actionState via op h ps s = { s with cmd := cmd, pow := { s.pow with idle := idle } } := by
  obtain ⟨c, hc⟩ := accepted_eq via op h ps s
  obtain ⟨i, hi⟩ := requestBlocks_eq op ps (acceptedNeeds via op h ps s) (accepted via op h ps s)
  exact ⟨c, i, by unfold actionState; rw [hi, hc]⟩

theorem actionState_regs (via : Ingress) (op : Nat) (h : Hdr) (ps : List Byte) (s : State) : (actionState via op h ps s).regs = s.regs := by
  obtain ⟨c, i, he⟩ := actionState_eq via op h ps s; rw [he]

theorem actionState_get (via : Ingress) (op : Nat) (h : Hdr) (ps : List Byte) (s : State) (F : Fld) (i j : Nat) :
    (actionState via op h ps s).get F i j = s.get F i j := by
  unfold State.get; rw [actionState_regs]

theorem actionState_is (via : Ingress) (op : Nat) (h : Hdr) (ps : List Byte) (s : State) (F : Fld) (i j : Nat) :
    (actionState via op h ps s).is F i j = s.is F i j := by
  unfold State.is; rw [actionState_get]

theorem actionState_mem (via : Ingress) (op : Nat) (h : Hdr) (ps : List Byte) (s : State) : (actionState via op h ps s).mem = s.mem := by
  obtain ⟨c, i, he⟩ := actionState_eq via op h ps s; rw [he]

theorem actionState_mram (via : Ingress) (op : Nat) (h : Hdr) (ps : List Byte) (s : State) : (actionState via op h ps s).mram = s.mram := by
  obtain ⟨c, i, he⟩ := actionState_eq via op h ps s; rw [he]

/-! ### WRITE_REG of a register -/

/-- WRITE_REG of a register word is its block's own write; a refusal leaves what its report says. -/
theorem acted_write {via : Ingress} {h : Hdr} {a v : Nat} {s : State} {r : RegRow} {i j : Nat} (ha : inRegs a = true) (hd : isDram a = false)
    (h64 : a < 2 ^ 64) (hv : v < 2 ^ 32) (hr : rowAt a = some (r, i, j)) :
    acted via 2 h (writeParams a v) s =
      (let t := actionState via 2 h (writeParams a v) s
       let e : Env := { via := via, cls := viaClass via, endpoint := packetKey via h, opcode := 2 }
       let p := settle t (writeBlockReg e ((regBlock a).getD 0) r i j (r.combine v v) t)
       if p.1 = stOk then ok p.2 else no p.1 (writeReport e a v v p.1 t t)) := by
  have h1 : accessAddr (writeParams a v) = a := beAt_writeParams_addr h64
  have h2 : accessValues 2 (writeParams a v) = [v] := by simp [accessValues, beAt_writeParams_value hv]
  have h3 : ∀ n s, dramStatus s a n = stOk := by intro n s; simp [dramStatus, hd]
  simp only [acted, action, asWaiting, envOf, waitKey, h1, h2]
  simp only [writeAccess, h3, List.length_singleton]
  simp only [ne_eq, not_true_eq_false, if_false, show (2 : Nat) = 1 ↔ False by decide, if_true]
  simp only [wordsWrite, wordWrite, ha, if_true, regWrite, hr]
  by_cases hs : (settle (actionState via 2 h (writeParams a v) s) (writeBlockReg { via := via, cls := viaClass via, endpoint := packetKey via h, opcode := 2 } ((regBlock a).getD 0) r i j (r.combine v v) (actionState via 2 h (writeParams a v) s))).1 = stOk
  · simp [hs]
  · simp [hs]

end Sys2Proof.Machine
end

