-- ==== Sys2Proof/WellFormed.lean ====
section
/-! DEFINITION. Which terms of Instr are commands that a sender or the hardware can make at all. What a well-formed command may still be refused for is the command path's own affair. -/

namespace Sys2Proof

/-- LENGTH is a 16-bit count of the parameter bytes (Table 4.1). -/
def Instr.lengthOk (params : List Byte) : Bool := decide (params.length < 65536)

/-- The opcodes of Table 4.3 that a host may send. -/
def tableOpcodes : List Nat :=
  [0x01, 0x02, 0x03, 0x04, 0x05, 0x10, 0x11, 0x12, 0x13, 0x18, 0x19, 0x20, 0x21, 0x22, 0x30, 0x31, 0x32, 0x40, 0x48,
   0x50, 0x51, 0x60, 0x68, 0x70, 0x71, 0x7E]

/-- A failed training run names a channel (R241). -/
def TrainOutcome.wf (o : TrainOutcome) : Bool :=
  match o with
  | .trained _ _ => true
  | .failed channels _ => decide (channels ≠ 0)

/-- The IEEE 1588 messages that a port sends on an interval of its own (R161). -/
def PtpKind.timed (k : PtpKind) : Bool :=
  match k with
  | .sync | .announce | .delayReq | .pdelayReq => true
  | .followUp | .delayResp | .pdelayResp | .pdelayRespFollowUp | .other => false

/-- The data behind a head frame's control block comes in blocks of 8 bytes (R366, Table 13.5). -/
def HeadFrame.wf (f : HeadFrame) : Bool := decide (f.data.length % 8 = 0)

/-- The command is well formed: a parameter field fits LENGTH, UNKNOWN_OPCODE carries an opcode outside Table 4.3, PD_AON neither sleeps nor wakes (R62), a failed training names a channel, lists that stand for sets repeat nothing, and head frames hold whole blocks. -/
def Instr.wf (i : Instr) : Bool :=
  match i with
  | .powerOnReset _ _ _ => true
  | .powerGoodLost _ => true
  | .refclkLost => true
  | .thermalTrip => true
  | .tempSensorReading _ => true
  | .sysTempCfgWrite _ _ _ => true
  | .blockIdle domain _ => decide (domain ≠ 0)
  | .napEntry domain _ => decide (domain ≠ 0)
  | .domainWakeRequest domain => decide (domain ≠ 0)
  | .wakeStepReady domain => decide (domain ≠ 0)
  | .wakeStepTimeout domain => decide (domain ≠ 0)
  | .wakeBackoffExpiry domain => decide (domain ≠ 0)
  | .norImageLoad _ _ => true
  | .hostBootStart => true
  | .firmwareStart => true
  | .wakeNLow => true
  | .aonCtlWakeReq _ _ => true
  | .aonCtlDormant _ _ => true
  | .aonCtlFaultClr _ _ => true
  | .aonCtlSbWrLock _ _ => true
  | .sysPlWrite _ _ _ => true
  | .clockSwitch => true
  | .vidSettled => true
  | .sidebandAonWrite _ _ => true
  | .sidebandCmdWrite _ => true
  | .sidebandReplyRead => true
  | .sidebandPacketAon _ => true
  | .cmdPacketDiscard _ _ => true
  | .unknownOpcode _ _ opcode params => Instr.lengthOk params && !tableOpcodes.contains opcode.toNat
  | .readReg _ _ params => Instr.lengthOk params
  | .writeReg _ _ params => Instr.lengthOk params
  | .modifyReg _ _ params => Instr.lengthOk params
  | .readBlock _ _ params => Instr.lengthOk params
  | .writeBlock _ _ params => Instr.lengthOk params
  | .ping _ _ params => Instr.lengthOk params
  | .negotiate _ _ params => Instr.lengthOk params
  | .fwLoad _ _ params => Instr.lengthOk params
  | .fwActivate _ _ params => Instr.lengthOk params
  | .eventBatchSend _ => true
  | .evtPendingClear _ _ _ _ _ => true
  | .accViolInfoClear _ _ => true
  | .accCtlLock _ _ => true
  | .hostFrameRx _ _ => true
  | .hostLinkChange _ _ _ _ _ _ => true
  | .hostAlternateTimeout _ => true
  | .hostCtlWrite _ _ _ _ => true
  | .rasterDatagramRx _ _ _ => true
  | .triggerDatagramRx _ _ _ => true
  | .nakRequest _ _ due => decide due.Nodup
  | .ackIntervalStatus _ _ => true
  | .seqGivenUp _ _ _ => true
  | .ptpMessageRx _ _ => true
  | .timeRateWrite _ _ _ => true
  | .timeCtlEpochReset _ _ _ => true
  | .timeCtlSrcWrite _ _ _ => true
  | .timeStep _ _ params => Instr.lengthOk params
  | .timeStepGo _ _ _ => true
  | .timeCmpArm _ _ _ _ => true
  | .timeCmpReached _ => true
  | .timeLnchEnWrite _ _ _ _ => true
  | .launchSent _ => true
  | .fabCtlEnWrite _ _ _ _ => true
  | .fabCtlRetrain _ _ _ _ => true
  | .fabFarEndDetected _ => true
  | .fabTrainBlockRx _ _ => true
  | .fabStateTimeout _ => true
  | .fabBlockLockGained _ => true
  | .fabBlockLockLost _ => true
  | .fabCapFrameRx _ _ => true
  | .fabCapRetry _ => true
  | .fabCellRx _ _ _ _ _ => true
  | .fabAckRx _ _ _ _ => true
  | .fabReplayTimeout _ => true
  | .fabAckTimer _ => true
  | .fabSleepEntry _ => true
  | .fabSleepExit _ => true
  | .fabElectRx _ _ => true
  | .fabElectTimer => true
  | .fabTopoRx _ _ => true
  | .fabTopoTimer => true
  | .fabIdAssign => true
  | .fabAssignRx _ _ => true
  | .fabRoutingUpdate => true
  | .fabDelayReqTimer => true
  | .fabTimeCellRx _ _ => true
  | .fabSyncTimer => true
  | .fabSyncLoss => true
  | .triggerCellRx _ _ => true
  | .jobOpen _ _ params => Instr.lengthOk params
  | .jobClose _ _ params => Instr.lengthOk params
  | .pageQueue _ _ params => Instr.lengthOk params
  | .pageCancel _ _ params => Instr.lengthOk params
  | .stripRingWriteResume => true
  | .codecEncGo _ _ _ => true
  | .codecEncAbort _ _ _ => true
  | .codecChained => true
  | .codecEncDone => true
  | .dramCtlEnWrite _ _ _ _ => true
  | .dramCtlRetrain _ _ _ _ => true
  | .dramTrainingEnd _ outcome => outcome.wf
  | .dramTempCheck _ => true
  | .dramWckTracking _ => true
  | .dramMr4Change _ _ => true
  | .dramEccEnWrite _ _ _ => true
  | .dramEccInitDone => true
  | .dramMapWrite _ _ _ _ => true
  | .dmaEnWrite _ _ _ _ => true
  | .dmaStopDone _ => true
  | .dmaShadowValidWrite _ _ _ _ => true
  | .dmaShadowTake _ => true
  | .dmaDescFetched _ => true
  | .dmaDescComplete _ => true
  | .posCtlEnWrite _ _ _ _ => true
  | .posClrFault _ _ _ _ => true
  | .posZArm _ _ _ _ => true
  | .posQuadEdge _ _ _ => true
  | .posIndexEdge _ => true
  | .posScSample _ _ _ => true
  | .posSsiRead _ _ _ _ => true
  | .posObsUpdate => true
  | .posStandstill _ => true
  | .cmpPulseEnd _ => true
  | .cmpCtlEnWrite _ _ _ _ => true
  | .cmpEntryCommit _ _ _ _ _ => true
  | .nmapLoad _ _ params => Instr.lengthOk params
  | .nmapSwap _ _ params => Instr.lengthOk params
  | .nmapSwapChecksEnd => true
  | .nmapHoldExpiry => true
  | .internalSwapStart => true
  | .internalSwapReady => true
  | .nmapSwapTakeEffect => true
  | .fireArm _ _ params => Instr.lengthOk params
  | .fireDecision unserved => decide unserved.Nodup
  | .fireInstant => true
  | .fireStall => true
  | .fireStop _ _ params => Instr.lengthOk params
  | .fireStopComplete => true
  | .fireWfGo _ _ => true
  | .waveformSwapEffect => true
  | .hlFireDelayWrite _ _ _ _ => true
  | .hlWfCfgWrite _ _ _ _ _ => true
  | .hlCtlEnWrite _ _ _ _ => true
  | .hlCtlRetrain _ _ _ _ => true
  | .hlLockHeld _ => true
  | .hlAlignDone _ _ => true
  | .hlStateTimeout _ => true
  | .hlBlockLockLost _ => true
  | .hlLockNotRegained _ => true
  | .hlCapRx _ frame => frame.wf
  | .hlCapRetry _ => true
  | .hlEchoTimer _ => true
  | .hlEchoRspRx _ frame _ => frame.wf
  | .hlIdDataRx _ frame => frame.wf
  | .hlCapsComplete _ => true
  | .hlIdAccept _ _ _ _ => true
  | .hlTrimAckRx _ frame => frame.wf
  | .hlTrimAckTimeout _ _ _ => true
  | .hlAckRx _ frame => frame.wf
  | .hlAckTimeout _ => true
  | .hlTempRx _ frame => frame.wf
  | .hlTempCfgWrite _ _ _ _ => true
  | .hlMeasGo _ _ => true
  | .hlMeasAbort _ _ => true
  | .hlMeasSettleEnd _ => true
  | .hlMeasDataRx _ frame => frame.wf
  | .calTempCheck => true
  | .calAutoRunStart => true
  | .calForcedRunStart => true
  | .calRun _ _ params => Instr.lengthOk params
  | .calItemEnd _ _ _ => true
  | .csiPacketRx _ _ => true
  | .camFrameTimeout _ _ => true
  | .ispLineProcessed => true
  | .ispCommit _ _ _ _ => true
  | .ispShadowTaken _ => true
  | .camCtlWrite _ _ _ _ => true
  | .inspectSet _ _ params => Instr.lengthOk params
  | .nhaGroupAnalyse _ => true
  | .nozzleReportRx _ => true
  | .nhaReportTimeout _ _ => true
  | .nhaRwaitExpiry _ _ => true
  | .nhaWindowClose => true
  | .nhaSourceEnWrite _ _ _ _ => true
  | .pairCtlClaim _ _ _ => true
  | .pairCtlRelease _ _ _ => true
  | .pairCtlEnWrite _ _ _ => true
  | .pairGuardPass => true
  | .ownPeerNChange _ => true
  | .pairWatchStart => true
  | .pairConflictTimeout => true
  | .pairHbSend => true
  | .pairHbLoss => true
  | .pairSyncRx _ => true
  | .pairSwap _ _ params => Instr.lengthOk params
  | .hoopWdogExpiry _ => true
  | .hoopKick _ => true
  | .hoopCtlForce _ _ _ => true
  | .hoopHoldExpiry => true
  | .hoopCfgWrite _ _ _ => true
  | .axisMove _ _ params => Instr.lengthOk params
  | .axisStop _ _ params => Instr.lengthOk params
  | .axisHome _ _ params => Instr.lengthOk params
  | .axisProfileTick _ => true
  | .axisMicrostep _ => true
  | .axisPwmPeriod _ => true
  | .axisDriverFault _ => true
  | .axisLimitTrip _ _ _ => true
  | .axisLimitRelease _ _ => true
  | .axisCtlWrite _ _ _ _ => true
  | .axisPosCommit _ _ _ _ => true
  | .lampPwmPeriod _ => true
  | .lampStrobeOpen _ => true
  | .lampStrobeClose _ => true
  | .lampSetWrite _ _ _ _ => true
  | .lampFadeTick _ => true
  | .ntcEvaluation _ => true
  | .lampGlobalLoad _ _ => true
  | .lampCtlWrite _ _ _ _ => true
  | .mxSlot => true
  | .chkGo _ _ _ _ => true
  | .chkAbort _ _ _ _ => true
  | .chkInit _ _ _ _ => true
  | .chkScanEnd _ => true
  | .nvmWrite _ _ params => Instr.lengthOk params
  | .nvmRead _ _ params => Instr.lengthOk params
  | .nvmPageWritten _ _ => true
  | .jtagTckEdge _ _ _ _ => true
  | .ptpMessageInterval _ kind => kind.timed
  | .fabSleepRx _ => true
  | .hlHoldExitIdleEnd _ => true
  | .dmaTransferFault _ => true
  | .camUlpsChange _ _ => true
  | .nhaLagTimeout => true
  | .axisFltNRelease _ => true

end Sys2Proof
end

