-- ==== Sys2Proof/Tests/Slice0.lean ====
section
/-! SUPPORT. The model's own tests: ill-formed terms, words written out from the spec, and for each statement a state and operands that meet its hypotheses, with what it says of them. -/

namespace Sys2Proof.Tests

-- one theorem after the other: each has a thread of its own otherwise
set_option Elab.async false

open Sys2Proof Sys2Proof.Machine

/-- The state of an outcome. -/
def run (o : Host.Outcome State Fault Refusal) : State := match o with | .next t => t | _ => State.reset

/-- A command gives what holds of the state it answers. -/
theorem gives {c : Instr} {s : State} {P : State → Prop} (he : exec c s = .next (run (exec c s))) (h : P (run (exec c s))) : Gives c s P :=
  ⟨_, he, h⟩

/-- A device that is up: the named domains on, firmware running, the rails on, shared time locked, and temperature limits of 80 and 90 degrees. -/
def upWith (ds : List Nat) : State :=
  each (fun d s => s.put AON_PD_STATE.STATE 2 d) ds
    { State.reset with regs := [(SYS_TEMP_CFG.CRIT.key 0 0, 90), (SYS_TEMP_CFG.WARN.key 0 0, 80)], pow := { phase := .up, firmware := true, bootDone := true, vregEn := 15 }, time := { running := true, locked := true } }

/-- Every domain on. -/
def up : State := upWith [1, 2, 3, 4, 5, 6, 7, 8, 9, 10, 11, 12, 13, 14, 15, 16, 17]

/-- The same with the link of HOST0 up. -/
def upHost : State := up.put HOST_STATUS.LINK 1 0

/-- A header from node 5 to this device, node 0. -/
def hdr : Hdr := { vmaj := 2, vmin := 0, tag := 1, src := 5, dst := 0, alive := 1 }

/-- A packet of HOST0 is ready on a state. -/
abbrev ready (op : Nat) (ps : List Byte) (s : State) : Prop := PacketReady (.host 0) op hdr ps s


/-! ### Ill-formed terms -/

/-- A parameter field of 65,536 bytes does not fit LENGTH. -/
theorem test_ill_length : Instr.lengthOk (List.replicate 65536 0) = false := 
  decide_eq_false (by rw [List.length_replicate]; exact Nat.lt_irrefl _)
/-- So no command with it is well formed. -/
theorem test_ill_ping : (Instr.ping .sideband hdr (List.replicate 65536 0)).wf = false := test_ill_length
/-- 0x01 is READ_REG, so it is no unknown opcode; 0x06 is one. -/
theorem test_ill_opcode : (Instr.unknownOpcode .sideband hdr 0x01 []).wf = false ∧ (Instr.unknownOpcode .sideband hdr 0x06 []).wf = true := by decide
/-- PD_AON neither sleeps nor wakes (R62). -/
theorem test_ill_domain : (Instr.domainWakeRequest 0).wf = false ∧ (Instr.napEntry 0 true).wf = false ∧ (Instr.domainWakeRequest 17).wf = true := by decide
/-- A failed training names a channel (R241). -/
theorem test_ill_training : (TrainOutcome.failed 0 0).wf = false := by decide
/-- A set repeats nothing. -/
theorem test_ill_lists : (Instr.nakRequest 0 0 [3, 3]).wf = false ∧ (Instr.fireDecision [1, 1]).wf = false := by decide
/-- Follow_Up has no interval of its own (R161). -/
theorem test_ill_ptp : (Instr.ptpMessageInterval 0 .followUp).wf = false ∧ (Instr.ptpMessageInterval 0 .sync).wf = true := by decide
/-- The table gives no row any bits. -/
theorem test_no_words : decodeTableWord 32 0 = none ∧ (State.reset.withFetchWord 32 0) = State.reset := ⟨rfl, rfl⟩

/-! ### Steps and the memories -/

theorem test_step_front (s : State) : step (s.withCommand .refclkLost) = exec .refclkLost s := by rw [State.withCommand, step]

theorem test_step_reset : State.reset.pending = [] ∧ State.reset.time.running = false := by decide
theorem test_step_clock : up.pending = [] ∧ (run (step up)).time.raw = 1 := by decide +kernel
theorem test_reset_sound : State.reset.MemSound ∧ State.reset.get POS_CTL.EN 0 0 = 0 := ⟨⟨by decide, by decide⟩, by decide⟩
/-- A state with bytes in both memories, before and after a step that writes one. -/
theorem test_memory_kept : Memory.wf (up.setByte 0x1000 7).mem = true ∧ (run (step ((up.setByte 0x1000 7).withCommand .thermalTrip))).mem = [(0x1000, 7)] := by
  decide +kernel

/-! ### Power, wake and boot; the test access port -/

/-- A device in DORMANT. -/
def dormant : State := { State.reset with pow := { phase := .dormant }, time := { running := true } }

/-- A wake of domain d at a step. -/
def waking (d step attempts : Nat) : State := ((upWith [1]).setWake d (some { step := step, attempts := attempts })).setPd d 3

theorem test_power_on : Gives (.powerOnReset 1 2 false) up fun t => t.pow.sbAddr = 1 ∧ t.pow.bootSel = 2 ∧ t.pd 1 = 3 ∧ t.pow.vregEn = 1 :=
  gives rfl (by decide +kernel)

theorem test_power_on_testmode : Gives (.powerOnReset 1 2 true) up fun t => t.pd 1 = 0 ∧ t.pow.vregEn = 0 := gives rfl (by decide +kernel)

theorem test_refclk : pllDomains.any up.on = true ∧ Gives .refclkLost up fun t => t.get AON_STATUS.CAUSE = 6 ∧ t.pow.vregEn = 0 ∧ ∀ d ∈ pllDomains, t.pd d = 0 :=
  ⟨by decide +kernel, gives rfl (by decide +kernel)⟩

theorem test_thermal : Gives .thermalTrip up fun t => t.get AON_STATUS.CAUSE = 7 ∧ t.pow.vregEn = 0 := gives rfl (by decide +kernel)

theorem test_power_good : (bit up.pow.vregEn 1 = true ∧ up.Settled) ∧ Gives (.powerGoodLost 1) up fun t =>
    t.get AON_STATUS.CAUSE = 5 ∧ t.get AON_STATUS.GROUP = 1 ∧ bit t.pow.vregEn 1 = false ∧ (∀ d ∈ groupDomains 1, t.pd d = 0) ∧ t.pd 2 = 2 :=
  ⟨⟨by decide +kernel, rfl, rfl, rfl⟩, gives rfl (by decide +kernel)⟩

theorem test_power_good_core : (bit up.pow.vregEn 3 = true ∧ up.pow.phase ≠ .powerUp) ∧ Gives (.powerGoodLost 3) up fun t =>
    t.get AON_STATUS.GROUP = 3 ∧ t.pow.vregEn = 0 ∧ t.pow.reqCopy = 1 := ⟨by decide +kernel, gives rfl (by decide +kernel)⟩

theorem test_wake_request : ((upWith [1]).on 1 = true ∧ (upWith [1]).pd 16 = 0) ∧ Gives (.domainWakeRequest 16) (upWith [1]) fun t =>
    t.pd 16 = 3 ∧ t.wakeOf 16 = some { rail := false } := ⟨by decide +kernel, gives rfl (by decide +kernel)⟩

theorem test_wake_join : (waking 16 1 1).pd 16 = 3 ∧ Gives (.domainWakeRequest 16) (waking 16 1 1) fun t => t = waking 16 1 1 :=
  ⟨by decide +kernel, gives rfl (by decide +kernel)⟩

theorem test_step_ready : ((waking 16 2 3).Settled ∧ (waking 16 2 3).wakeOf 16 = some { step := 2, attempts := 3 }) ∧
    Gives (.wakeStepReady 16) (waking 16 2 3) fun t => t.wakeOf 16 = some { step := 3, attempts := 1 } :=
  ⟨⟨⟨rfl, rfl, rfl⟩, by decide +kernel⟩, gives rfl (by decide +kernel)⟩

theorem test_step_last : (waking 16 4 1).wakeOf 16 = some { step := 4, attempts := 1 } ∧
    Gives (.wakeStepReady 16) (waking 16 4 1) fun t => t.pd 16 = 2 ∧ t.wakeOf 16 = none := ⟨by decide +kernel, gives rfl (by decide +kernel)⟩

theorem test_step_timeout : (waking 16 2 3).wakeOf 16 = some { step := 2, attempts := 3 } ∧
    Gives (.wakeStepTimeout 16) (waking 16 2 3) fun t => t.wakeOf 16 = some { step := 2, attempts := 3, backoff := true } :=
  ⟨by decide +kernel, gives rfl (by decide +kernel)⟩

theorem test_step_fails : (waking 16 2 4).get AON_WAKE_CFG.RETRIES = 3 ∧ Gives (.wakeStepTimeout 16) (waking 16 2 4) fun t =>
    t.pd 16 = 0 ∧ t.get AON_STATUS.CAUSE = 2 ∧ t.get AON_STATUS.DOMAIN = 16 ∧ t.get AON_STATUS.ATTEMPTS = 4 ∧ t.get AON_STATUS.FAIL = 1 :=
  ⟨by decide +kernel, gives rfl (by decide +kernel)⟩

theorem test_backoff : Gives (.wakeBackoffExpiry 16) ((waking 16 2 1).setWake 16 (some { step := 2, backoff := true })) fun t =>
    t.wakeOf 16 = some { step := 2, attempts := 2 } := gives rfl (by decide +kernel)

theorem test_idle : (domainBlocks 7).contains 5 = true ∧ Gives (.blockIdle 7 5) up fun t => t.pow.idle = [229] :=
  ⟨by decide +kernel, gives rfl (by decide +kernel)⟩

/-- PD_FAB may NAP. -/
def napping : State := { up.put SYS_PD_CTL.NAP_EN 1 7 with pow := { up.pow with idle := [229] } }

theorem test_nap : (napping.on 7 = true ∧ napping.is SYS_PD_CTL.NAP_EN 7 = true ∧ domainIdle napping 7 = true ∧ napAllowed napping 7 = true) ∧
    Gives (.napEntry 7 false) napping fun t => t.pd 7 = 1 ∧ bit (t.get CAVE_VALID.VALID) 6 = true := ⟨by decide +kernel, gives rfl (by decide +kernel)⟩

theorem test_nap_abandoned : Gives (.napEntry 7 true) napping fun t => t.pd 7 = 2 ∧ t.pow.idle = [] := gives rfl (by decide +kernel)

/-- The boot ROM runs with a boot source. -/
def romOn (sel boot : Nat) : State := { (upWith [1]).put AON_STATUS.BOOT boot with pow := { phase := .up, rom := true, bootSel := sel, vregEn := 9 } }

theorem test_nor_none : Gives (.norImageLoad ⟨[], []⟩ ⟨[], []⟩) (romOn 0 1) fun t => t.get AON_STATUS.BOOT = 8 ∧ t.pow.rom = false := gives rfl (by decide +kernel)

theorem test_host_boot : Gives .hostBootStart (romOn 1 1) fun t => t.pd 6 = 3 ∧ t.pd 2 = 3 ∧ t.pd 3 = 3 ∧ t.pow.hostBoot = true := gives rfl (by decide +kernel)

theorem test_firmware : Gives .firmwareStart (romOn 0 2) fun t => t.pow.firmware = true ∧ t.pd 2 = 3 ∧ t.pow.bootQueue = bootOrder := gives rfl (by decide +kernel)

theorem test_wake_n : (dormant.pow.phase = .dormant ∧ dormant.is AON_CTL.WAKE_PIN_EN = true) ∧ Gives .wakeNLow dormant fun t =>
    t.get AON_STATUS.WAKE_SRC = 1 ∧ t.pow.restore = true ∧ t.pd 1 = 3 := ⟨by decide +kernel, gives rfl (by decide +kernel)⟩

theorem test_wake_n_off : (dormant.put AON_CTL.WAKE_PIN_EN 0).is AON_CTL.WAKE_PIN_EN = false ∧
    Gives .wakeNLow (dormant.put AON_CTL.WAKE_PIN_EN 0) fun t => t = dormant.put AON_CTL.WAKE_PIN_EN 0 := ⟨by decide +kernel, gives rfl (by decide +kernel)⟩

theorem test_wake_req : Gives (.aonCtlWakeReq .window 0x200) dormant fun t => t.get AON_STATUS.WAKE_SRC = 2 ∧ t.pd 1 = 3 := gives rfl (by decide +kernel)

theorem test_dormant : (up.pow.phase = .up ∧ armed up = false ∧ jobOpen up = false ∧ [0, 1, 2, 3, 4, 5].any (axisMoving up) = false) := by decide +kernel

theorem test_fault_clr : Gives (.aonCtlFaultClr .window 0) (up.put HOOP_STATUS.LATCHED 0xA0) fun t => t.get HOOP_STATUS.LATCHED = 0x20 := gives rfl (by decide +kernel)

theorem test_sb_lock : Gives (.aonCtlSbWrLock .window 0) dormant fun t => t.get AON_CTL.SB_WR_LOCK = 1 := gives rfl (by decide +kernel)

theorem test_aon_write : Gives (.sidebandAonWrite 3 0x01020304) dormant fun t =>
    t.get AON_WAKE_CFG.T_REG = 1 ∧ t.get AON_WAKE_CFG.T_LOCK = 2 ∧ t.get AON_WAKE_CFG.BACKOFF = 3 ∧ t.get AON_WAKE_CFG.RETRIES = 4 := gives rfl (by decide +kernel)

theorem test_aon_locked : Gives (.sidebandAonWrite 3 0x01020304) (dormant.put AON_CTL.SB_WR_LOCK 1) fun t => t.get AON_WAKE_CFG.RETRIES = 3 := gives rfl (by decide +kernel)

theorem test_clock_switch : Gives .clockSwitch ((up.put SYS_PL.REQ 2).put SYS_PL.PENDING 1) fun t =>
    t.get SYS_PL.IN_FORCE = 2 ∧ t.get SYS_PL.PENDING = 0 ∧ t.pow.vid = 2 := gives rfl (by decide +kernel)

theorem test_vid_settled : Gives .vidSettled (up.put SYS_PL.VSETTLING 1) fun t => t.get SYS_PL.VSETTLING = 0 := gives rfl (by decide +kernel)

theorem test_pl_write : (ready 2 (writeParams 0x10 0) upHost ∧ levelTooSlow upHost 0 = false) ∧ Gives (.sysPlWrite (.host 0) hdr 0) upHost fun t =>
    t.get SYS_PL.REQ = 0 ∧ t.get SYS_PL.PENDING = 1 ∧ t.pow.vid = 0 ∧ t.pow.reqCopy = 0 := ⟨⟨⟨by decide +kernel, by decide +kernel⟩, by decide +kernel⟩, gives rfl (by decide +kernel)⟩

theorem test_temp_write : ready 2 (writeParams 0x44 0x4650) upHost ∧ sext 8 0x4650 ≤ Config.tempCritReset ∧ sext 8 (0x4650 / 256) ≤ sext 8 0x4650 := by
  refine ⟨⟨by decide +kernel, by decide +kernel⟩, ?_, by decide⟩
  unfold Config.tempCritReset; split <;> decide

theorem test_temperature : Gives (.tempSensorReading (Vector.replicate 8 5)) up fun t =>
    t.getS SYS_TEMP.MAX = 5 ∧ t.pow.temps = List.replicate 8 5 := gives rfl (by decide +kernel)

theorem test_sideband_read : Gives .sidebandReplyRead { up with cmd := { up.cmd with sbReply := [1, 2] } } fun t =>
    t.tx = [.sideband [1, 2]] ∧ t.cmd.sbReply = [] := gives rfl (by decide +kernel)

/-- A PING for node 9 with WAKE set. -/
def wakePing : Packet := { opcode := 0x7E, hdr := { hdr with wake := true, dst := 9 } }

theorem test_parse_ping : Packet.parse wakePing.bytes = some wakePing := by decide +kernel

theorem test_aon_dormant : Gives (.sidebandPacketAon { wakePing with hdr := { wakePing.hdr with wake := false } }.bytes) dormant fun t =>
    t.cmd.sbReply = (aonReply { wakePing with hdr := { wakePing.hdr with wake := false } } stDormant).bytes := gives rfl (by decide +kernel)

theorem test_aon_wake : Gives (.sidebandPacketAon wakePing.bytes) dormant fun t =>
    t.cmd.sbReply = (aonReply wakePing stBusy).bytes ∧ t.get AON_STATUS.WAKE_SRC = 2 ∧ t.pd 1 = 3 := gives rfl (by decide +kernel)

theorem test_aon_failed : Gives (.sidebandPacketAon wakePing.bytes) { dormant with pow := { dormant.pow with phase := .failed } } fun t =>
    t.cmd.sbReply = (aonReply wakePing stWakeFailed).bytes := gives rfl (by decide +kernel)

theorem test_sideband_cmd : PacketReady .sideband 0x7E { hdr with src := 5 } [] up ∧
    Gives (.sidebandCmdWrite ({ opcode := 0x7E, hdr := hdr } : Packet).bytes) up fun t => t.cmd.sbReply.length = 20 ∧ t.cmd.sbReply.getD 3 0 = 0x80 :=
  ⟨⟨by decide +kernel, by decide +kernel⟩, gives rfl (by decide +kernel)⟩

theorem test_jtag_reset : Gives (.jtagTckEdge true false false false) (up.setJtag { state := .shiftDr, ir := 0xFF }) fun t =>
    t.jtag.state = .testLogicReset ∧ t.jtag.ir = 1 := gives rfl (by decide +kernel)

theorem test_jtag_idcode : Gives (.jtagTckEdge true false false true) (up.setJtag { state := .captureDr }) fun t =>
    t.jtag.state = .shiftDr ∧ t.jtag.dr = lowBits 32 0xB8131B4F := gives rfl (by decide +kernel)

theorem test_jtag_bypass : Gives (.jtagTckEdge true false false true) (up.setJtag { state := .captureDr, ir := 0 }) fun t => t.jtag.dr = [false] := gives rfl (by decide +kernel)

theorem test_jtag_shift : Gives (.jtagTckEdge true true true true) (up.setJtag { state := .shiftDr, ir := 0xFF, dr := [false] }) fun t =>
    t.jtag.dr = [true] ∧ t.jtag.state = .exit1Dr := gives rfl (by decide +kernel)

theorem test_jtag_update : Gives (.jtagTckEdge false true true true) (up.setJtag { state := .updateIr, irShift := 0xFF }) fun t => t.jtag.ir = 0xFF := gives rfl (by decide +kernel)

/-! ### Packets, access tables and events -/

/-- A packet with every header field in use. -/
def fullPacket : Packet :=
  { opcode := 0xA5, reply := true, params := [1, 2, 3, 4, 5]
    hdr := { vmaj := 3, vmin := 9, tag := 0x81, wake := true, noreply := true, ordered := true, rsvFlags := 0xB, rsvSrc := 0x2A, src := 0x2AA,
             rsvDst := 0x15, dst := 0x355, alive := 0xC3, status := 0x3C, cookie := 0x89ABCDEF } }

theorem test_round_trip : Packet.parse fullPacket.bytes = some fullPacket := by decide +kernel

/-- Example 4.1: READ_REG of SYS_ID, its header and ADDR as the spec prints them. -/
def firstRead : Packet :=
  { opcode := 0x01, params := beBytes 8 0, hdr := { vmaj := 3, vmin := 2, tag := 7, src := 0x3E8, dst := 5, alive := 2, cookie := 0x1234 } }

theorem test_first_read : firstRead.header ++ firstRead.params
    = [0x32, 0x01, 0x07, 0x00, 0x03, 0xE8, 0x00, 0x05, 0x00, 0x08, 0x02, 0x00, 0x00, 0x00, 0x12, 0x34, 0, 0, 0, 0, 0, 0, 0, 0] := by decide +kernel

theorem test_ping : ready 0x7E [1, 2, 3, 4] upHost ∧ Gives (.ping (.host 0) hdr [1, 2, 3, 4]) upHost fun t =>
    (t.tx.map fun o => match o with | .reply _ p _ => p.params | _ => []) = [[1, 2, 3, 4]] := ⟨⟨by decide +kernel, by decide +kernel⟩, gives rfl (by decide +kernel)⟩

theorem test_negotiate : ready 0x60 [0x32, 0, 0, 0, 0, 0, 0, 0x3F] upHost ∧ Gives (.negotiate (.host 0) hdr [0x32, 0, 0, 0, 0, 0, 0, 0x3F]) upHost fun t =>
    t.endpoint (packetKey (.host 0) hdr) = { version := 0x32, features := 0x3F, window := [1] }
      ∧ (t.tx.map fun o => match o with | .reply _ p _ => p.params | _ => []) = [[0x32, 0, 0, 0, 0, 0, 0, 0x3F, 0x20, 0, 0, 64]] :=
  ⟨⟨by decide +kernel, by decide +kernel⟩, gives rfl (by decide +kernel)⟩

theorem test_negotiate_low : ready 0x60 [0x1F, 0, 0, 0, 0, 0, 0, 0] upHost ∧ Gives (.negotiate (.host 0) hdr [0x1F, 0, 0, 0, 0, 0, 0, 0]) upHost fun t =>
    (t.endpoint (packetKey (.host 0) hdr)).version = 0x20 := ⟨⟨by decide +kernel, by decide +kernel⟩, gives rfl (by decide +kernel)⟩

/-- A word of Vat region 8 holds 0x04030201. -/
def vatWord : State := upHost.setBytes 0x0100F00010 [1, 2, 3, 4]

theorem test_read_vat : (isVat 0x0100F00010 = true ∧ armed vatWord = false ∧ vatWord.cmd.ecc = [] ∧ vatRegion 0x0100F00010 ≠ 10)
    ∧ ready 1 (beBytes 8 0x0100F00010) vatWord ∧ Gives (.readReg (.host 0) hdr (beBytes 8 0x0100F00010)) vatWord fun t =>
    (t.tx.map fun o => match o with | .reply _ p _ => p.params | _ => []) = [[4, 3, 2, 1]] :=
  ⟨by decide +kernel, ⟨by decide +kernel, by decide +kernel⟩, gives rfl (by decide +kernel)⟩

theorem test_read_block : ready 4 (beBytes 8 0x0100F00010 ++ beBytes 4 8) vatWord ∧
    Gives (.readBlock (.host 0) hdr (beBytes 8 0x0100F00010 ++ beBytes 4 8)) vatWord fun t =>
    (t.tx.map fun o => match o with | .reply _ p _ => p.params | _ => []) = [[4, 3, 2, 1, 0, 0, 0, 0]] :=
  ⟨⟨by decide +kernel, by decide +kernel⟩, gives rfl (by decide +kernel)⟩

theorem test_write_vat : ready 2 (writeParams 0x0100F00010 0xA1B2C3D4) vatWord ∧
    Gives (.writeReg (.host 0) hdr (writeParams 0x0100F00010 0xA1B2C3D4)) vatWord fun t => t.bytes 0x0100F00010 4 = [0xD4, 0xC3, 0xB2, 0xA1] :=
  ⟨⟨by decide +kernel, by decide +kernel⟩, gives rfl (by decide +kernel)⟩

theorem test_write_block : ready 5 (beBytes 8 0x0100F00010 ++ [9, 8, 7, 6, 5, 4, 3, 2]) vatWord ∧
    Gives (.writeBlock (.host 0) hdr (beBytes 8 0x0100F00010 ++ [9, 8, 7, 6, 5, 4, 3, 2])) vatWord fun t =>
      t.bytes 0x0100F00010 8 = [6, 7, 8, 9, 2, 3, 4, 5] := ⟨⟨by decide +kernel, by decide +kernel⟩, gives rfl (by decide +kernel)⟩

theorem test_modify : ready 3 (beBytes 8 0x0100F00010 ++ beBytes 4 0xFF ++ beBytes 4 0x1122) vatWord ∧
    Gives (.modifyReg (.host 0) hdr (beBytes 8 0x0100F00010 ++ beBytes 4 0xFF ++ beBytes 4 0x1122)) vatWord fun t =>
      t.le 0x0100F00010 4 = 0x04030222 ∧ (t.tx.map fun o => match o with | .reply _ p _ => p.params | _ => []) = [[4, 3, 2, 1, 4, 3, 2, 0x22]] :=
  ⟨⟨by decide +kernel, by decide +kernel⟩, gives rfl (by decide +kernel)⟩

/-- TIME_RAW_LO at 0x200008 is a low word; a read captures the high word. -/
theorem test_read_register : (inRegs 0x200008 = true ∧ isDram 0x200008 = false ∧ (rowAt 0x200008).isSome = true) ∧ ready 1 (beBytes 8 0x200008) upHost ∧
    Gives (.readReg (.host 0) hdr (beBytes 8 0x200008)) upHost fun t => captured t (packetKey (.host 0) hdr) 0x20000C = some 0 :=
  ⟨by decide +kernel, ⟨by decide +kernel, by decide +kernel⟩, gives rfl (by decide +kernel)⟩

theorem test_write_rights : (upHost.is ACC_CTL.LOCK = false ∧ ready 2 (writeParams 0x10104 0x123456) upHost) ∧
    Gives (.writeReg (.host 0) hdr (writeParams 0x10104 0x123456)) upHost fun t => t.get ACC_BLK.RIGHTS 1 = 0x123E56 :=
  ⟨⟨by decide +kernel, by decide +kernel, by decide +kernel⟩, gives rfl (by decide +kernel)⟩

theorem test_write_mask : ready 2 (writeParams 0x2013C 0x80000001) upHost ∧
    Gives (.writeReg (.host 0) hdr (writeParams 0x2013C 0x80000001)) upHost fun t => t.get EVT_SUB_MASK.MASK 1 3 = 0x80000001 :=
  ⟨⟨by decide +kernel, by decide +kernel⟩, gives rfl (by decide +kernel)⟩

theorem test_discard : (arrives upHost (.host 0) = true ∧ discards upHost [1, 2, 3] = true) ∧
    Gives (.cmdPacketDiscard (.host 0) [1, 2, 3]) upHost fun t => t.get SYS_CMD_DISCARD.COUNT = 1 := ⟨by decide +kernel, gives rfl (by decide +kernel)⟩

theorem test_version : headerStatus (.host 0) 0x7E { hdr with vmaj := 3 } 0 (upHost.endpoint (packetKey (.host 0) hdr)) = stVersion ∧
    Gives (.ping (.host 0) { hdr with vmaj := 3 } []) upHost fun t => t.get SYS_CMD_REFUSED.COUNT = 1 ∧ t.cmd.endpoints = [] :=
  ⟨by decide +kernel, gives rfl (by decide +kernel)⟩

theorem test_unknown : (headerReady (.host 0) 0x7F hdr [] upHost = true ∧ 0x7F ∉ knownOpcodes) ∧ Gives (.unknownOpcode (.host 0) hdr 0x7F []) upHost fun t =>
    (t.tx.map fun o => match o with | .reply _ p _ => p.hdr.status.toNat | _ => 0) = [stBadOpcode] := ⟨by decide +kernel, gives rfl (by decide +kernel)⟩

theorem test_noreply : ready 0x7E [] upHost ∧ Gives (.ping (.host 0) { hdr with noreply := true } []) upHost fun t => t.tx = [] :=
  ⟨⟨by decide +kernel, by decide +kernel⟩, gives rfl (by decide +kernel)⟩

/-- Sources 0 and 2 are pending. -/
def pendingTwo : State := { upHost with evt := { upHost.evt with pend := 5, counts := [(0, 3), (2, 1)] } }

theorem test_pending : ready 2 (writeParams 0x20010 4) pendingTwo ∧ Gives (.evtPendingClear (.host 0) hdr 0 4 []) pendingTwo fun t =>
    t.evt.pend = 1 ∧ t.evt.counts = [(0, 3)] := ⟨⟨by decide +kernel, by decide +kernel⟩, gives rfl (by decide +kernel)⟩

theorem test_same_cycle : (bit (evtDefined 0) 0 = true ∧ evtEnabled pendingTwo 0 = true ∧ ready 2 (writeParams 0x20010 1) pendingTwo) ∧
    Gives (.evtPendingClear (.host 0) hdr 0 1 [(0, 7)]) pendingTwo fun t => t.evt.pend = 5 ∧ evtCount t 0 = 1 :=
  ⟨⟨by decide +kernel, by decide +kernel, by decide +kernel, by decide +kernel⟩, gives rfl (by decide +kernel)⟩

/-- A batch of one record waits in slot 3. -/
def batched : State := { upHost with evt := { upHost.evt with batches := [(3, [{ source := 4, occur := 1, time := 0, info := 0 }])], seqs := [(3, 65535)] } }

theorem test_batch : (batched.on 1 = true ∧ mapGet [] batched.evt.batches 3 ≠ []) ∧ Gives (.eventBatchSend 3) batched fun t =>
    t.evt.batches = [] ∧ mapGet 0 t.evt.seqs 3 = 0 := ⟨by decide +kernel, gives rfl (by decide +kernel)⟩

theorem test_viol_clear : ready 2 (writeParams 0x10004 0x80000000) (upHost.put ACC_VIOL_INFO.VALID 1) ∧
    Gives (.accViolInfoClear (.host 0) hdr) ((upHost.put ACC_VIOL_INFO.VALID 1).put ACC_VIOL_COUNT.COUNT 9) fun t =>
      t.get ACC_VIOL_INFO.VALID = 0 ∧ t.get ACC_VIOL_COUNT.COUNT = 0 := ⟨⟨by decide +kernel, by decide +kernel⟩, gives rfl (by decide +kernel)⟩

theorem test_lock : ready 2 (writeParams 0x10000 1) upHost ∧ Gives (.accCtlLock (.host 0) hdr) upHost fun t => t.get ACC_CTL.LOCK = 1 :=
  ⟨⟨by decide +kernel, by decide +kernel⟩, gives rfl (by decide +kernel)⟩

theorem test_locked : ready 2 (writeParams 0x10000 1) (upHost.put ACC_CTL.LOCK 1) ∧ Gives (.accCtlLock (.host 0) hdr) (upHost.put ACC_CTL.LOCK 1) fun t =>
    t.get ACC_VIOL_INFO.KIND = 1 ∧ t.get ACC_VIOL_INFO.INDEX = 1 ∧ t.get ACC_VIOL_COUNT.COUNT = 1 :=
  ⟨⟨by decide +kernel, by decide +kernel⟩, gives rfl (by decide +kernel)⟩

theorem test_fw_load : ready 0x70 (beBytes 4 8 ++ [1, 2, 3, 4]) upHost ∧ Gives (.fwLoad (.host 0) hdr (beBytes 4 8 ++ [1, 2, 3, 4])) upHost fun t =>
    t.bytes 0x0100F00008 4 = [1, 2, 3, 4] := ⟨⟨by decide +kernel, by decide +kernel⟩, gives rfl (by decide +kernel)⟩

theorem test_fw_activate : (ready 0x71 [] upHost ∧ upHost.pow.firmware = true ∧ armed upHost = false ∧ anyAxisMoves upHost = false) ∧
    Gives (.fwActivate (.host 0) hdr []) upHost fun t => evtPending t SYS_FW_REJECT = true :=
  ⟨⟨⟨by decide +kernel, by decide +kernel⟩, by decide +kernel⟩, gives rfl (by decide +kernel)⟩

theorem test_fw_busy : ready 0x71 [] (upHost.put FIRE_STATUS.ARMED 1) ∧ armed (upHost.put FIRE_STATUS.ARMED 1) = true := ⟨⟨by decide +kernel, by decide +kernel⟩, by decide +kernel⟩

/-- The boot ROM serves HOST0. -/
def romHost : State := { upHost with pow := { upHost.pow with firmware := false, romHost := true } }

theorem test_fw_rom : ready 0x71 [] romHost ∧ romHost.pow.firmware = false := ⟨⟨by decide +kernel, by decide +kernel⟩, rfl⟩

/-! ### Host ports and time -/

/-- HOST0 enabled and up, with an address. -/
def hostOn : State := (upHost.put HOST_CTL.EN 1 0).put HOST_IP.IP 0x0A000001 0

theorem test_link : (hostOn.on 6 = true ∧ hostOn.is HOST_CTL.EN 0 = true ∧ hostTenGig hostOn 0 = false) ∧
    Gives (.hostLinkChange 0 15 true false false false) hostOn fun t => t.is HOST_STATUS.LINK 0 = false ∧ evtPending t 16 = true :=
  ⟨by decide +kernel, gives rfl (by decide +kernel)⟩

theorem test_link_same : Gives (.hostLinkChange 0 15 true true false false) hostOn fun t => t.is HOST_STATUS.LINK 0 = true ∧ t.evt = hostOn.evt :=
  gives rfl (by decide +kernel)

/-- HOST1 searches in alternate mode. -/
def alternate : State := (up.put HOST_CTL.EN 1 1).put HOST_CTL.MODE 2 1

theorem test_alternate : (alternate.on 6 = true ∧ alternate.get HOST_CTL.MODE 1 = 2 ∧ alternate.is HOST_STATUS.LINK 1 = false) ∧
    Gives (.hostAlternateTimeout 1) alternate fun t => t.get HOST_STATUS.MODE_IN_FORCE 1 = 1 := ⟨by decide +kernel, gives rfl (by decide +kernel)⟩

theorem test_host_ctl : ready 2 (writeParams 0x108000 0x0ABC0003) upHost ∧ Gives (.hostCtlWrite (.host 0) hdr 1 0x0ABC0003) upHost fun t =>
    t.get HOST_CTL.VID 1 = 0xABC ∧ t.get HOST_STATUS.MODE_IN_FORCE 1 = 1 := ⟨⟨by decide +kernel, by decide +kernel⟩, gives rfl (by decide +kernel)⟩

theorem test_host_ctl_locked : (ready 2 (writeParams 0x100000 0x0B) hostOn ∧ hostOn.is HOST_CTL.EN 0 = true ∧ hostLineMoved hostOn 0 0x0B = true) ∧
    Gives (.hostCtlWrite (.host 0) hdr 0 0x0B) hostOn fun t => t.get HOST_CTL.MODE 0 = 0 ∧ t.get SYS_CMD_REFUSED.COUNT = 1 :=
  ⟨⟨⟨by decide +kernel, by decide +kernel⟩, by decide +kernel⟩, gives rfl (by decide +kernel)⟩

theorem test_frame_short : (hostUp hostOn 0 = true ∧ frameReason hostOn 0 [1, 2, 3] ≠ 0 ∧ hostUp hostOn 1 = false) ∧
    Gives (.hostFrameRx 0 [1, 2, 3]) hostOn fun t => t.get HOST_RX_DISCARD.COUNT 0 = 1 ∧ t.get HOST_RX_REASON.LAST 0 = 1 :=
  ⟨by decide +kernel, gives rfl (by decide +kernel)⟩

/-- A frame with its FCS. -/
def withFcs (f : List Byte) : List Byte := f ++ leBytes 4 (crc32 f)

/-- A broadcast ARP request for 10.0.0.1. -/
def arpRequest : List Byte :=
  withFcs (padFrame ([0xFF, 0xFF, 0xFF, 0xFF, 0xFF, 0xFF, 2, 0, 0, 0, 0, 9, 8, 6, 0, 1, 8, 0, 6, 4, 0, 1, 2, 0, 0, 0, 0, 9, 10, 0, 0, 9, 0, 0, 0, 0, 0, 0, 10, 0, 0, 1]))

/-- HOST0 with a MAC that is given. -/
def hostMac : State := { hostOn with regs := mapPut (HOST_MAC.MAC.key 0 0) 0x020000000001 hostOn.regs }

theorem test_arp : (hostUp hostMac 0 = true ∧ frameReason hostMac 0 arpRequest = 0 ∧ frameTagged arpRequest = false ∧ beAt arpRequest 38 4 = hostMac.get HOST_IP.IP 0) ∧
    Gives (.hostFrameRx 0 arpRequest) hostMac fun t => (t.tx.map fun o => match o with | .frame _ g => g.take 42 | _ => [])
      = [[2, 0, 0, 0, 0, 9, 2, 0, 0, 0, 0, 1, 8, 6, 0, 1, 8, 0, 6, 4, 0, 2, 2, 0, 0, 0, 0, 1, 10, 0, 0, 1, 2, 0, 0, 0, 0, 9, 10, 0, 0, 9]] :=
  ⟨by decide +kernel, gives rfl (by decide +kernel)⟩

/-- A datagram to UDP port 0x5A31 of 10.0.0.1: a transport header of class CMD and no packet. -/
def udpFrame : List Byte :=
  let u : List Byte := [0x12, 0x34, 0x5A, 0x31, 0, 24, 0, 0, 0x11, 0, 0, 0, 0, 0, 0, 0, 0, 0, 0, 0, 0, 0, 0, 0]
  withFcs (padFrame ([0xFF, 0xFF, 0xFF, 0xFF, 0xFF, 0xFF, 2, 0, 0, 0, 0, 9, 8, 0] ++ ipHead 0 0 44 17 0x0A000009 0x0A000001 ++ u))

theorem test_udp : frameReason hostMac 0 udpFrame = 0 ∧ ipOk hostMac 0 (beAt udpFrame 0 6) ((udpFrame.take 60).drop 14) = true
    ∧ udpOk (((udpFrame.take 60).drop 14).take 44) ((((udpFrame.take 60).drop 14).take 44).drop 20) = true := by decide +kernel

theorem test_udp_taken : Gives (.hostFrameRx 0 udpFrame) hostMac fun t => t.get SYS_CMD_DISCARD.COUNT = 1 := gives rfl (by decide +kernel)

/-- A RASTER datagram of stream 2 with a payload of four bytes. -/
def raster (flags : Byte) (seq : Byte) : List Byte := [0x14, flags, 0, 2, 0, 0, 0, seq, 0, 4, 0, 0, 0, 0, 0, 0, 1, 2, 3, 4]

/-- Its sender. -/
def sender : NetAddr := { mac := 9, ip := 0x0A000009, port := 7, sentTo := 0x0A000001 }

/-- Stream 2 is bound to the sender and expects SEQ 5. -/
def bound : State := hostOn.setStream 0 2 { bound := some (65536 * 0x0A000009 + 7), expect := 5 }

theorem test_raster : (hostUp bound 0 = true ∧ datagramOk (raster 0 5) = true ∧ datagramClass (raster 0 5) = 4 ∧ 4 ≤ hostCredit bound 0) ∧
    Gives (.rasterDatagramRx 0 sender (raster 0 5)) bound fun t => (t.stream 0 2).expect = 6 := ⟨by decide +kernel, gives rfl (by decide +kernel)⟩

theorem test_raster_held : Gives (.rasterDatagramRx 0 sender (raster 0 9)) bound fun t => (t.stream 0 2).expect = 5 ∧ (t.stream 0 2).held = [(9, some [1, 2, 3, 4])] :=
  gives rfl (by decide +kernel)

theorem test_raster_duplicate : Gives (.rasterDatagramRx 0 sender (raster 0 4)) bound fun t => t.get HOST_RX_REASON.LAST 0 = 8 := gives rfl (by decide +kernel)

theorem test_raster_resync : Gives (.rasterDatagramRx 0 sender (raster 0x40 200)) hostOn fun t => (t.stream 0 2).expect = 201 := gives rfl (by decide +kernel)

theorem test_raster_unbound : Gives (.rasterDatagramRx 0 sender (raster 0 200)) hostOn fun t => t.get HOST_RX_REASON.LAST 0 = 8 := gives rfl (by decide +kernel)

/-- A TRIGGER datagram for page 3. -/
def triggerDatagram : List Byte := [0x16, 0, 0, 0, 0, 0, 0, 0, 0, 32, 0, 0, 0, 0, 0, 0, 0, 3] ++ zeros 30

theorem test_trigger : (datagramOk triggerDatagram = true ∧ datagramClass triggerDatagram = 6 ∧ armed (hostOn.put FIRE_STATUS.ARMED 1) = true) ∧
    Gives (.triggerDatagramRx 0 sender triggerDatagram) (hostOn.put FIRE_STATUS.ARMED 1) fun t => t.fire.triggers = [(3, 0)] :=
  ⟨by decide +kernel, gives rfl (by decide +kernel)⟩

/-- Stream 2 holds SEQ 9; SEQs 5 to 8 are missing. -/
def gapped (tries : List (Nat × Nat)) : State := hostOn.setStream 0 2 { bound := some 1, expect := 5, held := [(9, none)], requests := tries }

theorem test_nak : missingSeqs ((gapped []).stream 0 2) = [5, 6, 7, 8] ∧ Gives (.nakRequest 0 2 [5, 6, 8]) (gapped []) fun t =>
    (t.tx.map fun o => match o with | .status _ _ _ e _ l => (e, l) | _ => (0, [])) = [(5, [(5, 2), (8, 1)])] ∧ (t.stream 0 2).requests = [(5, 1), (6, 1), (8, 1)] :=
  ⟨by decide +kernel, gives rfl (by decide +kernel)⟩

theorem test_ack : Gives (.ackIntervalStatus 0 2) (gapped []) fun t =>
    (t.tx.map fun o => match o with | .status _ _ _ e _ l => (e, l) | _ => (0, [])) = [(5, [(5, 4)])] := gives rfl (by decide +kernel)

theorem test_give_up : Gives (.seqGivenUp 0 2 5) (gapped [(5, 4)]) fun t => (t.stream 0 2).expect = 6 ∧ t.get HOST_RX_GAP.COUNT 0 = 1 := gives rfl (by decide +kernel)

/-- HOST0 runs IEEE 1588 over layer 2 as a slave of domain 0. -/
def ptpState (t : Ptp) : State := ((hostOn.put HOST_PTP_CFG.EN 1 0).put TIME_CTL.SRC 1).setPtp 0 t

/-- A message. -/
def ptpMsg (k : PtpKind) (b : Bool) : PtpMessage := { kind := k, domain := 0, seq := 3, stamp := 1000, correction := 0, udp := false, better := b }

theorem test_announce : (hostUp (ptpState {}) 0 = true ∧ ptpOn (ptpState {}) 0 false = true) ∧
    Gives (.ptpMessageRx 0 (ptpMsg .announce true)) (ptpState {}) fun t => (t.ptpPort 0).better = true := ⟨by decide +kernel, gives rfl (by decide +kernel)⟩

theorem test_ptp_step : Gives (.ptpMessageRx 0 (ptpMsg .followUp false)) (ptpState { syncSeq := some (3, 0), delay := some 0 }) fun t =>
    t.get TIME_STATUS.STEPPED = 1 ∧ t.now = 1000 := gives rfl (by decide +kernel)

theorem test_ptp_management : Gives (.ptpMessageRx 0 (ptpMsg .other false)) (ptpState {}) fun t => t.get HOST_RX_REASON.LAST 0 = 4 := gives rfl (by decide +kernel)

theorem test_ptp_master : Gives (.ptpMessageRx 0 (ptpMsg .delayReq false)) ((ptpState {}).put HOST_PTP_CFG.SLAVE_ONLY 0 0) fun t => t.tx.length = 1 :=
  gives rfl (by decide +kernel)

theorem test_ptp_interval : Gives (.ptpMessageInterval 0 .delayReq) (ptpState { seq := 65535 }) fun t => (t.ptpPort 0).seq = 0 ∧ t.tx.length = 1 :=
  gives rfl (by decide +kernel)

/-- The raw counter stands at 10 s. -/
def atTen : State := { upHost with time := { upHost.time with raw := 10000000000 } }

theorem test_rate : (ready 2 (writeParams 0x200020 0x7FFFFFFF) atTen ∧ atTen.get TIME_CTL.SRC = 0 ∧ atTen.get TIME_RATE_MAX.MAX < 2 ^ 31) ∧
    Gives (.timeRateWrite (.host 0) hdr 0x7FFFFFFF) atTen fun t =>
      t.getS TIME_RATE.RATE = 0x0D1B7176 ∧ t.nowQ = atTen.nowQ ∧ t.is TIME_STATUS.RATE_CLAMPED = true :=
  ⟨⟨⟨by decide +kernel, by decide +kernel⟩, by decide +kernel⟩, gives rfl (by decide +kernel)⟩

theorem test_rate_negative : Gives (.timeRateWrite (.host 0) hdr 0xFFFFF000) atTen fun t => t.getS TIME_RATE.RATE = -4096 ∧ t.nowQ = atTen.nowQ :=
  gives rfl (by decide +kernel)

theorem test_epoch : (ready 2 (writeParams 0x200000 0x102) (atTen.put TIME_STATUS.STEPPED 1) ∧ armed (atTen.put TIME_STATUS.STEPPED 1) = false) ∧
    Gives (.timeCtlEpochReset (.host 0) hdr 2) (atTen.put TIME_STATUS.STEPPED 1) fun t => t.get TIME_STATUS.STEPPED = 0 ∧ t.get TIME_CTL.SRC = 2 :=
  ⟨⟨⟨by decide +kernel, by decide +kernel⟩, by decide +kernel⟩, gives rfl (by decide +kernel)⟩

theorem test_src : ready 2 (writeParams 0x200000 0) (atTen.put TIME_STATUS.STEPPED 1) ∧
    Gives (.timeCtlSrcWrite (.host 0) hdr 0) (atTen.put TIME_STATUS.STEPPED 1) fun t => t.get TIME_STATUS.STEPPED = 1 :=
  ⟨⟨by decide +kernel, by decide +kernel⟩, gives rfl (by decide +kernel)⟩

theorem test_epoch_armed : ready 2 (writeParams 0x200000 0x100) (atTen.put FIRE_STATUS.ARMED 1) := ⟨by decide +kernel, by decide +kernel⟩

/-- The endpoint has agreed version 3.2 and every feature. -/
def agreed (s : State) : State := s.setEndpoint (packetKey (.host 0) hdr) { version := 0x32, features := 0x3F }

/-- A header of version 3.2. -/
def hdr32 : Hdr := { hdr with vmaj := 3, vmin := 2 }

theorem test_step : PacketReady (.host 0) 0x22 hdr32 (beBytes 4 0 ++ beBytes 8 10000000000 ++ beBytes 8 77 ++ [0x80, 0, 0, 0]) (agreed atTen) ∧
    Gives (.timeStep (.host 0) hdr32 (beBytes 4 0 ++ beBytes 8 10000000000 ++ beBytes 8 77 ++ [0x80, 0, 0, 0])) (agreed atTen) fun t =>
      t.correctedQ 10000000000 = 77 * 65536 + 0x8000 ∧ t.get TIME_STATUS.STEPPED = 1 := ⟨⟨by decide +kernel, by decide +kernel⟩, gives rfl (by decide +kernel)⟩

theorem test_step_refused : Gives (.timeStep (.host 0) hdr32 (beBytes 4 0 ++ beBytes 8 10000000000 ++ beBytes 8 77 ++ [0x80, 0, 0, 0]))
    (agreed (atTen.put TIME_STATUS.STEPPED 1)) fun t => t.get TIME_STATUS.STEP_RESULT = 2 ∧ t.nowQ = atTen.nowQ := gives rfl (by decide +kernel)

theorem test_step_go : ready 2 (writeParams 0x200050 0x80018000) ((atTen.put TIME_STEP_VAL.VALUE (2 ^ 64 - 2))) ∧
    Gives (.timeStepGo (.host 0) hdr 0x00018000) (atTen.put TIME_STEP_VAL.VALUE (2 ^ 64 - 2)) fun t =>
      t.correctedQ 0 = -2 * 65536 + 0x8000 ∧ t.get TIME_STATUS.STEP_RESULT = 1 := ⟨⟨by decide +kernel, by decide +kernel⟩, gives rfl (by decide +kernel)⟩

theorem test_cmp_arm : ready 2 (writeParams 0x200114 0x80000001) (atTen.put TIME_CMP.TGT 5 1) ∧
    Gives (.timeCmpArm (.host 0) hdr 1 1) (atTen.put TIME_CMP.TGT 5 1) fun t => t.get TIME_CMP.REACHED 1 = 1 ∧ t.get TIME_CMP.TGT 1 = 0x100000005 :=
  ⟨⟨by decide +kernel, by decide +kernel⟩, gives rfl (by decide +kernel)⟩

theorem test_cmp_wait : Gives (.timeCmpArm (.host 0) hdr 1 3) (atTen.put TIME_CMP.TGT 5 1) fun t => t.get TIME_CMP.EN 1 = 1 ∧ t.get TIME_CMP.REACHED 1 = 0 :=
  gives rfl (by decide +kernel)

theorem test_cmp_reached : Gives (.timeCmpReached 2) (atTen.put TIME_CMP.EN 1 2) fun t => t.get TIME_CMP.REACHED 2 = 1 ∧ evtPending t 23 = true :=
  gives rfl (by decide +kernel)

/-- Slot 4 is set up for a frame of 60 zero bytes at 11 s. -/
def slotSet : State := ((atTen.put TIME_LNCH_LEN.LEN 60 4).put TIME_LNCH_TGT.TGT 11000000000 4).put TIME_LNCH_ADDR.OFFSET 64 4

theorem test_launch_write : (ready 2 (writeParams 0x200280 1) slotSet ∧ launchPlaced slotSet 4 = true ∧ launchFits slotSet 0 (launchFrame slotSet 4) = true
      ∧ slotSet.reached48 11000000000 = false) ∧
    Gives (.timeLnchEnWrite (.host 0) hdr 4 1) slotSet fun t => t.get TIME_LNCH_CFG.STATE 4 = 1 ∧ t.time.launches.length = 1 :=
  ⟨⟨⟨by decide +kernel, by decide +kernel⟩, by decide +kernel⟩, gives rfl (by decide +kernel)⟩

/-- Slot 4 waits for now. -/
def slotDue : State := { atTen.put TIME_LNCH_CFG.STATE 1 4 with time := { atTen.time with launches := [(4, { frame := zeros 60, port := 0, target := 10000000000 })] } }

theorem test_launch_cancel : ready 2 (writeParams 0x200280 0) slotDue ∧ Gives (.timeLnchEnWrite (.host 0) hdr 4 0) slotDue fun t =>
    t.get TIME_LNCH_CFG.STATE 4 = 0 ∧ t.time.launches = [] := ⟨⟨by decide +kernel, by decide +kernel⟩, gives rfl (by decide +kernel)⟩

theorem test_launch_sent : (slotDue.until48 10000000000 = 0 ∧ slotDue.now < 2 ^ 48 ∧ slotDue.is HOST_STATUS.LINK 0 = true ∧ launchUntil slotDue 0 ≤ slotDue.time.raw) ∧
    Gives (.launchSent 4) slotDue fun t => t.get TIME_LNCH_CFG.STATE 4 = 2 ∧ t.tx = [.frame 0 (zeros 60)] := ⟨by decide +kernel, gives rfl (by decide +kernel)⟩

theorem test_launch_dropped : Gives (.launchSent 4) (slotDue.put HOST_STATUS.LINK 0 0) fun t => t.get TIME_LNCH_CFG.STATE 4 = 4 ∧ t.tx = [] :=
  gives rfl (by decide +kernel)

/-- Another launch has just begun on the port: the slot waits, and leaves late after it. -/
theorem test_launch_behind : Gives (.launchSent 4) { slotDue with time := { slotDue.time with sending := [(0, 10000000005)] } } fun t =>
    t.get TIME_LNCH_CFG.STATE 4 = 1 := gives rfl (by decide +kernel)

theorem test_launch_late : Gives (.launchSent 4) { slotDue with time := { slotDue.time with raw := 10000000006, sending := [(0, 10000000005)] } } fun t =>
    t.get TIME_LNCH_CFG.STATE 4 = 3 ∧ evtPending t TIME_LAUNCH_LATE = true := gives rfl (by decide +kernel)

/-! ### The fabric -/

/-- Fabric port k is in a state of Table 6.2. -/
def fabIn (k v : Nat) : State := (up.put FAB_STATUS.STATE v k).put FAB_CTL.EN (if v = 0 then 0 else 1) k

theorem test_fab_en : (PacketReady .sideband 2 hdr (writeParams 0x308000 9) (fabIn 2 0)) ∧ Gives (.fabCtlEnWrite .sideband hdr 2 9) (fabIn 2 0) fun t =>
    fabState t 2 = 1 ∧ t.get FAB_CTL.EN 2 = 1 := ⟨⟨by decide +kernel, by decide +kernel⟩, gives rfl (by decide +kernel)⟩

theorem test_fab_retrain : (PacketReady .sideband 2 hdr (writeParams 0x308000 0x80000009) (fabIn 2 5)) ∧ fabState (fabIn 2 5) 2 = 5
    ∧ Gives (.fabCtlRetrain .sideband hdr 2 9) (fabIn 2 2) fun t => fabState t 2 = 1 :=
  ⟨⟨by decide +kernel, by decide +kernel⟩, by decide +kernel, gives rfl (by decide +kernel)⟩

theorem test_fab_off : (PacketReady .sideband 2 hdr (writeParams 0x308000 8) (fabIn 2 5)) ∧ Gives (.fabCtlEnWrite .sideband hdr 2 8) (fabIn 2 3) fun t =>
    fabState t 2 = 0 := ⟨⟨by decide +kernel, by decide +kernel⟩, gives rfl (by decide +kernel)⟩

theorem test_fab_busy : (PacketReady .sideband 2 hdr (writeParams 0x308000 0xD) (fabIn 2 5)) ∧ Gives (.fabCtlEnWrite .sideband hdr 2 0xD) (fabIn 2 5) fun t =>
    t.get FAB_CTL.TX_INV 2 = 0 ∧ t.get SYS_CMD_REFUSED.COUNT = 1 := ⟨⟨by decide +kernel, by decide +kernel⟩, gives rfl (by decide +kernel)⟩

theorem test_fab_detect : Gives (.fabFarEndDetected 2) (fabIn 2 1) fun t => fabState t 2 = 2 ∧ t.get FAB_TAPS.MAIN 2 = 52 := gives rfl (by decide +kernel)

theorem test_fab_limit : Gives (.fabStateTimeout 2) (fabIn 2 3) fun t => fabState t 2 = 1 ∧ t.get FAB_TRAIN_FAILS.COUNT 2 = 1 ∧ evtPending t FAB_TRAIN_FAIL = true :=
  gives rfl (by decide +kernel)

theorem test_fab_train : fabState (fabIn 2 2) 2 = 2
    ∧ (let t := tapApply 2 { reqPost := 1, reqMain := 2, rseq := 1 } (setTaps 2 3 52 8 (fabIn 2 2))
       (t.get FAB_TAPS.PRE 2, t.get FAB_TAPS.MAIN 2, t.get FAB_TAPS.POST 2) = (3, 51, 9)) ∧ tapsOk 3 52 8 = true := by decide +kernel

theorem test_fab_train_limit : (let t := tapApply 2 { reqPre := 1, rseq := 1 } (setTaps 2 3 52 8 (fabIn 2 2))
    t.get FAB_TAPS.PRE 2 = 3 ∧ (t.fabPort 2).answer = 0x30) := by decide +kernel

theorem test_fab_preset : (tapApply 2 { preset := true, rseq := 1 } ((fabIn 2 2).put FAB_TAPS.POST 9 2)).get FAB_TAPS.POST 2 = 8 := by decide +kernel

/-- Link control frames with their CRC. -/
def withCrc (f : List Byte) : List Byte := f ++ beBytes 4 (crc32c f)

/-- A CAP frame: version, SEEN, largest cell, and UID 7. -/
def cap (ver flags : Nat) : List Byte := withCrc (beBytes 1 1 ++ beBytes 1 ver ++ beBytes 1 flags ++ beBytes 2 128 ++ [4, 0] ++ beBytes 8 7 ++ beBytes 2 9 ++ beBytes 4 7)

theorem test_cap_frame : frameOk 1 (cap 0x20 1) = true ∧ (cap 0x20 1).length = 25 ∧ frameOk 1 (cap 0x30 1) = true := by decide +kernel

/-- Bytes before the last four of a frame read as they stand, and its CRC is right. -/
theorem frameOk_withCrc (type : Nat) (f : List Byte) (h1 : 1 ≤ f.length) (h2 : f.length ≤ 124) (ht : beAt (withCrc f) 0 1 = type)
    (hc : beAt (withCrc f) f.length 4 = crc32c f) : frameOk type (withCrc f) = true := by
  have hl : (withCrc f).length = f.length + 4 := by simp [withCrc, beBytes]
  have htake : (withCrc f).take f.length = f := by simp [withCrc]
  simp [frameOk, hl, ht, htake, hc]; omega

/-- Port 2 is ACTIVE with agreed features. -/
def linked (p : FabPort) : State := (fabIn 2 5).setFabPort 2 { p with features := 7 }

/-- A cell for node 0. -/
def cellFor (cls dst hops : Nat) (payload : List Byte) : List Byte := mkCell cls dst 5 hops 0 payload

/-- A port whose far end sends cells to node 0, this node. -/
def routed : State := (linked {}).put FAB_ROUTE.CODE 8 0

theorem test_cell_bad : cellWhole (cellFor 2 0 63 [1]) 0 = false ∧ Gives (.fabCellRx 2 0 true (cellFor 2 0 63 [1]) 0) routed fun t => t.get FAB_CRC_ERR.COUNT 2 = 1 :=
  ⟨by decide +kernel, gives rfl (by decide +kernel)⟩

theorem test_cell_nak : cellWhole (cellFor 2 0 63 [1]) (crc32c (cellFor 2 0 63 [1])) = true ∧
    Gives (.fabCellRx 2 9 false (cellFor 2 0 63 [1]) (BitVec.ofNat 32 (crc32c (cellFor 2 0 63 [1])))) routed fun t => t.tx = [.ack 2 4095 true 0] :=
  ⟨by decide +kernel, gives rfl (by decide +kernel)⟩

theorem test_cell_own : (cellClass (cellFor 2 0 63 [1]) = 2 ∧ fabRoute routed (cellDst (cellFor 2 0 63 [1])) = 8) ∧
    Gives (.fabCellRx 2 0 false (cellFor 2 0 63 [1]) (BitVec.ofNat 32 (crc32c (cellFor 2 0 63 [1])))) routed fun t => (t.fabPort 2).rxNext = 1 :=
  ⟨by decide +kernel, gives rfl (by decide +kernel)⟩

/-- Port 3 leads to node 9. -/
def crossing : State := (routed.put FAB_STATUS.STATE 5 3).put FAB_ROUTE.CODE 3 9

theorem test_cell_forward : (fabRoute crossing 9 = 3 ∧ fabMaySend crossing 3 (cellFor 1 9 63 [1]) = true) ∧
    Gives (.fabCellRx 2 0 false (cellFor 1 9 63 [1]) (BitVec.ofNat 32 (crc32c (cellFor 1 9 63 [1])))) crossing fun t => t.tx = [.cell 3 (some 0) (cellFor 1 9 62 [1])] :=
  ⟨by decide +kernel, gives rfl (by decide +kernel)⟩

/-- Two cells are held for replay. -/
def holding : State := linked { unacked := [{ lseq := 7, bytes := [1] }, { lseq := 8, bytes := [2] }], credit := 500, replays := 3 }

theorem test_ack_rx : Gives (.fabAckRx 2 7 false 20) holding fun t =>
    ((t.fabPort 2).unacked.map (·.lseq)) = [8] ∧ (t.fabPort 2).credit = 512 ∧ (t.fabPort 2).replays = 0 := gives rfl (by decide +kernel)

theorem test_replay : Gives (.fabReplayTimeout 2) holding fun t => (t.fabPort 2).replays = 4 ∧ t.tx.length = 2 ∧ t.get FAB_REPLAY.COUNT 2 = 1 := gives rfl (by decide +kernel)

theorem test_replay_out : fabActive (linked { unacked := [{ lseq := 7, bytes := [1] }], replays := 7 }) 2 = true
    ∧ (linked { unacked := [{ lseq := 7, bytes := [1] }], replays := 7 }).fabPort 2 ≠ {} := by decide +kernel

theorem test_ack_timer : Gives (.fabAckTimer 2) (linked { rxNext := 5, owed := 3 }) fun t => t.tx = [.ack 2 4 false 3] ∧ (t.fabPort 2).owed = 0 := gives rfl (by decide +kernel)

theorem test_sleep : Gives (.fabSleepEntry 2) (linked {}) fun t => t.tx = [.sleep 2 true] ∧ t.is FAB_STATUS.TX_SLEEP 2 = true := gives rfl (by decide +kernel)

theorem test_sleep_end : Gives (.fabSleepExit 2) ((linked {}).put FAB_STATUS.TX_SLEEP 1 2) fun t => t.tx = [.sleep 2 false] := gives rfl (by decide +kernel)

theorem test_sleep_rx : Gives (.fabSleepRx 2) (linked {}) fun t => t.is FAB_STATUS.RX_SLEEP 2 = true := gives rfl (by decide +kernel)

theorem test_trigger_cell : Gives (.triggerCellRx 2 (cellFor 6 0 63 ([0, 3] ++ zeros 30))) (routed.put FIRE_STATUS.ARMED 1) fun t => t.fire.triggers = [(3, 0)] :=
  gives rfl (by decide +kernel)

theorem test_trigger_short : Gives (.triggerCellRx 2 (cellFor 6 0 63 [0, 3])) (routed.put FIRE_STATUS.ARMED 1) fun t => t.get FAB_DROP.COUNT 2 = 1 := gives rfl (by decide +kernel)

/-- An ELECT frame of root 0. -/
def elect : List Byte := withCrc (beBytes 1 2 ++ beBytes 8 0 ++ [3, 0] ++ beBytes 8 8)

theorem test_elect : fabActive (linked {}) 2 = true ∧ frameOk 2 elect = true ∧ elect.length = 23 ∧ activePorts (linked {}) = [2] := by decide +kernel

/-- TOPO frames of nodes 0 and 1: at least one of them is another node. -/
def topo (u : Nat) : List Byte := withCrc (beBytes 1 3 ++ beBytes 8 u ++ beBytes 2 9 ++ beBytes 2 1 ++ beBytes 1 1 ++ beBytes 1 4 ++ beBytes 8 7)

theorem test_topo : frameOk 3 (topo 0) = true ∧ frameOk 3 (topo 1) = true ∧ (topo 0).length = 18 + 9 * beAt (topo 0) 13 1 ∧ (topo 1).length = 18 + 9 * beAt (topo 1) 13 1
    ∧ topoNewer (linked {}) (topoOfFrame (topo 0)) = true ∧ topoNewer (linked {}) (topoOfFrame (topo 1)) = true
    ∧ ((topoOfFrame (topo 0)).uid ≠ Config.uid ∨ (topoOfFrame (topo 1)).uid ≠ Config.uid) := by
  refine ⟨by decide +kernel, by decide +kernel, by decide +kernel, by decide +kernel, by decide +kernel, by decide +kernel, ?_⟩
  have h0 : (topoOfFrame (topo 0)).uid = 0 := by decide +kernel
  have h1 : (topoOfFrame (topo 1)).uid = 1 := by decide +kernel
  omega

theorem test_assign_root : let s : State := { (linked {}).put FAB_NODE.ROOT 1 with fab := { assigned := false } }
    s.on 7 = true ∧ s.is FAB_NODE.ROOT = true ∧ s.fab.assigned = false ∧ activePorts s = [2] := by decide +kernel

/-- The lowest free ID goes to the node whose own is taken. -/
theorem test_free_id : freeId (linked {}) { uid := 5, node := 3, gen := 0, links := [] } 0x3FF [3, 0] = 1 := by decide +kernel

/-- An ASSIGN frame. -/
def assign : List Byte := withCrc (assignFrame 0 0 9 4)

theorem test_assign : fabActive (linked {}) 2 = true ∧ frameOk 4 assign = true ∧ assign.length = 25 ∧ (linked {}).fab.assigns = [] := by decide +kernel

theorem test_routing : let s : State := { linked {} with fab := { routed := false } }
    s.on 7 = true ∧ s.fab.routed = false ∧ s.node < 1023 := by decide +kernel

theorem test_delay_req : Gives .fabDelayReqTimer (linked { reqId := 255 }) fun t => (t.fabPort 2).delayReq = some (255, 0) ∧ (t.fabPort 2).reqId = 0 := by
  refine ⟨_, rfl, ?_⟩
  simp only [show activePorts (linked { reqId := 255 }) = [2] by decide +kernel, show (linked { reqId := 255 }).is FAB_TIME_CFG.EN = true by decide +kernel, if_true, each, delayReq, sendTime, fabPush]
  exact ⟨by decide +kernel, by decide +kernel⟩

theorem test_fab_lock : Gives (.fabBlockLockGained 2) (fabIn 2 3) (fun t => fabState t 2 = 4) ∧ fabState (fabIn 2 6) 2 = 6 ∧ fabState (fabIn 2 5) 2 = 5 := by
  exact ⟨⟨_, rfl, by decide +kernel⟩, by decide +kernel, by decide +kernel⟩

theorem test_cap_retry : Gives (.fabCapRetry 2) ((fabIn 2 4).setFabPort 2 { refused := true }) fun t => fabState t 2 = 4 ∧ (t.fabPort 2).refused = false := gives rfl (by decide +kernel)

/-- CAP frames of versions 2.0 and 3.0 in CAPS. -/
theorem test_cap_fields : fabState (fabIn 2 4) 2 = 4 ∧ ((fabIn 2 4).fabPort 2).refused = false ∧ beAt (cap 0x20 1) 1 1 / 16 = 2 ∧ 64 ≤ beAt (cap 0x20 1) 3 2
    ∧ bit (beAt (cap 0x20 1) 2 1) 0 = true ∧ beAt (cap 0x30 1) 1 1 / 16 = 3 := by decide +kernel

/-- Shared time is enabled on a fabric port. -/
def timed : State := let s := routed.put FAB_TIME_CFG.EN 1; { s with regs := (FAB_ROOT_UID.UID.key 0 0, 0) :: s.regs }

/-- The kinds of time cells. -/
def timeCell (n : Nat) : List Byte := cellFor 5 1023 63 (beBytes 1 n ++ beBytes 1 4 ++ zeros 30)

theorem test_time_cells : timed.on 7 = true ∧ fabActive timed 2 = true ∧ timed.is FAB_TIME_CFG.EN = true ∧ (timed.put FAB_NODE.ROOT 1).is FAB_NODE.ROOT = true
    ∧ (∀ n ∈ [1, 2, 3], cellClass (timeCell n) = 5 ∧ beAt (timeCell n) 5 1 = 32 ∧ beAt ((timeCell n).drop 8) 0 1 = n ∧ beAt ((timeCell n).drop 8) 1 1 = 4) := by decide +kernel

theorem test_delay_req_rx : Gives (.fabTimeCellRx 2 (timeCell 2)) timed fun t => t.tx.length = 1 := gives rfl (by decide +kernel)

theorem test_delay_resp : Gives (.fabTimeCellRx 2 (timeCell 3)) (timed.setFabPort 2 { timed.fabPort 2 with delayReq := some (4, 0) }) fun t =>
    (t.fabPort 2).delays ≠ [] := gives rfl (by decide +kernel)

/-- A SYNC of root 0 on the upstream port, while time comes from elsewhere and while it comes from the fabric. -/
theorem test_sync_rx : let s : State := { timed with fab := { timed.fab with upstream := some 2 } }
    s.get TIME_CTL.SRC ≠ 2 ∧ beAt ((timeCell 1).drop 8) 4 8 = s.get FAB_ROOT_UID.UID ∧ s.fab.upstream = some 2
    ∧ (let u : State := (s.put TIME_CTL.SRC 2).setFabPort 2 { s.fabPort 2 with delays := [0] }
       u.get TIME_CTL.SRC = 2 ∧ u.is TIME_STATUS.STEPPED = false ∧ (u.fabPort 2).delays ≠ [] ∧ armed u = false ∧ u.pow.phase ≠ .dormant
         ∧ u.fab.upstream = some 2 ∧ beAt ((timeCell 1).drop 8) 4 8 = u.get FAB_ROOT_UID.UID) := by decide +kernel

theorem test_sync_loss : Gives .fabSyncLoss (timed.put FAB_TIME_STATUS.LOCKED 1) fun t => t.get FAB_TIME_STATUS.LOCKED = 0 := gives rfl (by decide +kernel)

theorem test_elect_timers : activePorts (linked {}) ≠ [] := by decide +kernel

/-! ### Raster and the codec -/

/-- Parameters of JOB_OPEN: job 7, 512 columns, 1,200 rows/in, a ring of 2,048 slots. -/
def jobParams (job : Nat) : List Byte := beBytes 1 job ++ beBytes 1 1 ++ zeros 2 ++ beBytes 4 512 ++ beBytes 8 0x1000000000 ++ beBytes 8 (2048 * 192)

/-- DRAM of 1 GiB, trained. -/
def withDram : State := ((upHost.put DRAM_USABLE.MIB 1024).put DRAM_STATUS.STATE 2 0).put DRAM_STATUS.STATE 2 1

theorem test_job_open : ready 0x10 (jobParams 7) withDram ∧ jobFieldsOk (jobParams 7) withDram = true ∧ jobViol 0x10 (jobParams 7) withDram = none
    ∧ Gives (.jobOpen (.host 0) hdr (jobParams 7)) withDram fun t => t.get FIRE_ING_SLOTS.SLOTS = 2048 ∧ t.get FIRE_ING_JOB.JOB = 7 :=
  ⟨⟨by decide +kernel, by decide +kernel⟩, by decide +kernel, by decide +kernel, gives rfl (by decide +kernel)⟩

/-- The job is open. -/
def jobbed : State :=
  let s := (((withDram.put FIRE_ING_JOB.OPEN 1).put FIRE_ING_JOB.JOB 7).put FIRE_ING_JOB.ROW_RES 1).put FIRE_ING_COLUMNS.COLUMNS 512
  { s.put FIRE_ING_SLOTS.SLOTS 2048 with ing := { ringBase := 0x1000000000, lastGeometry := some (512, 1) } }

theorem test_job_busy : ready 0x10 (jobParams 8) jobbed ∧ jobOpen jobbed = true := ⟨⟨by decide +kernel, by decide +kernel⟩, by decide +kernel⟩

theorem test_job_bad : ready 0x10 (jobParams 0) withDram ∧ Gives (.jobOpen (.host 0) hdr (jobParams 0)) withDram fun t => jobOpen t = false ∧ t.get SYS_CMD_REFUSED.COUNT = 1 :=
  ⟨⟨by decide +kernel, by decide +kernel⟩, gives rfl (by decide +kernel)⟩

/-- With a 1,200 rows/in table of no heads in force. -/
def tabled : State := (jobbed.put NMAP_STATUS.TABLE 1).setByte (liveBase jobbed + 6) 1

/-- Page 9 of job 7: 4 rows in strips of 1, at 100 us. -/
def pageParams (job : Nat) : List Byte :=
  beBytes 2 9 ++ beBytes 1 job ++ zeros 1 ++ beBytes 2 0xFFFF ++ beBytes 1 0 ++ beBytes 1 1 ++ beBytes 4 4 ++ beBytes 2 1 ++ zeros 2 ++ beBytes 4 100000 ++ zeros 12

theorem test_page : ready 0x11 (pageParams 7) tabled ∧ pageStatus (pageParams 7) tabled = stOk ∧ Gives (.pageQueue (.host 0) hdr (pageParams 7)) tabled fun t =>
    (t.ing.pages.map fun p => (p.id, p.base, p.rows)) = [(9, 0, 4)] ∧ t.ing.nextBase = 4 ∧ evtPending t PAGE_QUEUED = true :=
  ⟨⟨by decide +kernel, by decide +kernel⟩, by decide +kernel, gives rfl (by decide +kernel)⟩

theorem test_page_bad : ready 0x11 (pageParams 8) tabled ∧ pageStatus (pageParams 8) tabled = stBadParam ∧ ready 0x11 (pageParams 7) withDram :=
  ⟨⟨by decide +kernel, by decide +kernel⟩, by decide +kernel, ⟨by decide +kernel, by decide +kernel⟩⟩

/-- The page is queued. -/
def paged : State := { tabled with ing := { tabled.ing with pages := [pageFrom (pageParams 7) 0], nextBase := 4 } }

theorem test_cancel : ready 0x12 (beBytes 2 9 ++ zeros 2) paged ∧ (findPage paged 9).isSome = true ∧ Gives (.pageCancel (.host 0) hdr (beBytes 2 9 ++ zeros 2)) paged fun t =>
    t.ing.pages = [] := ⟨⟨by decide +kernel, by decide +kernel⟩, by decide +kernel, gives rfl (by decide +kernel)⟩

theorem test_cancel_all : ready 0x12 (zeros 2 ++ beBytes 2 1) paged ∧ Gives (.pageCancel (.host 0) hdr (zeros 2 ++ beBytes 2 1)) paged fun t =>
    t.ing.pages = [] := ⟨⟨by decide +kernel, by decide +kernel⟩, gives rfl (by decide +kernel)⟩

theorem test_cancel_none : ready 0x12 (beBytes 2 8 ++ zeros 2) paged ∧ findPage paged 8 = none := ⟨⟨by decide +kernel, by decide +kernel⟩, by decide +kernel⟩

/-- The page has started. -/
def startedPage : State := mapPage 9 (fun p => { p with stage := 1 }) paged

theorem test_cancel_busy : ready 0x12 (beBytes 2 9 ++ zeros 2) startedPage ∧ ((findPage startedPage 9).map (·.stage)) = some 1 := ⟨⟨by decide +kernel, by decide +kernel⟩, by decide +kernel⟩

theorem test_job_close : ready 0x13 (beBytes 1 7 ++ zeros 3) jobbed ∧ ready 0x13 (beBytes 1 7 ++ zeros 3) paged ∧ ready 0x13 (beBytes 1 8 ++ zeros 3) paged
    ∧ Gives (.jobClose (.host 0) hdr (beBytes 1 7 ++ zeros 3)) jobbed fun t => jobOpen t = false :=
  ⟨⟨by decide +kernel, by decide +kernel⟩, ⟨by decide +kernel, by decide +kernel⟩, ⟨by decide +kernel, by decide +kernel⟩, gives rfl (by decide +kernel)⟩

/-- A good strip of one row waits. -/
def waitingStrip : State := { paged with ing := { paged.ing with landing := [{ source := 1, page := 9, strip := 1, kind := 0, rows := 5 :: zeros 191, segments := 1, size := 33 }] } }

theorem test_land : (findPage waitingStrip 9).isSome = true ∧ slotTaken waitingStrip 1 = false
    ∧ Gives .stripRingWriteResume waitingStrip fun t => t.byte (0x1000000000 + 192) = 5 ∧ t.ing.landing = [] :=
  ⟨by decide +kernel, by decide +kernel, gives rfl (by decide +kernel)⟩

/-- The codes of a row of Example 7.1. -/
def codes71 : List Nat := List.replicate 500 0 ++ [1, 2, 3, 4, 5, 6, 7, 0, 3, 3, 3, 3]

theorem test_example_7_1 : curdScan 10 2 512 1024 9 [0x81, 0xE3, 0xE0, 0x29, 0xCB, 0xB8, 0x33, 0xF0, 0xFF] 0 [] 0 = .whole (codes71 ++ codes71) := by decide +kernel

theorem test_table_7_7 : [0, 1, 2].map (fun p => (slice (planarRow 512 fun c => codes71.getD c 0) (64 * p + 62) 2).map BitVec.toNat)
    = [[0x50, 0xF5], [0x60, 0xF6], [0x80, 0x07]] := by decide +kernel

/-- A compressor set up for 6 bytes of the linear kind: source, chain and buffer in DRAM. -/
def encSetup (len : Nat) : State :=
  ((((withDram.put CODEC_ENC_SRC.SRC 0x1000000000).put CODEC_ENC_LEN.LEN len).put CODEC_ENC_CHAIN.ADDR 0x1000001000).put CODEC_ENC_CHAIN_CFG.ENTRIES 1).setBytes 0x1000001000 (leBytes 8 0x1000002000 ++ leBytes 4 64)

theorem test_enc_go : (PacketReady .sideband 2 hdr (writeParams 0x400100 0x80000001) (encSetup 6)) ∧ encBad (encSetup 6) true = false ∧ (encViol 0 true (encSetup 6)).isNone = true ∧ (encSetup 6).cmd.ecc = []
    ∧ PacketReady .sideband 2 hdr (writeParams 0x400100 0x80000001) (encSetup 5) ∧ (encSetup 5).get CODEC_ENC_LEN.LEN % 3 = 2 :=
  ⟨⟨by decide +kernel, by decide +kernel⟩, by decide +kernel, by decide +kernel, by decide +kernel, ⟨by decide +kernel, by decide +kernel⟩, by decide +kernel⟩

/-- A job whose rest is n bytes of 7. -/
def encJob (n : Nat) : State :=
  { (encSetup 6).put CODEC_ENC_RESULT.STATE 1 with ing := { (encSetup 6).ing with enc := some { left := List.replicate n 7, chain := 0x1000001000, buffers := [(0x1000002000, 4)] } } }

theorem test_enc_busy : (PacketReady .sideband 2 hdr (writeParams 0x400100 0x80000001) (encJob 9)) ∧ (encJob 9).ing.enc ≠ none := ⟨⟨by decide +kernel, by decide +kernel⟩, by decide +kernel⟩

theorem test_enc_abort : PacketReady .sideband 2 hdr (writeParams 0x400100 0x40000000) (encJob 9) := ⟨by decide +kernel, by decide +kernel⟩

theorem test_enc_chained : dramOk (encJob 5) 0x1000002000 4 = true ∧ dramOk (encJob 5) 0x100000100C 4 = true ∧ Gives .codecChained (encJob 5) fun t =>
    t.byte 0x1000002003 = 7 ∧ t.byte 0x1000002004 = 0 ∧ t.le 0x100000100C 4 = 4 ∧ t.get CODEC_ENC_RESULT.STATE = 3 ∧ t.get CODEC_ENC_OUT.OUT = 4 :=
  ⟨by decide +kernel, by decide +kernel, gives rfl (by decide +kernel)⟩

theorem test_enc_done : Gives .codecEncDone (encJob 3) fun t => t.byte 0x1000002002 = 7 ∧ t.byte 0x1000002003 = 0 ∧ t.le 0x100000100C 4 = 3 ∧ t.get CODEC_ENC_RESULT.STATE = 2 :=
  gives rfl (by decide +kernel)

/-! ### DRAM and DMA -/

/-- Controller m is in a state, with EN. -/
def dramIn (m v en : Nat) : State := (upHost.put DRAM_STATUS.STATE v m).put DRAM_CTL.EN en m

theorem test_dram_en : (PacketReady .sideband 2 hdr (writeParams 0x608000 1) (dramIn 1 0 0)) ∧ Gives (.dramCtlEnWrite .sideband hdr 1 1) (dramIn 1 0 0) (fun t => dramState t 1 = 1)
    ∧ (PacketReady .sideband 2 hdr (writeParams 0x608000 0) (dramIn 1 2 1)) ∧ Gives (.dramCtlEnWrite .sideband hdr 1 0) (dramIn 1 2 1) (fun t => dramState t 1 = 0) :=
  ⟨⟨by decide +kernel, by decide +kernel⟩, gives rfl (by decide +kernel), ⟨by decide +kernel, by decide +kernel⟩, gives rfl (by decide +kernel)⟩

theorem test_dram_retrain : (PacketReady .sideband 2 hdr (writeParams 0x608000 3) (dramIn 1 2 1)) ∧ Gives (.dramCtlRetrain .sideband hdr 1 1) (dramIn 1 2 1) (fun t => dramState t 1 = 1)
    ∧ (PacketReady .sideband 2 hdr (writeParams 0x608000 3) (dramIn 1 4 1)) :=
  ⟨⟨by decide +kernel, by decide +kernel⟩, gives rfl (by decide +kernel), ⟨by decide +kernel, by decide +kernel⟩⟩

theorem test_dram_trained : let s : State := { dramIn 1 1 1 with dram := { ready := 1, fit := [(0, (3, 2))] } }
    s.Settled ∧ dramState s 1 = 1 ∧ bit s.dram.ready 0 = true ∧ mapGet (0, 0) s.dram.fit 0 = (3, 2)
    ∧ (dramShow { s with dram := { s.dram with ready := 3 } }).get DRAM_USABLE.MIB = 32768 :=
  ⟨⟨rfl, rfl, rfl⟩, by decide +kernel, by decide +kernel, by decide +kernel, by decide +kernel⟩

theorem test_dram_differs : Gives (.dramTrainingEnd 1 (.trained 3 false)) { dramIn 1 1 1 with dram := { ready := 1, fit := [(0, (3, 2))] } } fun t =>
    dramState t 1 = 4 ∧ t.get DRAM_STATUS.FAIL_PHASE 1 = 1 := gives rfl (by decide +kernel)

theorem test_dram_failed : Gives (.dramTrainingEnd 0 (.failed 2 5)) (dramIn 0 1 1) fun t =>
    dramState t 0 = 4 ∧ t.get DRAM_STATUS.FAIL_CH 0 = 2 ∧ t.get DRAM_STATUS.FAIL_PHASE 0 = 5 := gives rfl (by decide +kernel)

/-- Every sensor reads a temperature in 1/16 degree. -/
def sensed (x : Int) (s : State) : State := { s with pow := { s.pow with temps := List.replicate 8 x } }

theorem dramTemp_sensed (x : Int) (s : State) (m : Nat) : dramTemp (sensed x s) m = x := by
  simp only [dramTemp, sensed, List.getD_eq_getElem?_getD]
  rw [List.getElem?_replicate_of_lt (Nat.mod_lt _ (by decide))]; rfl

theorem test_dram_temp : dramState (sensed 161 (dramIn 0 2 1)) 0 = 2 ∧ 160 < (dramTemp (sensed 161 (dramIn 0 2 1)) 0 - 16 * (sensed 161 (dramIn 0 2 1)).getS DRAM_STATUS.TRAIN_TEMP 0).natAbs
    ∧ (dramTemp (sensed 160 (dramIn 0 2 1)) 0 - 16 * (sensed 160 (dramIn 0 2 1)).getS DRAM_STATUS.TRAIN_TEMP 0).natAbs ≤ 160 := by
  simp only [dramTemp_sensed]; decide +kernel

theorem test_dram_mr4 : Gives (.dramMr4Change 1 3) (dramIn 1 2 1) fun t => mapGet 0 t.dram.rates 1 = 3 := gives rfl (by decide +kernel)

/-- Example 8.1 of the spec: where two fetches land under the masks of Table 8.3: CH0, CH1, CTRL, BA0 to BA3. -/
theorem test_example_8_1 : selects (fun x => State.reset.get DRAM_MAP.MASK x) 0x40015240 = [1, 0, 0, 1, 0, 1, 0] ∧ selects (fun x => State.reset.get DRAM_MAP.MASK x) 0x395C5240 = [0, 1, 1, 0, 0, 1, 0] := by
  decide +kernel

/-- A byte of DRAM is stored. -/
def stored : State := upHost.setByte 0x1000000040 9

theorem test_dram_map : (PacketReady .sideband 2 hdr (writeParams 0x600110 1) stored) ∧ Memory.wf stored.mem = true ∧ (List.range 7).all (fun y => maskOk y (stored.get DRAM_MAP.MASK y)) = true
    ∧ Gives (.dramMapWrite .sideband hdr 0 1) (stored.setByte 0x1000040000 8) fun t => t.byte 0x1000040040 = 8 ∧ t.byte 0x1000000040 = 9 ∧ t.byte 0x1000040000 = 0 :=
  ⟨⟨by decide +kernel, by decide +kernel⟩, by decide +kernel, by decide +kernel, gives rfl (by decide +kernel)⟩

theorem test_dram_map_bad : PacketReady .sideband 2 hdr (writeParams 0x600110 3) stored ∧ PacketReady .sideband 2 hdr (writeParams 0x600110 1) (stored.put DMA_CTL.EN 1 20) :=
  ⟨⟨by decide +kernel, by decide +kernel⟩, ⟨by decide +kernel, by decide +kernel⟩⟩

/-- Two TRAINED controllers of 2 GiB. -/
def trainedBoth : State := { (withDram.put DRAM_USABLE.MIB 4096).setByte 0x1000000040 9 with dram := { ready := 3, fit := [(0, (0, 1)), (1, (0, 1))] } }

theorem test_ecc_on : (PacketReady .sideband 2 hdr (writeParams 0x600100 0xFF01) trainedBoth) ∧ Gives (.dramEccEnWrite .sideband hdr 0xFF01) trainedBoth fun t =>
    t.get DRAM_USABLE.MIB = 3840 ∧ t.byte 0x1000000040 = 0 ∧ t.is DRAM_MEM_CFG.ECC_INIT = true := ⟨⟨by decide +kernel, by decide +kernel⟩, gives rfl (by decide +kernel)⟩

theorem test_ecc_off : (PacketReady .sideband 2 hdr (writeParams 0x600100 0xFF00) (trainedBoth.put DRAM_MEM_CFG.ECC_EN 1)) ∧ Gives (.dramEccEnWrite .sideband hdr 0xFF00) (trainedBoth.put DRAM_MEM_CFG.ECC_EN 1) fun t =>
    t.get DRAM_USABLE.MIB = 4096 ∧ t.byte 0x1000000040 = 9 := ⟨⟨by decide +kernel, by decide +kernel⟩, gives rfl (by decide +kernel)⟩

theorem test_ecc_busy : PacketReady .sideband 2 hdr (writeParams 0x600100 1) (trainedBoth.put FIRE_ING_JOB.OPEN 1) ∧ PacketReady .sideband 2 hdr (writeParams 0x600100 0x300) trainedBoth :=
  ⟨⟨by decide +kernel, by decide +kernel⟩, ⟨by decide +kernel, by decide +kernel⟩⟩

theorem test_ecc_done : Gives .dramEccInitDone (upHost.put DRAM_MEM_CFG.ECC_INIT 1) fun t => t.get DRAM_MEM_CFG.ECC_INIT = 0 := gives rfl (by decide +kernel)

/-- Words of a descriptor that copies 4 bytes of the Vat into DRAM by accesses of 2 bytes. -/
def copyWord (i : Nat) : Nat := [0x00D00000, 1, 0x2000, 0x10, 4, 0x11, 0, 0, 0, 0, 0, 0].getD i 0

/-- The words in the shadow set, and in the active set, of channel 20. -/
def shadowed (w : Nat → Nat) (s : State) : State := each (fun i s => s.put DMA_SH.WORD (w i) 20 i) (List.range 12) s
/-- The active set. -/
def active (w : Nat → Nat) (s : State) : State := each (fun i s => s.put DMA_ACT.WORD (w i) 20 i) (List.range 12) s

/-- Channel 20 with a state, EN and SHADOW. -/
def chan (st en sh : Nat) (s : State) : State := ((s.put DMA_STATUS.STATE st 20).put DMA_CTL.EN en 20).put DMA_STATUS.SHADOW sh 20

theorem test_dma_en : (PacketReady .sideband 2 hdr (writeParams 0x501400 1) (chan 0 0 0 trainedBoth)) ∧ Gives (.dmaEnWrite .sideband hdr 20 1) (chan 0 0 0 trainedBoth) (fun t => dmaState t 20 = 1)
    ∧ (PacketReady .sideband 2 hdr (writeParams 0x501400 2) (chan 0 0 0 trainedBoth)) ∧ Gives (.dmaShadowValidWrite .sideband hdr 20 0) (chan 0 0 0 trainedBoth) (fun t => dmaShadow t 20 = 2)
    ∧ (PacketReady .sideband 2 hdr (writeParams 0x501400 0) (chan 1 1 0 trainedBoth)) :=
  ⟨⟨by decide +kernel, by decide +kernel⟩, gives rfl (by decide +kernel), ⟨by decide +kernel, by decide +kernel⟩, gives rfl (by decide +kernel), ⟨by decide +kernel, by decide +kernel⟩⟩

theorem test_dma_refused : PacketReady .sideband 2 hdr (writeParams 0x500000 1) jobbed ∧ PacketReady .sideband 2 hdr (writeParams 0x501400 2) (chan 0 0 2 trainedBoth)
    ∧ PacketReady .sideband 2 hdr (writeParams 0x501400 0) (chan 0 0 0 trainedBoth) :=
  ⟨⟨by decide +kernel, by decide +kernel⟩, ⟨by decide +kernel, by decide +kernel⟩, ⟨by decide +kernel, by decide +kernel⟩⟩

theorem test_dma_stop_done : Gives (.dmaStopDone 20) (chan 4 1 0 trainedBoth) (fun t => dmaState t 20 = 1) ∧ Gives (.dmaStopDone 20) (chan 4 0 0 trainedBoth) (fun t => dmaState t 20 = 0) :=
  ⟨gives rfl (by decide +kernel), gives rfl (by decide +kernel)⟩

theorem test_dma_take : (descCheck trainedBoth (descOf copyWord) false).isNone = true ∧ Gives (.dmaShadowTake 20) (chan 1 1 2 (shadowed copyWord trainedBoth)) fun t =>
    dmaState t 20 = 2 ∧ dmaShadow t 20 = 0 ∧ (activeDesc t 20).dst = 0x1000002000 := ⟨by decide +kernel, gives rfl (by decide +kernel)⟩

theorem test_dma_take_bad : (descCheck trainedBoth (descOf fun i => if i = 4 then 3 else copyWord i) false).map (·.1) = some 3
    ∧ Gives (.dmaShadowTake 20) (chan 1 1 2 (shadowed (fun i => if i = 4 then 3 else copyWord i) trainedBoth)) fun t => dmaState t 20 = 3 ∧ t.get DMA_STATUS.ERR 20 = 3 :=
  ⟨by decide +kernel, gives rfl (by decide +kernel)⟩

/-- A chain: NEXT is a place in DRAM, and one that is not usable. -/
def chained (next : Nat) : State := chan 2 1 1 (active (fun i => if i = 6 then next else if i = 7 then 0x10 else copyWord i) ((trainedBoth.setByte 0x1000003000 5).put ACC_DRAM_DEFAULT.RIGHTS 0xFFFFFF))

theorem test_dma_fetch : (fetchCheck (chained 0x3000) 0x1000003000).isNone = true ∧ Gives (.dmaDescFetched 20) (chained 0x3000) fun t => dmaShadow t 20 = 2 ∧ t.get DMA_SH.WORD 20 0 = 5 :=
  ⟨by decide +kernel, gives rfl (by decide +kernel)⟩

theorem test_dma_fetch_bad : (fetchCheck (chained 0xFFFFFFC0) 0x10FFFFFFC0).map (·.1) = some 4 ∧ Gives (.dmaDescFetched 20) (chained 0xFFFFFFC0) fun t => t.get DMA_STATUS.ERR 20 = 4 :=
  ⟨by decide +kernel, gives rfl (by decide +kernel)⟩

/-- The copy runs. -/
def copying : State := chan 2 1 0 (active copyWord (trainedBoth.setBytes 0x0100D00000 [1, 2, 3, 4]))

theorem test_dma_copy : (moveWaits copying (activeDesc copying 20) = false ∧ (descCheck copying (activeDesc copying 20) false).isNone = true ∧ accCount (activeDesc copying 20) = 2
    ∧ moveFails copying (activeDesc copying 20) 0 = 0 ∧ moveFails copying (activeDesc copying 20) 1 = 0)
    ∧ Gives (.dmaDescComplete 20) copying fun t => t.bytes 0x1000002000 5 = [1, 2, 3, 4, 0] ∧ dmaState t 20 = 1 ∧ t.get DMA_DONE_BYTES.BYTES 20 = 4 ∧ t.get DMA_DESC_COUNT.COUNT 20 = 1 :=
  ⟨by decide +kernel, gives rfl (by decide +kernel)⟩

/-- The same copy while PD_VAT is in NAP: its first access fails. -/
def failing : State := copying.put AON_PD_STATE.STATE 1 3

theorem test_dma_fault : (descAlign (activeDesc failing 20) = false ∧ descRange failing (activeDesc failing 20) = false ∧ moveWaits failing (activeDesc failing 20) = false) ∧ moveFails failing (activeDesc failing 20) 0 = 2 ∧ Gives (.dmaTransferFault 20) failing fun t =>
    dmaState t 20 = 3 ∧ t.get DMA_STATUS.ERR 20 = 2 ∧ t.get DMA_DONE_BYTES.BYTES 20 = 0 := ⟨by decide +kernel, by decide +kernel, gives rfl (by decide +kernel)⟩

theorem test_dma_packed : (List.range 2).map (fun k => accLen (descOf fun i => if i = 5 then 0x266 else copyWord i) k) = [1, 1]
    ∧ packedBit (fun a => if a = 0x0100D00000 then 1 else 0) (descOf fun i => if i = 5 then 0x166 else copyWord i) 0 = true
    ∧ packedBit (fun a => if a = 0x0100D00000 then 1 else 0) (descOf fun i => if i = 5 then 0x166 else copyWord i) 3 = false := by decide +kernel

/-! ### Position feedback -/

/-- Channel 1 counts in a mode from a state. -/
def posIn (mode st : Nat) : State := (((up.put POS_CTL.EN 1 1).put POS_CTL.MODE mode 1).put POS_STATUS.STATE st 1).put POS_STATUS.DOUBT 1 1

theorem test_pos_en : (PacketReady .sideband 2 hdr (writeParams 0x701000 0x2003) up) ∧ gainsBad up 1 = false ∧ ssiBad up 1 = false
    ∧ Gives (.posCtlEnWrite .sideband hdr 1 0x2003) up fun t => posState t 1 = 1 ∧ t.get POS_STATUS.DOUBT 1 = 1 :=
  ⟨⟨by decide +kernel, by decide +kernel⟩, by decide +kernel, by decide +kernel, gives rfl (by decide +kernel)⟩

theorem test_pos_refused : PacketReady .sideband 2 hdr (writeParams 0x701000 7) up ∧ PacketReady .sideband 2 hdr (writeParams 0x701000 3) (posIn 0 1)
    ∧ PacketReady .sideband 2 hdr (writeParams 0x700000 0x2000) ((up.put POS_CTL.EN 1 0).put FIRE_STATUS.ARMED 1)
    ∧ PacketReady .sideband 2 hdr (writeParams 0x700000 0x40002001) ((up.put POS_CTL.EN 1 0).put FIRE_STATUS.ARMED 1) :=
  ⟨⟨by decide +kernel, by decide +kernel⟩, ⟨by decide +kernel, by decide +kernel⟩, ⟨by decide +kernel, by decide +kernel⟩, ⟨by decide +kernel, by decide +kernel⟩⟩

theorem test_pos_clear : (PacketReady .sideband 2 hdr (writeParams 0x701000 0x80002001) (posIn 0 2)) ∧ Gives (.posClrFault .sideband hdr 1 0x2001) ((posIn 0 2).putS POS_HELD.H (-7) 1) fun t =>
    posState t 1 = 1 ∧ t.get POS_STATUS.DOUBT 1 = 1 ∧ posH t 1 = -7 ∧ t.getS POS_OBS_X.X 1 = -7 := ⟨⟨by decide +kernel, by decide +kernel⟩, gives rfl (by decide +kernel)⟩

theorem test_pos_zarm : (PacketReady .sideband 2 hdr (writeParams 0x701000 0x40002001) (posIn 0 1)) ∧ Gives (.posZArm .sideband hdr 1 0x2001) (posIn 0 1) fun t => t.get POS_CTL.Z_ARM 1 = 1 :=
  ⟨⟨by decide +kernel, by decide +kernel⟩, gives rfl (by decide +kernel)⟩

theorem test_pos_index : Gives (.posIndexEdge 1) ((((posIn 0 1).put POS_CTL.Z_EN 1 1).put POS_CTL.Z_ARM 1 1).putS POS_RAW.R 5 1) fun t =>
    t.get POS_INDEX.R_AT_Z 1 = 5 ∧ t.get POS_RAW.R 1 = 0 ∧ posH t 1 = -5 ∧ t.get POS_STATUS.DOUBT 1 = 0 := gives rfl (by decide +kernel)

/-- Example 9.1 of the spec: a regression of 4 is held, one of 5 is a reversal. -/
theorem test_example_9_1 : Gives (.posQuadEdge 1 true false) (((posIn 0 1).putS POS_HELD.H 50000 1).putS POS_RAW.R 49995 1) (fun t => posH t 1 = 50000 ∧ t.get POS_STATUS.HELD 1 = 1)
    ∧ Gives (.posQuadEdge 1 false true) (((posIn 0 1).putS POS_HELD.H 50000 1).putS POS_RAW.R 49996 1) (fun t => posH t 1 = 49995 ∧ t.get POS_STATUS.DIR 1 = 1 ∧ evtPending t POS_REVERSAL = true) :=
  ⟨gives rfl (by decide +kernel), gives rfl (by decide +kernel)⟩

theorem test_pos_illegal : Gives (.posQuadEdge 1 true true) ((posIn 0 1).put POS_ILL_CFG.MAX 0 1) fun t => posState t 1 = 2 ∧ t.get POS_STATUS.FAULT_REASON 1 = 2 ∧ t.get POS_RAW.R 1 = 0 :=
  gives rfl (by decide +kernel)

/-- The observer's second edge of Example 9.1: -0.025 counts/us, which POS_OBS_V shows as -1,639. -/
theorem test_example_9_1_speed : ((posEdge 1 40000 false ((posIn 0 1).setChan 1 { first := some (1, 0) })).getS POS_OBS_V.V 1) = -1639 := by decide +kernel

theorem test_amplitude : scAmp (20480, 0) = 6400 ∧ scAmp (12288, 0) = 2304 ∧ scAmp (24576, 0) = 9216 := by decide +kernel

/-- A sample whose sine is s and whose cosine is c. -/
theorem test_sc : (let p := posCorrect (posIn 1 1) 1 0 20480; angle12 p.1 p.2 = 0 ∧ scAmp p = 6400) ∧ (let p := posCorrect (posIn 1 1) 1 20480 0; angle12 p.1 p.2 = 1024)
    ∧ Gives (.posScSample 1 0 20480) ((posIn 1 1).setChan 1 { angle := some 3072 }) (fun t => t.getS POS_RAW.R 1 = 1024)
    ∧ Gives (.posScSample 1 0 20480) ((posIn 1 1).setChan 1 { angle := some 3071 }) (fun t => posState t 1 = 2 ∧ t.get POS_STATUS.FAULT_REASON 1 = 4)
    ∧ Gives (.posScSample 1 0 0) ((posIn 1 1).setChan 1 { ampRun := 15 }) (fun t => posState t 1 = 2 ∧ t.get POS_STATUS.FAULT_REASON 1 = 1) :=
  ⟨by decide +kernel, by decide +kernel, gives rfl (by decide +kernel), gives rfl (by decide +kernel), gives rfl (by decide +kernel)⟩

theorem test_ssi : Gives (.posSsiRead 1 true 0x80000001 false) (posIn 2 1) (fun t => t.get POS_RAW.R 1 = 0x80000001 ∧ posH t 1 = 0x80000001 ∧ t.get POS_STATUS.DOUBT 1 = 0)
    ∧ Gives (.posSsiRead 1 true 1 false) ((posIn 2 1).setChan 1 { reading := some 0xFFFFFFFF }) (fun t => t.getS POS_RAW.R 1 = 2)
    ∧ Gives (.posSsiRead 1 false 1 false) (posIn 2 1) (fun t => t.get POS_SSI_ERR_COUNT.COUNT 1 = 1 ∧ posState t 1 = 1)
    ∧ Gives (.posSsiRead 1 true 0x2000 false) ((posIn 2 1).setChan 1 { reading := some 0, ssiRun := 2 }) (fun t => posState t 1 = 2) :=
  ⟨gives rfl (by decide +kernel), gives rfl (by decide +kernel), gives rfl (by decide +kernel), gives rfl (by decide +kernel)⟩

theorem test_gray : grayDecode 4 0xD = 9 ∧ grayDecode 4 0x8 = 15 := by decide +kernel

theorem test_obs : Gives .posObsUpdate (((posIn 0 1).put POS_STATUS.SPD_VALID 1 1).setChan 1 { v := 2 ^ 30 }) fun t =>
    (t.chan 1).x = 2 ^ 28 ∧ (t.chan 1).v = 2 ^ 30 ∧ t.get POS_OBS_V.V 1 = 2 ^ 14 := gives rfl (by decide +kernel)

theorem test_still : Gives (.posStandstill 1) ((posIn 0 1).putS POS_HELD.H 9 1) fun t => t.get POS_STATUS.STILL 1 = 1 ∧ (t.chan 1).x = 9 * 2 ^ 32 := gives rfl (by decide +kernel)

theorem test_cmp : (PacketReady .sideband 2 hdr (writeParams 0x704180 0x11) up) ∧ Gives (.cmpCtlEnWrite .sideband hdr 2 0x11) (up.put CMP_STATUS.POINTER 5 2) fun t =>
    t.get CMP_STATUS.RUNNING 2 = 1 ∧ t.get CMP_STATUS.POINTER 2 = 0 ∧ t.get CMP_CTL.CH 2 = 1 := ⟨⟨by decide +kernel, by decide +kernel⟩, gives rfl (by decide +kernel)⟩

theorem test_cmp_commit : (PacketReady .sideband 2 hdr (writeParams 0x70C018 0x00010001) up) ∧ Gives (.cmpEntryCommit .sideband hdr 2 3 0x00010001) (up.put CMP_ENTRY.P 9 2 3) fun t =>
    (cmpEntry t 2 3).p = 2 ^ 32 + 9 ∧ (cmpEntry t 2 3).pin = true := ⟨⟨by decide +kernel, by decide +kernel⟩, gives rfl (by decide +kernel)⟩

theorem test_cmp_refused : PacketReady .sideband 2 hdr (writeParams 0x704180 0x11) (up.put CMP_CTL.EN 1 2) ∧ PacketReady .sideband 2 hdr (writeParams 0x70C004 0) (up.put CMP_CTL.EN 1 2) :=
  ⟨⟨by decide +kernel, by decide +kernel⟩, ⟨by decide +kernel, by decide +kernel⟩⟩

/-- Example 9.2 of the spec: an entry at 1,000,000 with PITCH 250,000 in CYCLE acts when H passes 1,250,000 in one change: twice. -/
theorem test_example_9_2 : let s : State := ((((posIn 0 1).put CMP_CTL.CH 1 0).put CMP_CTL.MODE 1 0).put CMP_PITCH.PITCH 250000 0).put CMP_STATUS.RUNNING 1 0
    let t := cmpCheck 1 77 ({ s with pos := { s.pos with entries := [(0, { p := 1000000, pin := true })] } }.putS POS_HELD.H 1250000 1)
    t.get CMP_BASE.BASE 0 = 500000 ∧ t.get CMP_STATUS.LAPS 0 = 2 ∧ t.get CMP_MERGED.COUNT 0 = 1 ∧ t.pos.pins = [(0, 77 + 1000)] := by decide +kernel

theorem test_pulse_end : Gives (.cmpPulseEnd 2) { up with pos := { up.pos with pins := [(1, 5), (2, 9)] } } fun t => t.pos.pins = [(1, 5)] := gives rfl (by decide +kernel)

/-! ### The nozzle table -/

theorem test_nmap_load : ready 0x18 (zeros 4) upHost ∧ spare upHost = 0 ∧ followsTable upHost = false
    ∧ Gives (.nmapLoad (.host 0) hdr (zeros 4)) upHost (fun t => spare t = 1) ∧ ready 0x18 (beBytes 4 1) upHost ∧ ready 0x18 (zeros 4) (upHost.put NMAP_STATUS.SPARE 1) :=
  ⟨⟨by decide +kernel, by decide +kernel⟩, by decide +kernel, by decide +kernel, gives rfl (by decide +kernel), ⟨by decide +kernel, by decide +kernel⟩, ⟨by decide +kernel, by decide +kernel⟩⟩

theorem test_nmap_from_live : ready 0x18 (beBytes 4 1) (tabled.setByte (spareBase tabled + 9) 3) ∧ Memory.wf (tabled.setByte (spareBase tabled + 9) 3).mem = true
    ∧ Gives (.nmapLoad (.host 0) hdr (beBytes 4 1)) (tabled.setByte (spareBase tabled + 9) 3) fun t =>
      t.byte (spareBase tabled + 6) = 1 ∧ t.byte (spareBase tabled + 9) = 0 ∧ t.byte (liveBase tabled + 6) = 1 :=
  ⟨⟨by decide +kernel, by decide +kernel⟩, by decide +kernel, gives rfl (by decide +kernel)⟩

/-- The host holds the spare. -/
def claimed : State := upHost.put NMAP_STATUS.SPARE 1

theorem test_nmap_swap : ready 0x19 (beBytes 4 3) claimed ∧ Gives (.nmapSwap (.host 0) hdr (beBytes 4 3)) claimed (fun t => t.get NMAP_STATUS.CHECKING = 1 ∧ t.nmap.flags = 3)
    ∧ ready 0x19 (beBytes 4 4) claimed ∧ Gives (.nmapSwap (.host 0) hdr (beBytes 4 4)) claimed (fun t => spare t = 0) ∧ ready 0x19 (zeros 4) upHost :=
  ⟨⟨by decide +kernel, by decide +kernel⟩, gives rfl (by decide +kernel), ⟨by decide +kernel, by decide +kernel⟩, gives rfl (by decide +kernel), ⟨by decide +kernel, by decide +kernel⟩⟩

theorem test_nmap_checks : (claimed.put NMAP_STATUS.CHECKING 1).on 2 = true ∧ (claimed.put NMAP_STATUS.CHECKING 1).nmap.merged = false := by decide +kernel

theorem test_nmap_expiry : Gives .nmapHoldExpiry claimed fun t => spare t = 0 ∧ t.get NMAP_STATUS.HOLD_EXPIRED = 1 := gives rfl (by decide +kernel)

/-- One mask is queued after the first host swap. -/
def queuedMask : State := { up with nmap := { hostSwapped := true, queue := [(5, 1)] } }

theorem test_internal_start : queuedMask.on 2 = true ∧ spare queuedMask = 0 ∧ Memory.wf queuedMask.mem = true ∧ nzMasked (nz queuedMask (liveBase queuedMask) 5) = false
    ∧ nz (applyMask (bankBase 1) 5 1 up) (bankBase 1) 5 = 2 ^ 18 + 2 ^ 27 := by decide +kernel

theorem test_internal_ready : (∀ h < 64, takesTrim (up.put NMAP_STATUS.SPARE 2) h = false) ∧ Gives .internalSwapReady (up.put NMAP_STATUS.SPARE 2) fun t => spare t = 3 :=
  ⟨by decide +kernel, gives rfl (by decide +kernel)⟩

theorem test_take_effect : (up.put NMAP_STATUS.SPARE 3).on 2 = true ∧ armed (up.put NMAP_STATUS.SPARE 3) = false
    ∧ Gives .nmapSwapTakeEffect ((up.put NMAP_STATUS.SPARE 3).put FIRE_STATUS.ARMED 1) fun t => spare t = 3 := ⟨by decide +kernel, by decide +kernel, gives rfl (by decide +kernel)⟩

/-- Example 10.2 of the spec: nozzles 505 and 2,049 share column 2,020 through joint 0, entry 4, with pattern 9; weights 6, 6, 2 and 2. -/
def example102 (mask : Nat) : State :=
  let b := bankBase 0
  (((((up.setBytes (b + 8) (leBytes 8 3)).setBytes (b + 0x14) (leBytes 2 0x2266)).setBytes (b + 0x100 + 72) (leBytes 8 0x5555555555555555)).setBytes
    (b + 0x400 + 16) (leBytes 4 (2 ^ 31 + 9 * 2 ^ 22 + 1 * 2 ^ 11 + 505))).setBytes (b + 0x80000 + 4 * 505) (leBytes 4 (2020 + 2 ^ 19 + 4 * 2 ^ 21 + mask * 2 ^ 18))).setBytes
    (b + 0x80000 + 4 * 2049) (leBytes 4 (2020 + 2 ^ 19 + 2 ^ 20 + 4 * 2 ^ 21))

theorem test_example_10_2_pair : [0, 1, 2, 65].map (fun r => (prints (example102 0) (bankBase 0) 131072 505 r, prints (example102 0) (bankBase 0) 131072 2049 r))
      = [(true, false), (false, true), (true, false), (false, true)]
    ∧ [0, 1, 2, 3].all (fun r => prints (example102 1) (bankBase 0) 131072 2049 r && !prints (example102 1) (bankBase 0) 131072 505 r) = true := by decide +kernel

theorem test_example_10_2_band : ((List.range 16).map fun r => band (example102 0) (bankBase 0) r 1000)
    = [1, 1, 1, 1, -2, -2, 2, 2, -1, -1, -1, -1, -1, -1, 1, 1] := by decide +kernel

/-- Example 10.1 of the spec: the slots of head 3, whose DSPAN is 386,048. -/
def example101 : State :=
  let b := bankBase 0
  ((up.setBytes (b + 0x10) (leBytes 4 386048)).setBytes (recAt b 3) (leBytes 2 1417)).setBytes (recAt b 3 + 4) [0, 30, 60, 90, 83, 97, 77, 108]

theorem test_table_10_7 : [0, 1, 2, 3].map (fun i => tblD256 example101 (bankBase 0) 3 i false) = [362835, 370529, 378189, 385900] := by decide +kernel

theorem test_table_10_8 : reverseOf example101 (bankBase 0) 3 = some (0, [90, 60, 30, 0], [173, 159, 179, 148]) := by decide +kernel

/-! ### Fires -/

/-- A table of no enabled head is in force, the print channel runs, and the bar is the owner. -/
def fireReady : State :=
  (((tabled.put POS_STATUS.STATE 1 0).put PAIR_STATUS.ROLE 3).put SYS_PL.REQ 0).setBytes (liveBase tabled + 8) (leBytes 8 0)

/-- FIRE_ARM: EPOCH 0 and a period of 20,000 ns. -/
def armParams : List Byte := zeros 12 ++ beBytes 4 20000 ++ zeros 8

theorem test_arm_ready : ready 0x20 armParams fireReady ∧ armStatus fireReady (armPeriod armParams) = stOk ∧ liveHeads fireReady = []
    ∧ withinCeiling (armPeriod armParams) (fireReady.get SYS_PL.REQ) (tblN fireReady (liveBase fireReady)) = true ∧ fireReady.now < 2 ^ 62 :=
  ⟨⟨by decide +kernel, by decide +kernel⟩, by decide +kernel, by decide +kernel, by decide +kernel, by decide +kernel⟩

theorem test_arm : Gives (.fireArm (.host 0) hdr armParams) fireReady fun t => armed t = true ∧ gridPeriod t = 20000 * 2 ^ 24 ∧ t.fire.next = 1 ∧ evtPending t FIRE_ARMED = true :=
  gives rfl (by decide +kernel)

theorem test_arm_refused : ready 0x20 armParams (fireReady.put FIRE_STATUS.ARMED 1) ∧ ready 0x20 (zeros 12 ++ beBytes 4 3334 ++ zeros 8) ((fireReady.put SYS_PL.REQ 3).setBytes (liveBase fireReady + 8) (leBytes 8 (2 ^ 64 - 1)))
    ∧ ready 0x20 armParams (fireReady.put POS_STATUS.STATE 2 0) := ⟨⟨by decide +kernel, by decide +kernel⟩, ⟨by decide +kernel, by decide +kernel⟩, ⟨by decide +kernel, by decide +kernel⟩⟩

/-- The bar is armed at EPOCH 0 with a period of 20,000 ns, and a print position is delivered. -/
def armedBar : State :=
  let s := (fireReady.put FIRE_STATUS.ARMED 1).put FIRE_PERIOD_NS.NS 20000
  { s with pos := { s.pos with last := { valid := true, t := s.now } } }

theorem test_stop : ready 0x21 (zeros 4) armedBar ∧ Gives (.fireStop (.host 0) hdr (zeros 4)) armedBar (fun t => t.fire.stop = some 1) ∧ ready 0x21 (zeros 4) fireReady
    ∧ ready 0x21 (beBytes 4 1) (mapPage 9 (fun p => { p with stage := 1 }) { armedBar with ing := paged.ing })
    ∧ Gives (.fireStop (.host 0) hdr (beBytes 4 1)) (mapPage 9 (fun p => { p with stage := 1 }) { armedBar with ing := paged.ing }) (fun t => t.fire.stop = none ∧ t.fire.atEnd = true) :=
  ⟨⟨by decide +kernel, by decide +kernel⟩, gives rfl (by decide +kernel), ⟨by decide +kernel, by decide +kernel⟩, ⟨by decide +kernel, by decide +kernel⟩, gives rfl (by decide +kernel)⟩

theorem test_stop_complete : Gives .fireStopComplete { armedBar with fire := { stop := some 2 } } fun t => armed t = false ∧ t.get FIRE_STATUS.STOP_REASON = 2 :=
  gives rfl (by decide +kernel)

/-- Head 0 is enabled, and page 9 prints with its origin at 0. -/
def printingBar : State :=
  let s := armedBar.setBytes (liveBase tabled + 8) (leBytes 8 1)
  { s with ing := { paged.ing with pages := paged.ing.pages.map fun p => { p with stage := 1, origin := some 0 } } }

theorem test_stall : printing printingBar ≠ [] ∧ (printing printingBar).all (pageUnfired printingBar) = true ∧ Gives .fireStall printingBar fun t => t.get FIRE_STATUS.STALLED = 1 :=
  ⟨by decide +kernel, by decide +kernel, gives rfl (by decide +kernel)⟩

theorem test_decision_lost : Gives (.fireDecision []) { armedBar with pos := { armedBar.pos with last := { valid := false } } } fun t =>
    t.fire.stop = some 3 ∧ (t.fire.decided.map fun d => (d.k, d.due)) = [(0, [])] := gives rfl (by decide +kernel)

theorem test_decision_empty : placed armedBar = true ∧ Gives (.fireDecision []) armedBar fun t => (t.fire.decided.map fun d => (d.k, d.t, d.due)) = [(0, 0, [])] ∧ t.fire.stop = none :=
  ⟨by decide +kernel, gives rfl (by decide +kernel)⟩

/-- Page 9 waits, untriggered. -/
def queuedPage : State := { armedBar with ing := paged.ing }

theorem test_page_starts : placed queuedPage = true ∧ (queuedPage.ing.pages.map fun p => (p.stage, p.trigger, p.startAt, p.origin, p.reverse)) = [(0, 0xFFFF, none, none, false)]
    ∧ Gives (.fireDecision []) queuedPage fun t => (t.ing.pages.map fun p => (p.stage, p.origin)) = [(1, some 0)] ∧ gridPeriod t = 100000 * 2 ^ 24 ∧ t.fire.next = 1 :=
  ⟨by decide +kernel, by decide +kernel, gives rfl (by decide +kernel)⟩

/-- Example 11.2 of the spec, in units of 2^-16 row: a slot group 128/256 row downstream, O = 0, landing positions k w. The rows due at fires 0 to 5 at 2.1 m/s. -/
def example112 : State := printingBar.setBytes (recAt (liveBase tabled) 0 + 8) [128, 128, 128, 128]

/-- The rows due at fire k by the midpoint, for a travel of w a fire and the next row. -/
def dueAt (w k next : Nat) : List Nat := dueRows example112 0 ((k * w : Nat) + tdiv (w : Int) 2) (printing example112) next

/-- 0.3307, 0.7559 and 1.0236 rows a fire. -/
theorem test_table_11_8 : [dueAt 21673 1 0, dueAt 21673 2 0, dueAt 21673 4 1, dueAt 21673 5 1, dueAt 21673 8 2, dueAt 21673 11 3] = [[], [0], [], [1], [2], [3]]
    ∧ [dueAt 49539 0 0, dueAt 49539 1 0, dueAt 49539 2 1, dueAt 49539 3 2, dueAt 49539 4 3, dueAt 49539 5 3] = [[], [0], [1], [2], [], [3]]
    ∧ [dueAt 67083 0 0, dueAt 67083 1 0] = [[0], [0, 1]] := by decide +kernel

/-- Example 11.1 of the spec: EPOCH E sent again after 60 h is judged 65,474.98 s ahead, so the host moves it along the old grid. -/
theorem test_example_11_1 : sext 48 (wrap 48 (-216000000000000)) = 65474976710656 := by decide +kernel

/-- A fire decided with no packet. -/
def decidedFire : State := { armedBar with fire := { decided := [{ k := 7, t := 0, due := [(3, [5])], carried := [], packets := [] }] } }

theorem test_fire : Gives .fireInstant decidedFire fun t => t.get FIRE_NUM.K = 7 ∧ t.fire.decided = [] ∧ mapGet 0 t.fire.firedTo 3 = 6 := gives rfl (by decide +kernel)

theorem test_fire_none : armedBar.fire.decided = [] ∧ Gives .fireInstant (((armedBar.put HOOP_STATUS.OVERRIDE 1).put PAIR_STATUS.OWN_CLAIM 1)) (fun t => t.pair.overrideNext = 1)
    ∧ printing decidedFire = [] ∧ decidedFire.fire.takeover = none := ⟨by decide +kernel, gives rfl (by decide +kernel), by decide +kernel, by decide +kernel⟩

/-! ### Waveforms -/

/-- Example 12.1 of the spec in bank 1 of head 0, its other entries one short pulse each: entry 7 with a pre-pulse and a main pulse. -/
def example121 : State :=
  let w (en trim start width : Nat) : Nat := en * 2 ^ 31 + trim * 2 ^ 30 + start * 2 ^ 16 + width
  let s := up.put HL_WF.WORD (w 1 1 0 150) 0 32
  let s := each (fun e s => s.put HL_WF.WORD (w 1 0 0 100) 0 (32 + 4 * e)) [1, 2, 3, 4, 5, 6] s
  (s.put HL_WF.WORD (w 1 0 0 120) 0 (32 + 28)).put HL_WF.WORD (w 1 1 300 700) 0 (32 + 29)

theorem test_example_12_1 : bankFault example121 0 1 = none ∧ onTime example121 0 1 7 = 905 ∧ onTime example121 0 1 0 = 168 ∧ wfFloor example121 0 1 = 3620
    ∧ wfFloor (example121.put HL_WF_CFG.DUTY_MAX 0x4A 0) 0 1 = 3131 := by decide +kernel

theorem test_trim_width : [(-32 : Int), 10, 31].map (trimWidth (2 ^ 31 + 2 ^ 30 + 300 * 2 ^ 16 + 700)) = [613, 727, 785] := by decide +kernel

theorem test_table_12_3 : bankFault example121 0 0 = some 3 ∧ bankFault (example121.put HL_WF_LIMIT.WHEY_MAX 167 0) 0 1 = some 4
    ∧ bankFault (example121.put HL_WF_LIMIT.ON_MAX 904 0) 0 1 = some 5 ∧ bankFault (example121.put HL_WF.WORD (2 ^ 31 + 15) 0 36) 0 1 = some 1
    ∧ bankFault (example121.put HL_WF.WORD (2 ^ 31 + 119 * 2 ^ 16 + 100) 0 37) 0 1 = some 2 ∧ bankFault (example121.put HL_WF.WORD (2 ^ 28) 0 39) 0 1 = some 7 := by decide +kernel

theorem test_wf_go : (PacketReady .sideband 2 hdr (writeParams 0x900108 0x80000000) (example121.put FIRE_WF_MASK.MASK 1)) ∧ maskHeads 1 = [0] ∧ livePages example121 = [] ∧ armed example121 = false
    ∧ Gives (.fireWfGo .sideband hdr) (example121.put FIRE_WF_MASK.MASK 1) (fun t => t.get FIRE_WF_STATUS.PENDING = 1 ∧ t.fire.wfMask = 1)
    ∧ Gives (.fireWfGo .sideband hdr) (example121.put FIRE_WF_MASK.MASK 3) (fun t => t.get FIRE_WF_STATUS.PENDING = 0 ∧ t.get FIRE_WF_STATUS.RESULT = 2 ∧ t.get FIRE_WF_STATUS.HEAD = 1 ∧ t.get FIRE_WF_STATUS.REASON = 3) :=
  ⟨⟨by decide +kernel, by decide +kernel⟩, by decide +kernel, by decide +kernel, by decide +kernel, gives rfl (by decide +kernel), gives rfl (by decide +kernel)⟩

/-- Armed at 3,333.33 ns, with head 0 named. -/
def fastBar : State := ((((example121.put FIRE_WF_MASK.MASK 1).put FIRE_STATUS.ARMED 1).put FIRE_PERIOD_NS.NS 3333).put FIRE_PERIOD_FRAC.FRAC 0x555555)

theorem test_wf_slow : (PacketReady .sideband 2 hdr (writeParams 0x900108 0x80000000) fastBar) ∧ gridPeriod fastBar < wfFloor fastBar 0 1 * 2 ^ 24
    ∧ Gives (.fireWfGo .sideband hdr) fastBar (fun t => t.get FIRE_WF_STATUS.REASON = 6) := ⟨⟨by decide +kernel, by decide +kernel⟩, by decide +kernel, gives rfl (by decide +kernel)⟩

theorem test_wf_effect : Gives .waveformSwapEffect { example121.put FIRE_WF_STATUS.PENDING 1 with fire := { wfMask := 1 } } fun t =>
    wfLive t 0 = 1 ∧ t.get HL_WF_STATE.FLOOR 0 = 3620 ∧ t.get HL_WF_STATE.VALID 0 = 1 ∧ wfLive t 1 = 0 := gives rfl (by decide +kernel)

theorem test_tap : (PacketReady .sideband 2 hdr (writeParams 0xA01708 37) up) ∧ Gives (.hlFireDelayWrite .sideband hdr 5 37) (((up.put HL_TEMP01.T0 480 5).put HL_TEMP01.T1 480 5).put HL_TEMP23.T2 480 5 |>.put HL_TEMP23.T3 484 5) fun t =>
    t.get HL_FIRE_DELAY.TAP 5 = 37 ∧ t.get CAL_HEAD_TAP.BASE 5 = 37 ∧ t.get CAL_HEAD_TAP.T_BASE 5 = 481 := ⟨⟨by decide +kernel, by decide +kernel⟩, gives rfl (by decide +kernel)⟩

theorem test_wf_cfg : (PacketReady .sideband 2 hdr (writeParams 0xA00304 0x20C80040) fastBar) ∧ Gives (.hlWfCfgWrite .sideband hdr 0 false 0x20C80040) fastBar (fun t => t.get HL_WF_CFG.WHEY_MODE 0 = 2)
    ∧ (PacketReady .sideband 2 hdr (writeParams 0xA00304 0x30C80040) fastBar) ∧ (PacketReady .sideband 2 hdr (writeParams 0xA00300 0x00C803E8) fastBar)
    ∧ (PacketReady .sideband 2 hdr (writeParams 0xA00304 0x20C80041) fastBar) ∧ fastBar.get HL_WF_CFG.DUTY_MAX 0 = 0x40 :=
  ⟨⟨by decide +kernel, by decide +kernel⟩, gives rfl (by decide +kernel), ⟨by decide +kernel, by decide +kernel⟩, ⟨by decide +kernel, by decide +kernel⟩, ⟨by decide +kernel, by decide +kernel⟩, by decide +kernel⟩

theorem test_packet_header : headerBits 0x12345 0 { head := 0, due := 5, whey := 10, wsel := 1, tsel := 0, tap := 37, codes := [] } = 0x2345 * 2 ^ 20 + 5 * 2 ^ 14 + 10 * 2 ^ 10 + 2 ^ 9 + 37
    ∧ codeField [1, 2, 7] = 0o127 := by decide +kernel

/-! ### Head links -/

/-- Port 3 in a link state. -/
def link (st : Nat) : State := (up.put HL_CTL.EN 1 3).put HL_STATUS.STATE st 3

/-- A return-lane frame whose control block has a type and bytes 1 to 7. -/
def frame (type : Nat) (bs : List Nat) (data : List Byte := []) (bad : Nat := 0) : HeadFrame :=
  { block := BitVec.ofNat 64 (beVal ((type :: bs ++ List.replicate (7 - bs.length) 0).map (BitVec.ofNat 8))), data := data, badHeaders := BitVec.ofNat 16 bad }

theorem test_hl_en : (PacketReady .sideband 2 hdr (writeParams 0xA00C00 1) up) ∧ Gives (.hlCtlEnWrite .sideband hdr 3 1) up (fun t => hlState t 3 = 1)
    ∧ (PacketReady .sideband 2 hdr (writeParams 0xA00C00 0) (link 4)) ∧ Gives (.hlCtlEnWrite .sideband hdr 3 0) (link 4) (fun t => hlState t 3 = 0 ∧ t.get HL_STATUS.LAST_DOWN 3 = 1)
    ∧ (PacketReady .sideband 2 hdr (writeParams 0xA00C00 0) (link 6)) ∧ hlBusy (link 6) 3 = true ∧ hlBusy (link 4) 3 = false :=
  ⟨⟨by decide +kernel, by decide +kernel⟩, gives rfl (by decide +kernel), ⟨by decide +kernel, by decide +kernel⟩, gives rfl (by decide +kernel), ⟨by decide +kernel, by decide +kernel⟩, by decide +kernel, by decide +kernel⟩

theorem test_hl_retrain : (PacketReady .sideband 2 hdr (writeParams 0xA00C00 0x80000001) (link 4)) ∧ Gives (.hlCtlRetrain .sideband hdr 3 1) (link 4) (fun t => hlState t 3 = 1 ∧ t.get HL_STATUS.LAST_DOWN 3 = 4)
    ∧ (PacketReady .sideband 2 hdr (writeParams 0xA00C00 0x80000001) (link 6)) := ⟨⟨by decide +kernel, by decide +kernel⟩, gives rfl (by decide +kernel), ⟨by decide +kernel, by decide +kernel⟩⟩

theorem test_hl_lock : Gives (.hlLockHeld 3) (link 1) (fun t => hlState t 3 = 2 ∧ t.get HL_STATUS.PRESENT 3 = 1 ∧ evtPending t HL_PRESENCE = true) ∧ Gives (.hlLockHeld 3) up (fun t => hlState t 3 = 0) :=
  ⟨gives rfl (by decide +kernel), gives rfl (by decide +kernel)⟩

/-- The sweep of Example 14.1: 30 positions from 17 on. -/
theorem test_hl_align : longestRun ((2 ^ 30 - 1) * 2 ^ 17) = (17, 30) ∧ Gives (.hlAlignDone 3 (BitVec.ofNat 64 ((2 ^ 30 - 1) * 2 ^ 17))) (link 2) (fun t => hlState t 3 = 3 ∧ t.get HL_RX_PHASE.TAP 3 = 31 ∧ t.get HL_RX_PHASE.EYE 3 = 30)
    ∧ Gives (.hlAlignDone 3 (BitVec.ofNat 64 (2 ^ 15 - 1))) (link 2) (fun t => hlState t 3 = 1 ∧ t.get HL_STATUS.LAST_DOWN 3 = 5 ∧ t.get HL_RX_PHASE.EYE 3 = 15 ∧ t.get HL_RX_PHASE.TAP 3 = 7) :=
  ⟨by decide +kernel, gives rfl (by decide +kernel), gives rfl (by decide +kernel)⟩

theorem test_hl_timeout : Gives (.hlStateTimeout 3) (link 3) (fun t => hlState t 3 = 1 ∧ t.get HL_STATUS.LAST_DOWN 3 = 6) ∧ Gives (.hlStateTimeout 3) ((link 3).put HL_ID_CHECK.MISMATCH 1 3) (fun t => hlState t 3 = 3) :=
  ⟨gives rfl (by decide +kernel), gives rfl (by decide +kernel)⟩

theorem test_hl_lost : Gives (.hlBlockLockLost 3) (link 7) (fun t => hlState t 3 = 2 ∧ t.get HL_STATUS.LAST_DOWN 3 = 2) ∧ Gives (.hlLockNotRegained 3) ((link 4).put HL_STATUS.PRESENT 1 3) (fun t => hlState t 3 = 1 ∧ t.get HL_STATUS.PRESENT 3 = 0) :=
  ⟨gives rfl (by decide +kernel), gives rfl (by decide +kernel)⟩

/-- Table 13.5: CAP with version 3.0 and features 7, and with 2.1 and features 7. -/
theorem test_hl_cap : Gives (.hlCapRx 3 (frame 0x78 [0x30, 0, 7])) (link 3) (fun t => t.get HL_STATUS.VERSION 3 = 0x30 ∧ t.get HL_FEATURES.AGREED 3 = 7)
    ∧ Gives (.hlCapRx 3 (frame 0x78 [0x21, 0, 7])) (link 3) (fun t => t.get HL_STATUS.VERSION 3 = 0x21 ∧ t.get HL_FEATURES.AGREED 3 = 1)
    ∧ Gives (.hlCapRx 3 (frame 0x78 [0x40, 0, 7])) (link 3) (fun t => t.get HL_ID_CHECK.MISMATCH 3 = 1)
    ∧ Gives (.hlCapRx 3 (frame 0x99 [])) (link 3) (fun t => t.get HL_TLM_ERR.COUNT 3 = 1) ∧ Gives (.hlCapRx 3 (frame 0x1E [] [] 5)) (link 3) (fun t => t.get HL_SYNC_ERR.COUNT 3 = 5) :=
  ⟨gives rfl (by decide +kernel), gives rfl (by decide +kernel), gives rfl (by decide +kernel), gives rfl (by decide +kernel), gives rfl (by decide +kernel)⟩

theorem test_hl_retry : Gives (.hlCapRetry 3) ((link 3).put HL_ID_CHECK.MISMATCH 1 3) (fun t => t.tx = [.head 3 [0x7830000700000000]]) ∧ Gives (.hlEchoTimer 3) (link 4) (fun t => t.tx = [.head 3 [0x4B00000000000000]]) :=
  ⟨gives rfl (by decide +kernel), gives rfl (by decide +kernel)⟩

/-- A round trip of 500 ns with TURN 1,640 (410 ns) is a delay of 45 ns, which reads 720. -/
theorem test_hl_delay : Gives (.hlEchoRspRx 3 (frame 0x4B [9, 6, 0x68]) 8000) ((link 4).setHead 3 { echo := some 9 }) fun t => t.get HL_DELAY.DELAY 3 = 720 := gives rfl (by decide +kernel)

theorem test_hl_id : Gives (.hlIdDataRx 3 (frame 0x55 [0, 8, 1] [1, 2, 3, 4, 5, 6, 7, 8])) ((link 3).setHead 3 { copied := 8 }) (fun t => mapGet 0 (t.head 3).copy 10 = 3 ∧ (t.head 3).copied = 16)
    ∧ ((link 3).head 3).idDone = false := ⟨gives rfl (by decide +kernel), by decide +kernel⟩

theorem test_hl_complete : Gives (.hlCapsComplete 3) ((link 3).setHead 3 { agreed := true, idDone := true, delays := List.replicate 16 0 }) (fun t => hlState t 3 = 4 ∧ t.cal.forced = [3])
    ∧ Gives (.hlCapsComplete 3) (((link 3).put PAIR_STATUS.ROLE 1).setHead 3 { agreed := true, idDone := true, delays := List.replicate 16 0 }) (fun t => hlState t 3 = 7) :=
  ⟨gives rfl (by decide +kernel), gives rfl (by decide +kernel)⟩

theorem test_hl_accept : (PacketReady .sideband 2 hdr (writeParams 0xA00C50 0x80000000) (link 4)) ∧ PacketReady .sideband 2 hdr (writeParams 0xA00C50 0x80000000) ((link 4).put HL_ID_CHECK.MISMATCH 3 3) :=
  ⟨⟨by decide +kernel, by decide +kernel⟩, ⟨by decide +kernel, by decide +kernel⟩⟩

theorem test_hl_hold : Gives (.hlHoldExitIdleEnd 3) ((link 7).put PAIR_STATUS.ROLE 3) (fun t => hlState t 3 = 4) ∧ Gives (.hlHoldExitIdleEnd 3) (((link 7).put PAIR_STATUS.ROLE 3).put FIRE_STATUS.ARMED 1) (fun t => hlState t 3 = 6) :=
  ⟨gives rfl (by decide +kernel), gives rfl (by decide +kernel)⟩

/-- One segment of bank 1 waits for its answer. -/
def trimming : State := (link 4).setHead 3 { sending := [(1, 2, [7])], images := [(1, [7])] }

theorem test_hl_trim : Gives (.hlTrimAckRx 3 (frame 0x66 [1, 2, 0])) trimming (fun t => (t.head 3).sending = [] ∧ (t.head 3).banks = [(1, [7])])
    ∧ Gives (.hlTrimAckRx 3 (frame 0x66 [1, 2, 1])) trimming (fun t => t.tx = [.head 3 (trimFrame 1 2 [7])]) ∧ Gives (.hlTrimAckTimeout 3 1 2) trimming (fun t => t.tx = [.head 3 (trimFrame 1 2 [7])]) :=
  ⟨gives rfl (by decide +kernel), gives rfl (by decide +kernel), gives rfl (by decide +kernel)⟩

/-- Fire 0x10007 of head 3, with ring row 5, awaits its answer. -/
def awaiting (n : Nat) : State := { (link 6).setHead 3 { missed := n } with fire := { unacked := [(2, 1, []), (3, 0x10007, [5])] } }

theorem test_hl_ack : Gives (.hlAckRx 3 (frame 0x2D [0, 7, 0, 2])) (awaiting 7) (fun t => t.fire.unacked = [(2, 1, [])] ∧ (t.head 3).missed = 0 ∧ t.get HL_STATUS.CLAIM_SEEN 3 = 0)
    ∧ Gives (.hlAckRx 3 (frame 0x2D [0, 7, 1, 2])) ((awaiting 0).put HL_FEATURES.AGREED 7 3) (fun t => t.get HL_HCRC_FAIL.COUNT 3 = 1 ∧ t.fire.notFired = [(5, 8)] ∧ t.get HL_STATUS.CLAIM_SEEN 3 = 2)
    ∧ Gives (.hlAckRx 3 (frame 0x2D [0, 7, 2, 0])) (awaiting 0) (fun t => t.get HL_MISSED.COUNT 3 = 1) ∧ Gives (.hlAckRx 3 (frame 0x2D [0, 8, 0])) (awaiting 0) (fun t => t.fire.unacked.length = 2) :=
  ⟨gives rfl (by decide +kernel), gives rfl (by decide +kernel), gives rfl (by decide +kernel), gives rfl (by decide +kernel)⟩

theorem test_hl_ack_timeout : Gives (.hlAckTimeout 3) (awaiting 6) (fun t => (t.head 3).missed = 7 ∧ hlState t 3 = 6) ∧ Gives (.hlAckTimeout 3) (awaiting 7) (fun t => hlState t 3 = 2 ∧ t.get HL_STATUS.LAST_DOWN 3 = 3) :=
  ⟨gives rfl (by decide +kernel), gives rfl (by decide +kernel)⟩

theorem test_hl_temp : Gives (.hlTempRx 3 (frame 0x33 [4] [2, 0x90, 2, 0x91, 2, 0x92, 2, 0x93])) (link 4) (fun t => t.get HL_TEMP23.T3 3 = 0x293 ∧ evtPending t HL_HEAD_TEMP = false)
    ∧ Gives (.hlTempRx 3 (frame 0x33 [1] [3, 0x70, 0, 0, 0, 0, 0, 0])) (link 4) (fun t => t.get HL_TEMP23.T3 3 = 0x370 ∧ evtPending t HL_HEAD_TEMP = true)
    ∧ Gives (.hlTempRx 3 (frame 0x33 [4] [1])) (link 4) (fun t => t.get HL_TLM_ERR.COUNT 3 = 1) := ⟨gives rfl (by decide +kernel), gives rfl (by decide +kernel), gives rfl (by decide +kernel)⟩

theorem test_hl_temp_cfg : (PacketReady .sideband 2 hdr (writeParams 0xA00C1C 0x3C32) (link 4)) ∧ Gives (.hlTempCfgWrite .sideband hdr 3 0x3C32) (link 4) (fun t => t.get HL_TEMP_CFG.WARN 3 = 0x32)
    ∧ (PacketReady .sideband 2 hdr (writeParams 0xA00C1C 0x3C3D) (link 4)) ∧ sext 8 0xF0 < sext 8 0x3C := ⟨⟨by decide +kernel, by decide +kernel⟩, gives rfl (by decide +kernel), ⟨by decide +kernel, by decide +kernel⟩, by decide +kernel⟩

/-- Head 3 is named for a measurement into Vat region 8. -/
def measurable : State := (((link 4).put HL_FEATURES.AGREED 7 3).put HL_MEAS_MASK.MASK 8).put HL_MEAS_ADDR.ADDR 0x0100F00000

theorem test_meas_go : (PacketReady .sideband 2 hdr (writeParams 0xA10000 0x80000000) measurable) ∧ measBadParam measurable = false ∧ (measViol 0 measurable).isSome = false
    ∧ Gives (.hlMeasGo .sideband hdr) measurable (fun t => hlState t 3 = 5 ∧ t.get HL_MEAS_STATUS.RESULT = 1) ∧ PacketReady .sideband 2 hdr (writeParams 0xA10000 0x80000000) (link 4) :=
  ⟨⟨by decide +kernel, by decide +kernel⟩, by decide +kernel, by decide +kernel, gives rfl (by decide +kernel), ⟨by decide +kernel, by decide +kernel⟩⟩

/-- It measures. -/
def measuring : State :=
  let s := ((measurable.put HL_STATUS.STATE 5 3).put HL_MEAS_STATUS.RESULT 1).put HL_MEAS_ADDR.ADDR 0x1000000000
  { s with hl := { s.hl with meas := { heads := [3], waiting := [3] } } }

theorem test_meas_abort : (PacketReady .sideband 2 hdr (writeParams 0xA10000 0x40000000) measuring) ∧ Gives (.hlMeasAbort .sideband hdr) measuring (fun t => hlState t 3 = 4 ∧ t.get HL_MEAS_STATUS.RESULT = 3)
    ∧ PacketReady .sideband 2 hdr (writeParams 0xA10000 0x40000000) measurable := ⟨⟨by decide +kernel, by decide +kernel⟩, gives rfl (by decide +kernel), ⟨by decide +kernel, by decide +kernel⟩⟩

theorem test_meas_settle : Gives (.hlMeasSettleEnd true) measuring (fun t => t.tx = [.head 3 [0x8701000000000000]] ∧ t.hl.meas.settled = true)
    ∧ Gives (.hlMeasSettleEnd false) measuring (fun t => t.get HL_MEAS_STATUS.RESULT = 4 ∧ hlState t 3 = 4) := ⟨gives rfl (by decide +kernel), gives rfl (by decide +kernel)⟩

/-- R388 by hand: 250.0 ohm at 41 degrees with 800 ppm is 246.8 ohm at 25; a short and an open are kept. -/
theorem test_meas_value : resAt25 2500 656 800 = 2468 ∧ resAt25 0 656 800 = 0 ∧ resAt25 0xFFFF 656 800 = 0xFFFF := by decide +kernel

/-- MEAS_DATA of 4 nozzles from nozzle 8 on, with its CRC. -/
def measData (last : Nat) : HeadFrame := let d := beBytes 2 0 ++ beBytes 2 0xFFFF ++ zeros 4; frame 0x87 [last, 0, 0, 8, 1, crc16 d / 256, crc16 d % 256] d

theorem test_meas_data : Gives (.hlMeasDataRx 3 (measData 0)) measuring (fun t => t.le (0x1000000000 + 2 * (2048 * 3 + 9)) 2 = 0xFFFF ∧ t.hl.meas.bad = [(3, 4)])
    ∧ Gives (.hlMeasDataRx 3 (measData 1)) measuring (fun t => t.get HL_MEAS_STATUS.RESULT = 2 ∧ hlState t 3 = 4 ∧ evtPending t HL_ELEMENT_FAULT = true)
    ∧ crc16 (measData 0).data = beAt (headBytes (measData 0)) 6 2 ∧ factoryOk measuring 3 = true := ⟨gives rfl (by decide +kernel), gives rfl (by decide +kernel), by decide +kernel, by decide +kernel⟩

/-! ### Ripening -/

/-- Example 14.1 of the spec: the tap of head 5 at 41.00 degrees and its residual, and a trim. -/
theorem test_example_14_1 : tapQ8 40 656 480 (-96) = 9184 ∧ tapOf 9184 = 36 ∧ tapResid 9184 = 62 ∧ trimOf 2500 656 800 2480 = 5 ∧ trimOf 2500 604 800 2480 = 5 := by decide +kernel

/-- Head 5 of the example: linked, last covered at 37.75 degrees, now at 41.00. -/
def head5 : State :=
  let s := (((up.put HL_STATUS.STATE 6 5).put CAL_HEAD_TREF.HEAD 604 5).put HL_FIRE_DELAY.TAP 37 5).put CAL_HEAD_TAP.BASE 40 5
  let s := ((s.put CAL_HEAD_TAP.T_BASE 480 5).putS CAL_HEAD_MODEL.TC (-96) 5).put CAL_HEAD_MODEL.RNOM 2480 5
  let s := (((s.put HL_TEMP01.T0 656 5).put HL_TEMP01.T1 656 5).put HL_TEMP23.T2 656 5).put HL_TEMP23.T3 656 5
  (s.setHead 5 { tempAt := some 0 }).put SYS_TEMP.MAX 0

theorem test_cal_due : head5.on 1 = true ∧ calHeadMoved head5 5 = true ∧ calHeadMoved (head5.put CAL_HEAD_TREF.HEAD 608 5) 5 = false := by decide +kernel

/-- It is due. -/
def due5 : State := head5.putBit CAL_DUE.DUE 5 true

theorem test_cal_auto : calAutoHeads due5 = [5] ∧ Gives .calAutoRunStart due5 fun t => t.get CAL_STATUS.RUNNING = 1 ∧ t.get CAL_STATUS.LEFT = 3 ∧ t.get HL_FIRE_DELAY.STALE 5 = 1 ∧ t.get CAL_STATUS.AUTO = 1 :=
  ⟨by decide +kernel, gives rfl (by decide +kernel)⟩

theorem test_cal_forced : Gives .calForcedRunStart { head5 with cal := { forced := [5, 6] } } fun t => t.cal.forced = [6] ∧ t.get CAL_STATUS.LEFT = 3 := gives rfl (by decide +kernel)

/-- CAL_RUN of head 5 with an item mask. -/
def runParams (items : Nat) : List Byte := beBytes 8 32 ++ zeros 1 ++ beBytes 1 items ++ zeros 6

theorem test_cal_run : (PacketReady .sideband 0x40 hdr (runParams 1) head5) ∧ calLink head5 5 = true := ⟨⟨by decide +kernel, by decide +kernel⟩, by decide +kernel⟩

theorem test_cal_run_ok : Gives (.calRun .sideband hdr (runParams 1)) head5 (fun t => t.get CAL_STATUS.LEFT = 1 ∧ t.get CAL_STATUS.AUTO = 0)
    ∧ Gives (.calRun .sideband hdr (runParams 8)) head5 (fun t => t.cal.run = none ∧ t.get CAL_RUNS.COUNT = 1)
    ∧ (PacketReady .sideband 0x40 hdr (runParams 0) head5) ∧ PacketReady .sideband 0x40 hdr (runParams 1) { head5 with cal := { run := some {} } } :=
  ⟨gives rfl (by decide +kernel), gives rfl (by decide +kernel), ⟨by decide +kernel, by decide +kernel⟩, ⟨by decide +kernel, by decide +kernel⟩⟩

/-- A run of one item of head 5. -/
def running5 (code : Nat) (free : Bool) : State := { head5 with cal := { run := some { items := [{ code := code, idx := 5, free := free }], heads := [5], temps := [(5, [656, 656, 656, 656])] } } }

/-- A run of one item of head 5 with another still to end. -/
def busy5 (code : Nat) : State := { head5 with cal := { run := some { items := [{ code := code, idx := 5 }, { code := 3, idx := 1 }], heads := [5], temps := [(5, [656, 656, 656, 656])] } } }

theorem test_cal_tap : Gives (.calItemEnd 0 5 0) (running5 0 false) (fun t => t.get HL_FIRE_DELAY.TAP 5 = 36 ∧ t.get CAL_HEAD_RES.FIRE 5 = 36 ∧ t.get CAL_HEAD_RES.FIRE_R 5 = 1 ∧ t.cal.run = none ∧ t.get CAL_RUNS.COUNT = 1)
    ∧ Gives (.calItemEnd 0 5 0) ((busy5 0).put HL_FIRE_DELAY.TAP 60 5) (fun t => t.get HL_FIRE_DELAY.TAP 5 = 60 ∧ t.get CAL_HEAD_RES.REASON 5 = 2)
    ∧ calNoTemp (running5 0 false) 5 = false := ⟨gives rfl (by decide +kernel), ⟨_, rfl, by decide +kernel⟩, by decide +kernel⟩

theorem test_cal_phase : Gives (.calItemEnd 1 5 (BitVec.ofNat 64 ((2 ^ 30 - 1) * 2 ^ 17))) (running5 1 false) (fun t => t.get HL_RX_PHASE.TAP 5 = 31 ∧ t.get HL_RX_PHASE.EYE 5 = 30)
    ∧ Gives (.calItemEnd 1 5 (BitVec.ofNat 64 ((2 ^ 15 - 1) * 2 ^ 24))) (busy5 1) (fun t => t.get HL_RX_PHASE.TAP 5 = 0x20 ∧ t.get CAL_HEAD_RES.REASON 5 = 3) :=
  ⟨gives rfl (by decide +kernel), ⟨_, rfl, by decide +kernel⟩⟩

theorem test_cal_trim : factoryOk (running5 2 true) 5 = true ∧ calNozzles (running5 2 true) 5 = [] ∧ followsTable (running5 2 true) = false
    ∧ Gives (.calItemEnd 2 5 0) (running5 2 true) (fun t => t.get CAL_HEAD_RES.TRIM_R 5 = 1 ∧ t.nmap.trims = []) := ⟨by decide +kernel, by decide +kernel, by decide +kernel, gives rfl (by decide +kernel)⟩

theorem test_cal_skip : Gives (.calItemEnd 3 2 0) { up with cal := { run := some { items := [{ code := 3, idx := 2 }], chans := [2] } } } fun t => t.get CAL_POS_RES.SC_R 2 = 4 ∧ t.cal.run = none := gives rfl (by decide +kernel)

/-! ### Cameras -/

/-- Port 2 with a set of 16 by 4 pixels of RAW12 taken, and EN. -/
def camOn : State :=
  let s := ((upHost.put CAM_CTL.EN 1 2).put ISP_GEOM.WIDTH 16 2).put ISP_GEOM.HEIGHT 4 2
  s.setCamPort 2 { active := [(ISP_GEOM.WIDTH.key 2 0, 16), (ISP_GEOM.HEIGHT.key 2 0, 4)], taken := true, nextFrame := 7, trigs := [{ time := 0, unit := 3, obs := {} }] }

/-- A group of port 2 with n lines received. -/
def camGroup (n : Nat) : CamGroup := { frame := 6, set := [(ISP_GEOM.WIDTH.key 2 0, 16), (ISP_GEOM.HEIGHT.key 2 0, 4)], setNo := 0, fn := 9, fs := 0, born := 0, exps := [{ started := true, lines := n }] }

/-- Port 2 with that group in progress. -/
def camIn (g : CamGroup) : State := camOn.setCamPort 2 { (camOn.camPort 2) with groups := [g] }

theorem test_cam_ctl : Gives (.camCtlWrite (.host 0) hdr 2 0x2B0007) (camOn.put CAM_CTL.EN 0 2) (fun t => t.get CAM_CTL.DT 2 = 0x2B ∧ t.get CAM_CTL.EN 2 = 1 ∧ (t.camPort 2).nextFrame = 0)
    ∧ (ready 2 (writeParams 0xC08000 0x2B0007) (camOn.put CAM_CTL.EN 0 2)) ∧ (ready 2 (writeParams 0xC08000 0x2B0007) camOn)
    ∧ (ready 2 (writeParams 0xC08000 0x2F0007) camOn) ∧ Gives (.camCtlWrite (.host 0) hdr 2 0x2C0006) camOn (fun t => t.get CAM_STATUS.STATE 2 = 0) :=
  ⟨⟨_, rfl, by decide +kernel⟩, ⟨by decide +kernel, by decide +kernel⟩, ⟨by decide +kernel, by decide +kernel⟩, ⟨by decide +kernel, by decide +kernel⟩, ⟨_, rfl, by decide +kernel⟩⟩

/-- The same with a DESC ring in the Vat. -/
def camRing : State := (camOn.put ISP_RING.BASE 0x100E00000 2 3).put ISP_RING_SLOT.SLOT_BYTES 64 2 3

theorem test_isp_commit : commitReason camRing 2 = 0 ∧ Gives (.ispCommit (.host 0) hdr 2 0) camRing (fun t => t.get ISP_COMMIT.COMMIT 2 = 1)
    ∧ (ready 2 (writeParams 0xC08030 0x80000000) camRing) ∧ commitReason camOn 2 = 6 ∧ (ready 2 (writeParams 0xC08030 0x80000000) (camRing.put ISP_COMMIT.COMMIT 1 2))
    ∧ Gives (.ispCommit (.host 0) hdr 2 0) camOn (fun t => t.get ISP_COMMIT.REASON 2 = 6 ∧ t.get ISP_COMMIT.COMMIT 2 = 0) :=
  ⟨by decide +kernel, ⟨_, rfl, by decide +kernel⟩, ⟨by decide +kernel, by decide +kernel⟩, by decide +kernel, ⟨by decide +kernel, by decide +kernel⟩, ⟨_, rfl, by decide +kernel⟩⟩

theorem test_isp_taken : Gives (.ispShadowTaken 2) ((camOn.put CAM_CTL.EN 0 2).put ISP_COMMIT.COMMIT 1 2) fun t =>
    t.get ISP_COMMITS.COUNT 2 = 1 ∧ (activeSet t 2).width = 16 ∧ (t.camPort 2).setNo = 1 := ⟨_, rfl, by decide +kernel⟩

theorem test_cam_ulps : Gives (.camUlpsChange 2 true) camOn fun t => t.get CAM_STATUS.ULPS 2 = 1 := gives rfl (by decide +kernel)

theorem test_csi_counts : Gives (.csiPacketRx 2 .badHeader) camOn (fun t => t.get CAM_ECC_ERR.COUNT 2 = 1) ∧ Gives (.csiPacketRx 2 (.short 4 0 0)) camOn (fun t => t.get CAM_DISCARD.COUNT 2 = 1)
    ∧ Gives (.csiPacketRx 2 (.long 0 0x2D [] true)) camOn (fun t => t.get CAM_DISCARD.COUNT 2 = 1) ∧ channelOpen camOn 2 0 = false :=
  ⟨gives rfl (by decide +kernel), gives rfl (by decide +kernel), gives rfl (by decide +kernel), by decide +kernel⟩

theorem test_csi_start : Gives (.csiPacketRx 2 (.short 0 0 9)) camOn fun t => (t.camPort 2).nextFrame = 8 ∧ (t.camPort 2).groups.map (fun g => (g.frame, g.fn, g.trig)) = [(7, 9, some { time := 0, unit := 3, obs := {} })]
    ∧ (t.camPort 2).trigs = [] ∧ t.get CAM_STATUS.STATE 2 = 2 := ⟨_, rfl, by decide +kernel⟩

theorem test_csi_line : Gives (.csiPacketRx 2 (.long 0 0x2C [0x123, 5] true)) (camIn (camGroup 1)) fun t =>
    (t.camPort 2).groups.map (fun g => (g.flags, g.fifo.map fun f => (f.2.1, f.2.2.take 3))) = [(4, [(1, [0x1230, 0x50, 0])])] ∧ t.get CAM_LINE_ERR.COUNT 2 = 1 := ⟨_, rfl, by decide +kernel⟩

theorem test_csi_long : Gives (.csiPacketRx 2 (.long 0 0x2C [] true)) (camIn (camGroup 4)) fun t => (t.camPort 2).groups.map (fun g => (g.flags, g.fifo)) = [(2, [])] := ⟨_, rfl, by decide +kernel⟩

theorem test_csi_end : Gives (.csiPacketRx 2 (.short 0 1 9)) (camIn (camGroup 1)) (fun t => (t.camPort 2).groups.map (fun g => (g.flags, g.fifo.length)) = [(1, 3)])
    ∧ Gives (.camFrameTimeout 2 0) (camIn (camGroup 1)) (fun t => (t.camPort 2).groups.map (fun g => (g.flags, g.fifo.length)) = [(17, 3)])
    ∧ openGroup ((camIn (camGroup 1)).camPort 2).groups 0 = some (camGroup 1) ∧ channelOpen camOn 2 1 = false := ⟨⟨_, rfl, by decide +kernel⟩, ⟨_, rfl, by decide +kernel⟩, by decide +kernel, by decide +kernel⟩

/-- Two exposures, the second without a line yet; STAGGER 0. -/
def camTwo : CamGroup := { (camGroup 1) with exps := [{ started := true, lines := 1 }, { started := true }] }

theorem test_csi_stagger : Gives (.csiPacketRx 2 (.long 0 0x2C [] true)) (camIn camTwo) fun t => (t.camPort 2).groups.map (fun g => (g.missing, bit g.flags 5)) = [([(1, 0)], true)] := ⟨_, rfl, by decide +kernel⟩

/-- Lines of 8,192 pixels of RAW12: 31 of them leave no room for another beside the reserve. -/
def camFull : CamGroup := { (camGroup 31) with set := [(ISP_GEOM.WIDTH.key 2 0, 8192), (ISP_GEOM.HEIGHT.key 2 0, 100)], fifo := (List.range 31).map fun i => (0, i, []) }

theorem test_csi_drop : fifoTight (camIn camFull) 2 camFull = true ∧ fifoTight (camIn (camGroup 1)) 2 (camGroup 1) = false ∧ fifoTight (camIn camTwo) 2 camTwo = false
    ∧ newestGroup (camIn camFull) = some (2, camFull)
    ∧ Gives (.csiPacketRx 2 (.long 0 0x2C [] true)) (camIn camFull) (fun t => (t.camPort 2).groups = [] ∧ t.get CAM_DROPS.COUNT 2 = 1 ∧ t.get CAM_STATUS.STATE 2 = 3) :=
  ⟨by decide +kernel, by decide +kernel, by decide +kernel, by decide +kernel, ⟨_, rfl, by decide +kernel⟩⟩

/-- A group whose first line is ready, and one whose last is. -/
def camLine : CamGroup := { (camGroup 1) with fifo := [(0, 0, List.replicate 16 0x1230)] }
def camLast : CamGroup := { (camGroup 4) with exps := [{ started := true, ended := true, lines := 4 }], merged := List.replicate 3 (List.replicate 16 0), fifo := [(0, 3, List.replicate 16 0x1230)], fe := some 0 }

theorem test_isp_line : Gives .ispLineProcessed (camIn camLine) (fun t => t.cam.turn = 2 ∧ (t.camPort 2).groups.map (fun g => (g.merged.map (fun l => l.take 2), g.fifo)) = [([[0x12300, 0x12300]], [])])
    ∧ Gives .ispLineProcessed (camIn camLast) (fun t => (t.camPort 2).groups = [] ∧ (t.camPort 2).posted = 1 ∧ t.get CAM_FRAMES.COUNT 2 = 1)
    ∧ (nextReady (camIn camLine)).isSome = true ∧ (nextReady (camIn camLast)).isSome = true ∧ nextReady camOn = none :=
  ⟨⟨_, rfl, by decide +kernel⟩, ⟨_, rfl, by decide +kernel⟩, by decide +kernel, by decide +kernel, by decide +kernel⟩

/-- Black, white, and a value in the curve (R429): 0.5 gives 187.52, so 188. -/
theorem test_srgb : srgb8 0 = 0 ∧ srgb8 65535 = 255 ∧ srgb8 32768 = 188 := by decide +kernel

/-! ### Nozzle health -/

/-- INSPECT_SET with flags, all heads. -/
def inspectParams (f : Nat) : List Byte := beBytes 4 f ++ beBytes 8 (2 ^ 64 - 1)

theorem test_inspect_set : Gives (.inspectSet (.host 0) hdr32 (inspectParams 7)) (agreed (upHost.put NHA_STATUS.BASELINE 1)) (fun t => t.get NHA_CTL.EN = 1 ∧ t.get NHA_CTL.NOMASK = 1 ∧ t.get NHA_STATUS.BASELINE = 0)
    ∧ (PacketReady (.host 0) 0x48 hdr32 (inspectParams 7) (agreed upHost)) ∧ PacketReady (.host 0) 0x48 hdr32 (inspectParams 1) (agreed upHost) :=
  ⟨⟨_, rfl, by decide +kernel⟩, ⟨by decide +kernel, by decide +kernel⟩, ⟨by decide +kernel, by decide +kernel⟩⟩

theorem test_source_en : Gives (.nhaSourceEnWrite (.host 0) hdr 1 0x02000005) upHost (fun t => t.get NHA_CAM_CFG.LPITCH 1 = 0x200 ∧ t.get NHA_CAM_CFG.EN 1 = 1 ∧ t.get NHA_CAM_CFG.DIR 1 = 1)
    ∧ Gives (.nhaSourceEnWrite (.host 0) hdr 6 0x01009005) upHost (fun t => t.get NHA_RSRC_CFG.NODE 2 = 5 ∧ t.get NHA_RSRC_CFG.EN 2 = 1 ∧ t.get NHA_RSRC_CFG.PORT 2 = 1)
    ∧ (ready 2 (writeParams 0xD00180 0x02000005) upHost) ∧ ready 2 (writeParams 0xD00180 0x02000005) (upHost.put NHA_CAM_CFG.EN 1 1) :=
  ⟨⟨_, rfl, by decide +kernel⟩, ⟨_, rfl, by decide +kernel⟩, ⟨by decide +kernel, by decide +kernel⟩, ⟨by decide +kernel, by decide +kernel⟩⟩

/-- A posted group that waits for the analyser on port 2. -/
def postedGroup (flags : Nat) (late : Bool) (trig : Option CamTrig) : State :=
  camOn.setCamPort 2 { (camOn.camPort 2) with waiting := [{ frame := 1, flags := flags, set := [(ISP_GEOM.WIDTH.key 2 0, 16), (ISP_GEOM.HEIGHT.key 2 0, 4)], slot := 0, trig := trig, late := late }] }

/-- The group answers a trigger. -/
def aTrig : Option CamTrig := some { time := 0, unit := 0, obs := {} }

theorem test_group_aside : Gives (.nhaGroupAnalyse 2) (postedGroup 1 false aTrig) (fun t => t.get NHA_SKIPPED.COUNT = 1 ∧ (t.camPort 2).waiting = [])
    ∧ Gives (.nhaGroupAnalyse 2) (postedGroup 0 true aTrig) (fun t => t.get NHA_LATE.COUNT = 1)
    ∧ Gives (.nhaGroupAnalyse 2) (postedGroup 0 false aTrig) (fun t => t.get NHA_EXCL.COUNT = 64 ∧ t.get NHA_EXCL_REASON.LAST = 8)
    ∧ Gives .nhaLagTimeout (postedGroup 0 false none) (fun t => t.get NHA_STATUS.LAG = 1)
    ∧ rangeViol (postedGroup 0 false aTrig) 5 0 0 0 0 0 = none :=
  ⟨⟨_, rfl, by decide +kernel⟩, ⟨_, rfl, by decide +kernel⟩, ⟨_, rfl, by decide +kernel⟩, gives rfl (by decide +kernel), by decide +kernel⟩

/-- Remote source 3 takes blocks of node 9's port 1; one block of group 4 has begun. -/
def remoteOn (cells : List (Nat × Nat × List Nat)) (hist : List (Nat × Int)) : State :=
  let s := ((((up.put NHA_CTL.EN 1).put NHA_RSRC_CFG.EN 1 3).put NHA_RSRC_CFG.NODE 9 3).put NHA_RSRC_CFG.PORT 1 3)
  { s with nha := { blocks := [{ source := 3, bseq := 6, expo := 0, frame := 4, line0 := 0, lines := 1, cells := cells }], groups := [(3, { frame := 4 })] }, pos := { s.pos with history := hist } }

/-- A report cell of that block: the part byte, and one column. -/
def reportCell (part : Nat) : List Byte :=
  beBytes 2 0 ++ beBytes 2 9 ++ zeros 4 ++ beBytes 1 1 ++ beBytes 1 1 ++ beBytes 2 6 ++ zeros 6 ++ beBytes 4 4 ++ zeros 2 ++ beBytes 1 1 ++ beBytes 1 part ++ zeros 2 ++ beBytes 1 1 ++ zeros 3 ++ beBytes 2 7

theorem test_report : Gives (.nozzleReportRx (reportCell 0)) (remoteOn [(0, 0, [1])] []) (fun t => t.get NHA_LATE.COUNT = 1)
    ∧ Gives (.nozzleReportRx (reportCell 0)) (remoteOn [] []) (fun t => t.nha.blocks.map (fun b => b.cells) = [[(0, 0, [7])]])
    ∧ Gives (.nozzleReportRx (reportCell 128)) (remoteOn [] []) (fun t => t.get NHA_LATE.COUNT = 1)
    ∧ Gives (.nozzleReportRx (reportCell 128)) (remoteOn [] [(0, 0)]) (fun t => t.get NHA_RSRC_BLOCKS.COUNT 3 = 1 ∧ t.get NHA_EXCL_REASON.LAST = 8)
    ∧ remoteSource (remoteOn [] []) 9 1 = some 3 ∧ historyAt (remoteOn [] [(0, 0)]) (fullTime (remoteOn [] [(0, 0)]) 0) = some 0 :=
  ⟨⟨_, rfl, by decide +kernel⟩, ⟨_, rfl, by decide +kernel⟩, ⟨_, rfl, by decide +kernel⟩, ⟨_, rfl, by decide +kernel⟩, by decide +kernel, by decide +kernel⟩

theorem test_report_timeout : Gives (.nhaReportTimeout 3 6) (remoteOn [] []) fun t => t.get NHA_LATE.COUNT = 1 ∧ t.nha.blocks.map (fun b => b.ended) = [true] := ⟨_, rfl, by decide +kernel⟩

/-- A page of 512 rows whose origin is fixed at 0, printing. -/
def aPage : Page := { id := 1, base := 0, rows := 512, stage := 1, origin := some 0, unread := true, stripRows := 64, period := 0 }
def readPage : State := { jobbed with ing := { jobbed.ing with nextBase := 512, pages := [aPage] } }

theorem test_rwait : (pageOfRow readPage 0).isSome = true ∧ Gives (.nhaRwaitExpiry 1 511) readPage (fun t => t.nha.passed = [])
    ∧ 0 < rowsPassed aPage 65536 0 := ⟨by decide +kernel, ⟨_, rfl, by decide +kernel⟩, by decide +kernel⟩

theorem test_window_ready : windowReady (nhaReadBack readPage) = true ∧ windowReady (nhaReadBack up) = false := by decide +kernel

/-- Nozzle 5 with 256 drops and nothing measured, its streak at 1, and a baseline. -/
def judged : State :=
  let s := (up.put NHA_STATUS.BASELINE 1).put NHA_NOZ.STREAK 1 5
  { s with nha := { sums := [(5, { se := 6400, sm := 0, nd := 256 }), (6, { se := 6400, sm := 6400, nd := 64 })] } }

theorem test_judge : (let t := judgeNozzle 0 5 0 65536 judged; t.get NHA_NOZ.CLASS 5 = 2 ∧ t.get NHA_NOZ.STREAK 5 = 2 ∧ t.get NHA_MASKS.COUNT = 1 ∧ t.nha.queued = [5])
    ∧ (let t := judgeNozzle 0 6 0 65536 judged; t.get NHA_NOZ.CLASS 6 = 0 ∧ t.get NHA_NOZ.RATIO 6 = 256)
    ∧ (let t := judgeNozzle 0 5 0 65536 (judged.put NHA_HEAD_MASK.MASK 2); t.get NHA_MASKS.COUNT = 0 ∧ t.nha.queued = []) := by decide +kernel

/-! ### The pair and the Hoop -/

/-- Member n of a pair with node 9 as its peer, in a role. -/
def inRole (n r : Nat) : State := ((((up.put PAIR_CTL.EN 1).put PAIR_CTL.MEMBER n).put PAIR_PEER.NODE 9).put PAIR_STATUS.ROLE r).put PAIR_STATUS.OWN_CLAIM (if r = 3 then 1 else 0)

/-- The same with the peer's claim asserted. -/
def peerLow (s : State) : State := { s with pair := { s.pair with peerLow := true } }

theorem test_pair_ctl : Gives (.pairCtlClaim .sideband hdr 0xA1) (inRole 0 1) (fun t => role t = 2 ∧ t.pair.guardFrom = 1 ∧ t.get PAIR_CTL.TABLE_SYNC = 1)
    ∧ Gives (.pairCtlRelease .sideband hdr 0xA1) (inRole 0 3) (fun t => role t = 1 ∧ t.get PAIR_STATUS.OWN_CLAIM = 0)
    ∧ Gives (.pairCtlEnWrite .sideband hdr 0xA0) (inRole 0 1) (fun t => role t = 0 ∧ t.get PAIR_CTL.EN = 0)
    ∧ (PacketReady .sideband 2 hdr (writeParams 0xE00000 0x800000A1) (inRole 0 1)) ∧ (PacketReady .sideband 2 hdr (writeParams 0xE00000 0x400000A1) (inRole 0 3))
    ∧ (PacketReady .sideband 2 hdr (writeParams 0xE00000 0xA0) (inRole 0 1)) ∧ (PacketReady .sideband 2 hdr (writeParams 0xE00000 0x800000A1) (inRole 0 3)) :=
  ⟨gives rfl (by decide +kernel), ⟨_, rfl, by decide +kernel⟩, gives rfl (by decide +kernel), ⟨by decide +kernel, by decide +kernel⟩, ⟨by decide +kernel, by decide +kernel⟩, ⟨by decide +kernel, by decide +kernel⟩, ⟨by decide +kernel, by decide +kernel⟩⟩

theorem test_guard : Gives .pairGuardPass (inRole 1 2) (fun t => role t = 3 ∧ t.get PAIR_STATUS.OWN_CLAIM = 1 ∧ t.get PAIR_TAKEOVERS.COUNT = 1) ∧ role (inRole 1 2) = 2
    ∧ armed { armedBar with regs := (PAIR_STATUS.ROLE.key 0 0, 2) :: armedBar.regs } = true := ⟨gives rfl (by decide +kernel), by decide +kernel, by decide +kernel⟩

/-- A watching standby that the last STATE found in step. -/
def watching : State := let s := peerLow ((inRole 1 1).put PAIR_STATUS.WATCH 1)
  { s with pair := { s.pair with stepAt := true, heard := some 0 } }

theorem test_peer_pin : Gives (.ownPeerNChange true) (inRole 0 2) (fun t => role t = 0) ∧ Gives (.ownPeerNChange true) (inRole 1 3) (fun t => role t = 1 ∧ t.get PAIR_STATUS.OWN_CLAIM = 0)
    ∧ Gives (.ownPeerNChange true) (inRole 0 3) (fun t => role t = 3) ∧ Gives (.ownPeerNChange false) watching (fun t => role t = 2 ∧ t.pair.guardAuto = true)
    ∧ Gives (.ownPeerNChange false) (peerLow (inRole 1 1)) (fun t => role t = 1) ∧ Gives .pairWatchStart (peerLow (inRole 1 1)) (fun t => t.get PAIR_STATUS.WATCH = 1)
    ∧ Gives .pairConflictTimeout (peerLow (inRole 0 3)) (fun t => role t = 1 ∧ t.get PAIR_STATUS.OWN_CLAIM = 0) :=
  ⟨⟨_, rfl, by decide +kernel⟩, ⟨_, rfl, by decide +kernel⟩, gives rfl (by decide +kernel), ⟨_, rfl, by decide +kernel⟩, gives rfl (by decide +kernel), gives rfl (by decide +kernel), ⟨_, rfl, by decide +kernel⟩⟩

theorem test_hb : Gives .pairHbSend (inRole 1 1) (fun t => t.get PAIR_STATUS.OOS = 129) ∧ Gives .pairHbLoss (inRole 1 3) (fun t => t.pair.lost = true) ∧ hasPeer up = false :=
  ⟨⟨_, rfl, by decide +kernel⟩, ⟨_, rfl, by decide +kernel⟩, by decide +kernel⟩

/-- A PAIR_SYNC cell of a node. -/
def syncCell (src seq : Nat) (b : List Byte) : List Byte := beBytes 2 0 ++ beBytes 2 src ++ zeros 2 ++ beBytes 2 seq ++ b

/-- A standby that receives a bank: 240 bytes have landed. -/
def banking : State := let s := (inRole 1 1).put NMAP_STATUS.SPARE 2
  { s with pair := { s.pair with bankIn := some 240, seq := some 5 } }

theorem test_sync : Gives (.pairSyncRx (syncCell 8 0 [1])) (inRole 0 3) (fun t => t.get PAIR_SYNC_ERR.COUNT = 1)
    ∧ Gives (.pairSyncRx (syncCell 9 0 ([1, 0x11] ++ zeros 46))) (inRole 0 3) (fun t => t.get PAIR_STATUS.PEER_IN_STEP = 1 ∧ t.pair.seq = some 1)
    ∧ Gives (.pairSyncRx (syncCell 9 0 [2, 0, 0, 0])) (inRole 0 3) (fun t => t.pair.seq = some 1)
    ∧ Gives (.pairSyncRx (syncCell 9 5 ([3, 0, 0, 0] ++ beBytes 4 240 ++ [7, 8]))) banking (fun t => t.pair.bankIn = some 242 ∧ t.byte (spareBase banking + 241) = 8)
    ∧ Gives (.pairSyncRx (syncCell 9 6 ([3, 0, 0, 0] ++ beBytes 4 240 ++ [7, 8]))) banking (fun t => t.pair.bankIn = none ∧ t.pair.reqBank = true ∧ t.get NMAP_STATUS.SPARE = 0) :=
  ⟨gives rfl (by decide +kernel), ⟨_, rfl, by decide +kernel⟩, gives rfl (by decide +kernel), ⟨_, rfl, by decide +kernel⟩, ⟨_, rfl, by decide +kernel⟩⟩

theorem test_swap : Gives (.pairSwap (.host 0) hdr32 (beBytes 4 3)) (agreed ((inRole 0 3).put HOST_STATUS.LINK 1 0)) (fun t => role t = 1 ∧ t.get PAIR_STATUS.OWN_CLAIM = 0)
    ∧ (PacketReady (.host 0) 0x68 hdr32 (beBytes 4 3) (agreed ((inRole 0 3).put HOST_STATUS.LINK 1 0))) ∧ (PacketReady (.host 0) 0x68 hdr32 (beBytes 4 0) (agreed ((inRole 0 3).put HOST_STATUS.LINK 1 0)))
    ∧ PacketReady (.host 0) 0x68 hdr32 (beBytes 4 0) (agreed ((inRole 0 1).put HOST_STATUS.LINK 1 0)) :=
  ⟨⟨_, rfl, by decide +kernel⟩, ⟨by decide +kernel, by decide +kernel⟩, ⟨by decide +kernel, by decide +kernel⟩, ⟨by decide +kernel, by decide +kernel⟩⟩

theorem test_hoop_wdog : Gives (.hoopWdogExpiry 1) (inRole 0 3) (fun t => t.get HOOP_STATUS.LATCHED = 2 ∧ role t = 4 ∧ t.pair.holding = true ∧ t.get PAIR_STATUS.OWN_CLAIM = 1 ∧ hoopHolds t 1 = true)
    ∧ Gives (.hoopWdogExpiry 1) ((inRole 0 3).put HOOP_CFG.DEBUG 1) (fun t => t.get HOOP_STATUS.LATCHED = 0) := ⟨⟨_, rfl, by decide +kernel⟩, gives rfl (by decide +kernel)⟩

theorem test_hoop_force : Gives (.hoopCtlForce .sideband hdr 0) (inRole 0 3) (fun t => t.get HOOP_STATUS.LATCHED = 128 ∧ role t = 4)
    ∧ PacketReady .sideband 2 hdr (writeParams 0xE00100 0x80000000) (inRole 0 3) := ⟨⟨_, rfl, by decide +kernel⟩, ⟨by decide +kernel, by decide +kernel⟩⟩

/-- The hold runs. -/
def hoopHolding : State := let s := inRole 0 4
  { ((s.put PAIR_STATUS.OWN_CLAIM 1).put HOOP_STATUS.LATCHED 2) with pair := { s.pair with holding := true, kicks := [(1, 1)] } }

theorem test_hoop_hold : Gives .hoopHoldExpiry hoopHolding (fun t => t.get HOOP_STATUS.FAULT = 1 ∧ t.get HOOP_STATUS.CAP = 1 ∧ t.get PAIR_STATUS.OWN_CLAIM = 0)
    ∧ Gives (.hoopKick 2) hoopHolding (fun t => hoopHolds t 1 = false ∧ hoopHolds hoopHolding 1 = true)
    ∧ role (hoopFaultClr hoopHolding) = 4
    ∧ role (hoopFaultClr { (hoopHolding.put HOOP_STATUS.LATCHED 128) with pair := { hoopHolding.pair with kicks := [] } }) = 1 :=
  ⟨⟨_, rfl, by decide +kernel⟩, gives rfl (by decide +kernel), by decide +kernel, by decide +kernel⟩

theorem test_hoop_cfg : Gives (.hoopCfgWrite .sideband hdr 0x02320002) (inRole 0 1) (fun t => t.get HOOP_CFG.HOLD = 2 ∧ t.get HOOP_CFG.WDOG = 0x32)
    ∧ (PacketReady .sideband 2 hdr (writeParams 0xE00104 0x02320002) (inRole 0 1)) ∧ (PacketReady .sideband 2 hdr (writeParams 0xE00104 0xFF320002) (inRole 0 1))
    ∧ PacketReady .sideband 2 hdr (writeParams 0xE00104 0x02000002) armedBar :=
  ⟨gives rfl (by decide +kernel), ⟨by decide +kernel, by decide +kernel⟩, ⟨by decide +kernel, by decide +kernel⟩, ⟨by decide +kernel, by decide +kernel⟩⟩

/-! ### Axes -/

/-- Axis 2 in a state, at position 1,000. -/
def axisIn (st : Nat) : State := ((upHost.put AXIS_CTL.EN 1 2).put AXIS_STATUS.STATE st 2).put AXIS_POS.P 1000 2

/-- Axis 2 in a state, with what it keeps. -/
def axisWith (st : Nat) (x : Axis) : State := (axisIn st).setAxis 2 x

/-- AXIS_MOVE of axis 2. -/
def moveParams (f : Nat) (t : Nat) : List Byte := beBytes 1 2 ++ beBytes 1 f ++ zeros 2 ++ beBytes 8 t

theorem test_axis_move : Gives (.axisMove (.host 0) hdr (moveParams 0 2000)) (axisIn 1) (fun t => axState t 2 = 2 ∧ t.get AXIS_TARGET.TARGET 2 = 2000 ∧ (t.axis 2).aimed = true)
    ∧ Gives (.axisMove (.host 0) hdr (moveParams 1 0)) (axisIn 1) (fun t => axState t 2 = 1 ∧ t.get AXIS_STATUS.LAST_END 2 = 1)
    ∧ (ready 0x30 (moveParams 0 2000) (axisIn 1)) ∧ (ready 0x30 (moveParams 0 2000) (axisIn 2)) ∧ (ready 0x30 (moveParams 2 (2 ^ 64 - 1)) (axisIn 1)) :=
  ⟨gives rfl (by decide +kernel), gives rfl (by decide +kernel), ⟨by decide +kernel, by decide +kernel⟩, ⟨by decide +kernel, by decide +kernel⟩, ⟨by decide +kernel, by decide +kernel⟩⟩

theorem test_axis_stop : Gives (.axisStop (.host 0) hdr (beBytes 1 4 ++ zeros 3)) (axisIn 2) (fun t => (t.axis 2).stop = some 2) ∧ ready 0x31 (beBytes 1 4 ++ zeros 3) (axisIn 2) :=
  ⟨gives rfl (by decide +kernel), ⟨by decide +kernel, by decide +kernel⟩⟩

/-- AXIS_HOME of axis 2 toward LIM_HI. -/
def homeParams : List Byte := beBytes 1 2 ++ beBytes 1 1 ++ zeros 2 ++ beBytes 4 1000 ++ beBytes 4 50000 ++ beBytes 8 7

theorem test_axis_home : Gives (.axisHome (.host 0) hdr homeParams) (axisIn 1) (fun t => axState t 2 = 3 ∧ (t.axis 2).home = some (50000, 7, true)) ∧ (ready 0x32 homeParams (axisIn 1))
    ∧ ready 0x32 homeParams (axisIn 3) := ⟨gives rfl (by decide +kernel), ⟨by decide +kernel, by decide +kernel⟩, ⟨by decide +kernel, by decide +kernel⟩⟩

theorem test_axis_ctl : Gives (.axisCtlWrite (.host 0) hdr 2 0) (axisIn 1) (fun t => axState t 2 = 0) ∧ Gives (.axisCtlWrite (.host 0) hdr 2 0) (axisIn 2) (fun t => axState t 2 = 2 ∧ (t.axis 2).off = true)
    ∧ Gives (.axisCtlWrite (.host 0) hdr 2 0x80000001) (axisIn 4) (fun t => axState t 2 = 1) ∧ Gives (.axisCtlWrite (.host 0) hdr 2 1) ((axisIn 0).put AXIS_STATUS.FLT_IN 1 2) (fun t => axState t 2 = 4)
    ∧ (ready 2 (writeParams 0xF00800 0) (axisIn 1)) ∧ (ready 2 (writeParams 0xF00800 0x80000001) (axisIn 1)) :=
  ⟨gives rfl (by decide +kernel), gives rfl (by decide +kernel), gives rfl (by decide +kernel), ⟨_, rfl, by decide +kernel⟩, ⟨by decide +kernel, by decide +kernel⟩, ⟨by decide +kernel, by decide +kernel⟩⟩

theorem test_axis_pos : Gives (.axisPosCommit (.host 0) hdr 2 1) (axisWith 1 { stage := 5 }) (fun t => t.get AXIS_POS.P 2 = 2 ^ 32 + 5 ∧ t.get AXIS_STATUS.POS_DOUBT 2 = 0) ∧ (ready 2 (writeParams 0xF0080C 1) (axisIn 1))
    ∧ ready 2 (writeParams 0xF0080C 1) (axisIn 2) := ⟨gives rfl (by decide +kernel), ⟨by decide +kernel, by decide +kernel⟩, ⟨by decide +kernel, by decide +kernel⟩⟩

theorem test_axis_step : Gives (.axisMicrostep 2) ((axisWith 2 { phase := 2 ^ 32 - 250 }).put AXIS_VNOW.V 100 2) (fun t => axP t 2 = 1001 ∧ (t.axis 2).done = 3 ∧ (t.axis 2).phase = 50)
    ∧ Gives (.axisMicrostep 2) (((axisWith 2 { phase := 2 ^ 32 - 250, aimed := true }).put AXIS_VNOW.V 100 2).put AXIS_TARGET.TARGET 1000 2) (fun t => axP t 2 = 1000) := ⟨gives rfl (by decide +kernel), gives rfl (by decide +kernel)⟩

theorem test_axis_tick : Gives (.axisProfileTick 2) (axisWith 2 { stop := some 2 }) (fun t => axState t 2 = 1 ∧ t.get AXIS_STATUS.LAST_END 2 = 2 ∧ t.get AXIS_STATUS.POS_DOUBT 2 = 1)
    ∧ Gives (.axisProfileTick 2) (axisWith 2 { limit := true, stop := some 2 }) (fun t => t.get AXIS_STATUS.LAST_FAULT 2 = 2 ∧ axState t 2 = 1)
    ∧ Gives (.axisProfileTick 2) ((axisWith 3 { found := true, home := some (9, 70, true) }).put AXIS_LIM_HI_POS.P 990 2) (fun t => axP t 2 = 80 ∧ t.get AXIS_STATUS.HOMED 2 = 1)
    ∧ Gives (.axisProfileTick 2) (axisWith 3 { wrong := true, found := true }) (fun t => t.get AXIS_STATUS.LAST_FAULT 2 = 3) ∧ Gives (.axisProfileTick 2) (axisWith 3 { missed := true }) (fun t => t.get AXIS_STATUS.LAST_FAULT 2 = 4)
    ∧ Gives (.axisProfileTick 2) ((axisWith 2 { aimed := true }).put AXIS_TARGET.TARGET 1000 2) (fun t => axState t 2 = 1 ∧ t.get AXIS_STATUS.LAST_END 2 = 1) :=
  ⟨⟨_, rfl, by decide +kernel⟩, ⟨_, rfl, by decide +kernel⟩, ⟨_, rfl, by decide +kernel⟩, ⟨_, rfl, by decide +kernel⟩, ⟨_, rfl, by decide +kernel⟩, ⟨_, rfl, by decide +kernel⟩⟩

/-- Example 18.1 of the spec: the ramps of the lift (120 ms, in whole us), the duties at rest, and the table's ends (R497). -/
theorem test_example_18_1 : rampTime 87961 4398 8796093 = 119999 ∧ movePeak 87961 4398 8796093 102400 = 8796093 ∧ up.get AXIS_TABLE.T 2 0 = 3 ∧ up.get AXIS_TABLE.T 2 255 = 1023
    ∧ Gives (.axisPwmPeriod 2) ((axisIn 1).put AXIS_POS.P 102400 2) (fun t => (t.axis 2).dutyA = 512 ∧ (t.axis 2).dutyB = 2 ∧ (t.axis 2).negA = false) :=
  ⟨by decide +kernel, by decide +kernel, by decide +kernel, by decide +kernel, gives rfl (by decide +kernel)⟩

theorem test_axis_driver : Gives (.axisDriverFault 2) (axisIn 2) (fun t => axState t 2 = 4 ∧ t.get AXIS_FAULTS.COUNT 2 = 1) ∧ Gives (.axisDriverFault 2) (axisIn 0) (fun t => axState t 2 = 0) :=
  ⟨⟨_, rfl, by decide +kernel⟩, gives rfl (by decide +kernel)⟩

theorem test_axis_limit : Gives (.axisLimitTrip 2 true 5) (axisIn 2) (fun t => (t.axis 2).limit = true ∧ t.get AXIS_LIM_HI_POS.P 2 = 995)
    ∧ Gives (.axisLimitTrip 2 false 5) (axisIn 2) (fun t => (t.axis 2).limit = false ∧ t.get AXIS_LIM_LO_POS.P 2 = 995)
    ∧ Gives (.axisLimitTrip 2 true 5) (axisWith 3 { home := some (9, 70, true) }) (fun t => (t.axis 2).found = true)
    ∧ Gives (.axisLimitTrip 2 true 5) (axisWith 3 { home := some (9, 70, false) }) (fun t => (t.axis 2).wrong = true)
    ∧ Gives (.axisLimitRelease 2 true) ((axisIn 1).put AXIS_STATUS.LIM_HI 1 2) (fun t => t.get AXIS_STATUS.LIM_HI 2 = 0) :=
  ⟨gives rfl (by decide +kernel), gives rfl (by decide +kernel), gives rfl (by decide +kernel), gives rfl (by decide +kernel), gives rfl (by decide +kernel)⟩

/-! ### Lamps -/

/-- Channel 2 with EN, and what it keeps. -/
def lampOn (x : Lamp) : State := (upHost.put LAMP_CTL.EN 1 2).setLamp 2 x

theorem test_lamp_ctl : Gives (.lampCtlWrite (.host 0) hdr 2 0x35) (lampOn { acc := 9 } |>.put LAMP_CTL.NTC 3 2) (fun t => t.get LAMP_CTL.COMP_EN 2 = 1 ∧ (t.lampAt 2).acc = 0)
    ∧ Gives (.lampCtlWrite (.host 0) hdr 2 0) (lampOn { windows := [(1, 2)], openTo := some 3 }) (fun t => (t.lampAt 2).windows = [] ∧ (t.lampAt 2).openTo = none)
    ∧ (ready 2 (writeParams 0x1000080 0x35) (lampOn {})) ∧ (ready 2 (writeParams 0x1000080 0x81) (lampOn {})) ∧ ready 2 (writeParams 0x1000080 0) (lampOn {}) :=
  ⟨gives rfl (by decide +kernel), gives rfl (by decide +kernel), ⟨by decide +kernel, by decide +kernel⟩, ⟨by decide +kernel, by decide +kernel⟩, ⟨by decide +kernel, by decide +kernel⟩⟩

theorem test_lamp_set : Gives (.lampSetWrite (.host 0) hdr 2 0x00020064) (lampOn {}) (fun t => (t.lampAt 2).fade = some { start := 0, target := 100, n := 2 } ∧ t.get LAMP_STATUS.FADING 2 = 1)
    ∧ Gives (.lampSetWrite (.host 0) hdr 2 100) (lampOn {}) (fun t => (t.lampAt 2).jump = some 100) ∧ ready 2 (writeParams 0x1000084 0x00020064) (lampOn {}) :=
  ⟨gives rfl (by decide +kernel), gives rfl (by decide +kernel), ⟨by decide +kernel, by decide +kernel⟩⟩

/-- Example 19.1 of the spec. -/
theorem test_example_19_1 : interp [(1700, 560), (2048, 400)] 1874 = 480 ∧ interp [(400, 0x4000), (560, 0x4800)] 480 = 0x4400
    ∧ Gives (.lampPwmPeriod 2) (lampOn { gain := 0x4400, jump := some 40000 } |>.put LAMP_CTL.COMP_EN 1 2) (fun t => t.get LAMP_STATUS.DUTY 2 = 42500 ∧ (t.lampAt 2).on = 518)
    ∧ Gives (.lampPwmPeriod 3) (lampOn {}) (fun t => (t.lampAt 3).on = 0) := ⟨by decide +kernel, by decide +kernel, gives rfl (by decide +kernel), gives rfl (by decide +kernel)⟩

theorem test_lamp_strobe : Gives (.lampStrobeOpen 2) (lampOn { windows := [(5, 9)], openTo := some 7 }) (fun t => (t.lampAt 2).openTo = some 9 ∧ t.get LAMP_STROBE_MERGED.COUNT 2 = 1)
    ∧ Gives (.lampStrobeOpen 2) (lampOn { windows := [(5, 9)] }) (fun t => (t.lampAt 2).openTo = some 9 ∧ t.get LAMP_STATUS.STROBING 2 = 1)
    ∧ Gives (.lampStrobeClose 2) (lampOn { openTo := some 7 }) (fun t => (t.lampAt 2).openTo = none) := ⟨gives rfl (by decide +kernel), gives rfl (by decide +kernel), gives rfl (by decide +kernel)⟩

/-- Half way from 0 to 65,535 in lightness is 18.42 % of the luminance (R524). -/
theorem test_lamp_fade : Gives (.lampFadeTick 2) (lampOn { fade := some { start := 0, target := 65535, n := 2 } }) (fun t => t.get LAMP_NOW.NOW 2 = 12071)
    ∧ Gives (.lampFadeTick 2) (lampOn { fade := some { start := 0, target := 65535, n := 2, i := 1 } }) (fun t => t.get LAMP_NOW.NOW 2 = 65535 ∧ (t.lampAt 2).fade = none) :=
  ⟨gives rfl (by decide +kernel), gives rfl (by decide +kernel)⟩

/-- The inputs: the first is open, the others in range. -/
def ntcCodes : Vector (BitVec 12) 8 := #v[4090, 100, 100, 100, 100, 100, 100, 100]

theorem test_ntc : Gives (.ntcEvaluation ntcCodes) (lampOn {} |>.put LAMP_CTL.NTC 1 2) fun t => t.get LAMP_NTC.FAULT 0 = 1 ∧ t.get LAMP_NTC.CODE 1 = 100 ∧ (t.lampAt 2).gain = 0x4000 ∧ t.get LAMP_NTC.FAULT 1 = 0 := ⟨_, rfl, by decide +kernel⟩

theorem test_lamp_load : Gives (.lampGlobalLoad (.host 0) hdr) (lampOn {}) (fun t => t.lamp.load = true) ∧ (ready 2 (writeParams 0x1000A00 1) (lampOn {}))
    ∧ ascending (stagedCurve (lampOn {})) = true ∧ ascending (stagedCurve ((lampOn {}).put LAMP_CURVE.CODE 0 5)) = false :=
  ⟨⟨_, rfl, by decide +kernel⟩, ⟨by decide +kernel, by decide +kernel⟩, by decide +kernel, by decide +kernel⟩

theorem test_mx : Gives .mxSlot ((up.put MX_CFG.EN 1).put MX_CELL.LEVEL 3 1) (fun t => t.lamp.nextRow = 1 ∧ t.lamp.row.map (fun r => r.2.take 3) = some [0, 3, 0]) ∧ Gives .mxSlot up (fun t => t.lamp.row = none) :=
  ⟨gives rfl (by decide +kernel), gives rfl (by decide +kernel)⟩

/-! ### Check units and the MRAM -/

/-- Unit 2 over the nine bytes "123456789" at the base of Vat region 8, in a state. -/
def checking (st alg value : Nat) : State :=
  let s := { upHost with mem := (List.range 9).map fun i => (0x0100F00000 + i, BitVec.ofNat 8 (0x31 + i)) }
  ((((s.put CHK_SRC.SRC 0x0100F00000 2).put CHK_LEN.LEN 9 2).put CHK_CTL.ALG alg 2).put CHK_VALUE.VALUE value 2).put CHK_STATUS.STATE st 2

/-- The check values of Table 20.1, and VALUE of Example 20.1. -/
theorem test_chk_values : Gives (.chkScanEnd 2) (checking 1 0 0xFFFFFFFF) (fun t => chkResult t 2 = 0xE3069283 ∧ chkValue t 2 = 0x1CF96D7C ∧ t.get CHK_STATUS.STATE 2 = 2)
    ∧ Gives (.chkScanEnd 2) (checking 1 1 0xFFFFFFFF) (fun t => chkResult t 2 = 0xCBF43926) ∧ Gives (.chkScanEnd 2) (checking 1 2 0xFFFF) (fun t => chkResult t 2 = 0x29B1)
    ∧ Gives (.chkScanEnd 2) ((checking 1 3 1).put CHK_EXPECT.EXPECT 0x091E01DE 2) (fun t => chkResult t 2 = 0x091E01DE ∧ t.get CHK_STATUS.MATCH 2 = 1) :=
  ⟨⟨_, rfl, by decide +kernel⟩, ⟨_, rfl, by decide +kernel⟩, ⟨_, rfl, by decide +kernel⟩, ⟨_, rfl, by decide +kernel⟩⟩

theorem test_chk_fails : (∀ i < 9, chkFails (checking 1 0 0) (0x0100F00000 + i) = 0) ∧ Gives (.chkScanEnd 2) ((checking 1 0 0xFFFFFFFF).put CHK_SRC.SRC 0x1000000000 2) (fun t =>
    t.get CHK_STATUS.STATE 2 = 4 ∧ t.get CHK_STATUS.ERR 2 = 4 ∧ t.get CHK_DONE.DONE 2 = 0) := ⟨by decide +kernel, ⟨_, rfl, by decide +kernel⟩⟩

theorem test_chk_go : Gives (.chkGo (.host 0) hdr 2 0x20011700) (checking 0 0 5) (fun t => t.get CHK_STATUS.STATE 2 = 1 ∧ t.get CHK_VALUE.VALUE 2 = 0xFFFFFFFF ∧ t.get CHK_LAST_ALIVE.LAST 2 = 0x17)
    ∧ (ready 2 (writeParams 0x1100200 0xA0011700) (checking 0 0 5)) ∧ (ready 2 (writeParams 0x1100200 0x80000000) (checking 1 0 5)) ∧ rangeViol (checking 0 0 5) 4 0 1 0 0x0100F00000 9 = none
    ∧ (ready 2 (writeParams 0x1100200 0x80000000) ((checking 0 0 5).put CHK_LEN.LEN 0 2)) :=
  ⟨⟨_, rfl, by decide +kernel⟩, ⟨by decide +kernel, by decide +kernel⟩, ⟨by decide +kernel, by decide +kernel⟩, by decide +kernel, ⟨by decide +kernel, by decide +kernel⟩⟩

theorem test_chk_init_abort : Gives (.chkInit (.host 0) hdr 2 2) (checking 0 0 5) (fun t => chkValue t 2 = 0xFFFF ∧ t.get CHK_CTL.ALG 2 = 2) ∧ (ready 2 (writeParams 0x1100200 0x20000002) (checking 0 0 5))
    ∧ Gives (.chkAbort (.host 0) hdr 2 1) (checking 0 0 5) (fun t => t.get CHK_CTL.ALG 2 = 1 ∧ t.get CHK_STATUS.STATE 2 = 0) ∧ (ready 2 (writeParams 0x1100200 0x40000000) (checking 1 0 5)) :=
  ⟨⟨_, rfl, by decide +kernel⟩, ⟨by decide +kernel, by decide +kernel⟩, ⟨_, rfl, by decide +kernel⟩, ⟨by decide +kernel, by decide +kernel⟩⟩

/-- Parameters of NVM commands: PAGE, COUNT and FLAGS. -/
def nvmParams (p c f : Nat) : List Byte := beBytes 2 p ++ beBytes 1 c ++ beBytes 1 f

theorem test_nvm_write : Gives (.nvmWrite (.host 0) hdr (nvmParams 8192 1 0 ++ List.replicate 64 7)) upHost (fun t => t.nvm.host.map (fun j => j.left) = some [List.replicate 64 7] ∧ t.get NVM_STATUS.HOST_BUSY = 1)
    ∧ (ready 0x50 (nvmParams 8192 1 0 ++ List.replicate 64 7) upHost) ∧ (ready 0x50 (nvmParams 6700 2 1) upHost) ∧ (PacketReady .sideband 0x50 hdr (nvmParams 300 2 1) armedBar) ∧ ready 0x51 (nvmParams 8192 1 0) upHost :=
  ⟨⟨_, rfl, by decide +kernel⟩, ⟨by decide +kernel, by decide +kernel⟩, ⟨by decide +kernel, by decide +kernel⟩, ⟨by decide +kernel, by decide +kernel⟩, ⟨by decide +kernel, by decide +kernel⟩⟩

/-- An NVM_WRITE of two pages in progress, with a device write queued. -/
def nvmBusy (turn : Bool) : State := { up with nvm := { host := some { first := 8192, done := 0, left := [[1, 2], [3]], erase := false, endpoint := 0 }, queue := [{ page := 300, off := 4, bytes := [9] }], deviceTurn := turn } }

theorem test_nvm_page : Gives (.nvmPageWritten true false) (nvmBusy false) (fun t => t.mramByte (64 * 8192 + 1) = 2 ∧ t.nvm.deviceTurn = true ∧ mapGet 0 t.nvm.counts 8192 = 2)
    ∧ Gives (.nvmPageWritten false false) (nvmBusy true) (fun t => t.mramByte (64 * 300 + 4) = 9 ∧ t.nvm.queue = [] ∧ t.get NVM_WRITES.COUNT = 1)
    ∧ Gives (.nvmPageWritten false false) { (nvmBusy false) with nvm := { host := some { first := 8192, done := 1, left := [[3]], erase := false, endpoint := 0 } } } (fun t => t.nvm.host = none ∧ t.mramByte (64 * 8193) = 3) :=
  ⟨⟨_, rfl, by decide +kernel⟩, ⟨_, rfl, by decide +kernel⟩, ⟨_, rfl, by decide +kernel⟩⟩

end Sys2Proof.Tests
end

section
namespace Sys2Proof.Machine

/-- Settles O14: the word is R60's by definition, and each field is `bits` of that closed word. -/
theorem idcodeValue : Obligations.IdcodeValue := by
  unfold Obligations.IdcodeValue
  have word : idcode = 0xB8131B4F := rfl
  have version : bits idcode 31 28 = 0xB := by decide
  have part : bits idcode 27 12 = 0x8131 := by decide
  have manufacturer : bits idcode 11 1 = 0x5A7 := by decide
  have lowBit : bits idcode 0 0 = 1 := by decide
  exact ⟨word, version, part, manufacturer, lowBit⟩

end Sys2Proof.Machine
end

section
namespace Sys2Proof.Machine

/-! ### CRC of packets (R100, R101) -/

/-- The header is 16 bytes whatever the parameters (Table 4.1). -/
@[simp] theorem Packet.length_header (p : Packet) : p.header.length = 16 := by
  simp [Packet.header, length_beBytes]

/-- Settles O15: the reflection and the check value are closed facts; the header's length is `Packet.length_header`. -/
theorem crcOfPackets : Obligations.CrcOfPackets := by
  unfold Obligations.CrcOfPackets
  have reflected : ∀ i : Fin 32, bit 0x82F63B78 i.val = bit 0x1EDC6F41 (31 - i.val) := by decide
  have register : ∀ bs : List Byte, crc32c bs = crcRun 0x82F63B78 0xFFFFFFFF bs ^^^ 0xFFFFFFFF := fun _ => rfl
  have layout : ∀ p : Packet, p.bytes = p.header ++ p.params ++ beBytes 4 (crc32c (p.header ++ p.params)) := fun _ => rfl
  have checkValue : crc32c [0x31, 0x32, 0x33, 0x34, 0x35, 0x36, 0x37, 0x38, 0x39] = 0xE3069283 := by decide +kernel
  exact ⟨reflected, register, fun p => ⟨p.length_header, layout p⟩, checkValue⟩

/-! ### What sending leaves in the output: nothing that has left is taken back -/

theorem fabEndQuiet_tx_suffix (k : Nat) (s : State) : s.tx <:+ (fabEndQuiet k s).tx := by
  unfold fabEndQuiet
  split
  · exact List.suffix_cons _ _
  · exact List.suffix_rfl

theorem fabSendNow_tx_suffix (k : Nat) (c : List Byte) (s : State) : s.tx <:+ (fabSendNow k c s).tx :=
  List.suffix_cons _ _

theorem fabDrain_tx_suffix (n k : Nat) (s : State) : s.tx <:+ (fabDrain n k s).tx := by
  induction n generalizing s with
  | zero => exact List.suffix_rfl
  | succ n ih =>
    unfold fabDrain
    split
    · exact List.suffix_rfl
    · split
      · refine .trans ?_ (ih _)
        exact fabSendNow_tx_suffix k _ (s.setFabPort k _)
      · exact List.suffix_rfl

theorem fabPush_tx_suffix (k : Nat) (c : List Byte) (s : State) : s.tx <:+ (fabPush k c s).tx := by
  unfold fabPush
  dsimp only
  refine (fabEndQuiet_tx_suffix k s).trans ?_
  split
  · exact List.suffix_cons _ _
  · refine .trans ?_ (fabDrain_tx_suffix _ k _)
    exact List.suffix_rfl

theorem fabOriginate_tx_suffix (cls dst : Nat) (payload : List Byte) (s : State) :
    s.tx <:+ (fabOriginate cls dst payload s).tx := by
  unfold fabOriginate
  dsimp only
  split
  · exact fabPush_tx_suffix _ _ (fabSeqStep dst cls s)
  · exact List.suffix_rfl

/-- Addressing a datagram advances a transport SEQ and sends nothing. -/
@[simp] theorem hostDatagram_tx (p cls : Nat) (peer : Option NetAddr) (s : State) :
    (hostDatagram p cls peer s).2.tx = s.tx := by
  cases peer <;> rfl

/-! ### Replies (R103, R104, R123, R124, R188) -/

theorem sendReply_host_tx (k : Fin 2) (peer : Option NetAddr) (p : Packet) (s : State) :
    (sendReply (.host k) peer p s).tx = .reply (.host k) p (hostDatagram k.val 2 peer s).1 :: s.tx := by
  simp [sendReply]

theorem reply_mem_sendReply_fab (k : Fin 8) (peer : Option NetAddr) (p : Packet) (s : State) :
    .reply (.fab k) p none ∈ (sendReply (.fab k) peer p s).tx :=
  (fabOriginate_tx_suffix 2 p.hdr.dst.toNat p.bytes (s.emit (.reply (.fab k) p none))).subset List.mem_cons_self

/-- The state in which a command's reply is made: a status that is neither OK nor STALE is counted as a refusal (R124). -/
def refusalCounted (st : Nat) (s : State) : State :=
  if st = stOk ∨ st = stStale then s else s.count SYS_CMD_REFUSED.COUNT

@[simp] theorem refusalCounted_ok (s : State) : refusalCounted stOk s = s := rfl

@[simp] theorem refusalCounted_tx (st : Nat) (s : State) : (refusalCounted st s).tx = s.tx := by
  unfold refusalCounted
  split <;> rfl

@[simp] theorem refusalCounted_cmd (st : Nat) (s : State) : (refusalCounted st s).cmd = s.cmd := by
  unfold refusalCounted
  split <;> rfl

/-- A reply's version and source come from the command path alone, which the count of refusals leaves alone. -/
@[simp] theorem replyPacket_refusalCounted (s : State) (via : Ingress) (op : Nat) (h : Hdr) (st n : Nat) (data : List Byte) :
    replyPacket (refusalCounted n s) via op h st data = replyPacket s via op h st data := by
  simp [replyPacket, State.endpoint, State.node]

theorem answer_eq (via : Ingress) (peer : Option NetAddr) (op : Nat) (h : Hdr) (st : Nat) (data : List Byte) (s : State) :
    answer via peer op h st data s =
      if h.noreply ∧ st = stOk then s
      else sendReply via peer (replyPacket s via op h st data) (refusalCounted st s) := by
  have counted : onlyIf (st ≠ stOk && st ≠ stStale) (fun s => s.count SYS_CMD_REFUSED.COUNT) s = refusalCounted st s := by
    simp [onlyIf, refusalCounted, ← not_or]
  unfold answer
  simp only [counted, replyPacket_refusalCounted]
  split
  · next suppressed => rw [suppressed.2, refusalCounted_ok]
  · rfl

/-- NOREPLY suppresses the reply to a command that ends OK (R104). -/
theorem answer_of_suppressed {h : Hdr} (hn : h.noreply = true) (via : Ingress) (peer : Option NetAddr) (op : Nat) (data : List Byte) (s : State) :
    answer via peer op h stOk data s = s := by
  rw [answer_eq, if_pos ⟨hn, rfl⟩]

/-- Every other command sends its reply (R104). -/
theorem answer_of_replies {h : Hdr} {st : Nat} (hr : h.noreply = false ∨ st ≠ stOk) (via : Ingress) (peer : Option NetAddr) (op : Nat)
    (data : List Byte) (s : State) :
    answer via peer op h st data s = sendReply via peer (replyPacket s via op h st data) (refusalCounted st s) := by
  have sends : ¬(h.noreply = true ∧ st = stOk) := by
    rintro ⟨hn, hst⟩
    rcases hr with noreplyClear | notOk
    · rw [hn] at noreplyClear
      contradiction
    · exact notOk hst
  rw [answer_eq, if_neg sends]

/-- Settles O21: `answer` is `sendReply` unless NOREPLY suppresses an OK, and each ingress has its own path for the reply. -/
theorem replies : Obligations.Replies := by
  unfold Obligations.Replies
  intro via peer op st h data s
  constructor
  · rintro hn rfl
    exact answer_of_suppressed hn via peer op data s
  · intro hr
    rw [answer_of_replies hr]
    cases via with
    | host k => exact ⟨_, by rw [sendReply_host_tx, refusalCounted_tx]⟩
    | fab k => exact reply_mem_sendReply_fab k peer _ _
    | sideband => rfl

end Sys2Proof.Machine
end

section
namespace Sys2Proof.Machine

/-! ### Bits of a number -/

theorem bit_eq_testBit (v n : Nat) : bit v n = v.testBit n := (Nat.testBit_eq_decide_div_mod_eq).symm

theorem bit_and (v w n : Nat) : bit (v &&& w) n = (bit v n && bit w n) := by
  simp only [bit_eq_testBit, Nat.testBit_and]

/-- A 64-byte unit's number has the bits of its offset from A[6] on. -/
theorem bit_div_64 (a n : Nat) : bit (a / 64) n = bit a (n + 6) := by
  rw [bit_eq_testBit, bit_eq_testBit, show 64 = 2 ^ 6 from rfl, Nat.testBit_div_two_pow]

theorem bit_mod_two_pow {k n : Nat} (hn : n < k) (v : Nat) : bit (v % 2 ^ k) n = bit v n := by
  simp [bit_eq_testBit, Nat.testBit_mod_two_pow, hn]

theorem eq_of_bit_eq {a b : Nat} (h : ∀ j, bit a j = bit b j) : a = b :=
  Nat.eq_of_testBit_eq fun j => by simpa only [bit_eq_testBit] using h j

/-- Bit off reads as the low bit of what was put there, and every other bit is left alone. -/
theorem bit_insertBits (v off x j : Nat) :
    bit (insertBits v off 1 x) j = if j = off then decide (x % 2 = 1) else bit v j := by
  have hlow : v % 2 ^ off < 2 ^ off := Nat.mod_lt _ (Nat.two_pow_pos off)
  have hmid : 2 ^ off * (x % 2) + v % 2 ^ off < 2 ^ (off + 1) := by
    have hx : x % 2 ≤ 1 := by omega
    have := Nat.mul_le_mul_left (2 ^ off) hx
    rw [Nat.pow_succ]
    omega
  have digits : insertBits v off 1 x = 2 ^ (off + 1) * (v / 2 ^ (off + 1)) + (2 ^ off * (x % 2) + v % 2 ^ off) := by
    rw [insertBits, Nat.pow_one, Nat.mul_comm (x % 2), Nat.mul_comm (v / _), Nat.add_assoc]
  rw [bit_eq_testBit, bit_eq_testBit, digits, Nat.testBit_two_pow_mul_add _ hmid]
  rcases Nat.lt_trichotomy j off with below | rfl | above
  · rw [if_pos (by omega), Nat.testBit_two_pow_mul_add _ hlow, if_pos below, Nat.testBit_mod_two_pow, if_neg (by omega)]
    simp [below]
  · rw [if_pos (by omega), Nat.testBit_two_pow_mul_add _ hlow, if_neg (by omega), if_pos rfl]
    simp
  · rw [if_neg (by omega), Nat.testBit_div_two_pow, if_neg (by omega)]
    congr 1
    omega

/-! ### Parity under a mask -/

/-- The number of ones depends on the counted bits alone. -/
theorem ones_congr {n v w : Nat} (h : ∀ i < n, bit v i = bit w i) : ones n v = ones n w := by
  unfold ones
  congr 1
  exact List.filter_congr fun i hi => h i (List.mem_range.mp hi)

theorem ones_succ (n v : Nat) : ones (n + 1) v = ones n v + b2n (bit v n) := by
  simp only [ones, List.range_succ, List.filter_append, List.length_append, b2n]
  cases h : bit v n <;> simp [h]

/-- A bit that is counted adds itself to the ones of the others. -/
theorem ones_eq_add_clearBit {n k : Nat} (hk : k < n) (v : Nat) : ones n v = b2n (bit v k) + ones n (insertBits v k 1 0) := by
  induction n with
  | zero => omega
  | succ n ih =>
    rw [ones_succ, ones_succ, bit_insertBits]
    rcases Nat.lt_succ_iff_lt_or_eq.mp hk with inside | rfl
    · rw [ih inside, if_neg (by omega)]
      omega
    · have others : ones k (insertBits v k 1 0) = ones k v :=
        ones_congr fun i hi => by rw [bit_insertBits, if_neg (by omega)]
      simp [others, b2n, Nat.add_comm]

/-! ### Masks and select bits (R236, R237) -/

theorem homeBits_getD_mem : ∀ x < 7, homeBits.getD x 0 ∈ homeBits := by decide

theorem homeBits_getD_inj : ∀ x < 7, ∀ y < 7, homeBits.getD y 0 = homeBits.getD x 0 → y = x := by decide

theorem exists_getD_of_mem_homeBits : ∀ b ∈ homeBits, ∃ x < 7, homeBits.getD x 0 = b := by decide

/-- Every home bit lies in the 29 bits above the byte within an access that a mask speaks of. -/
theorem homeBits_bounds : ∀ x < 7, 6 ≤ homeBits.getD x 0 ∧ homeBits.getD x 0 < 29 + 6 := by decide

theorem maskOk_iff {x : Nat} (hx : x < 7) (m : Nat) :
    maskOk x m = true ↔
      bit m (homeBits.getD x 0 - 6) = true ∧ ∀ y < 7, y ≠ x → bit m (homeBits.getD y 0 - 6) = false := by
  simp only [maskOk, List.all_eq_true, decide_eq_true_eq, eq_iff_iff, ← Bool.not_eq_true]
  constructor
  · intro h
    refine ⟨(h _ (homeBits_getD_mem x hx)).mpr rfl, fun y hy hne set => hne ?_⟩
    exact homeBits_getD_inj x hx y hy ((h _ (homeBits_getD_mem y hy)).mp set).symm
  · rintro ⟨own, others⟩ b hb
    obtain ⟨y, hy, rfl⟩ := exists_getD_of_mem_homeBits b hb
    by_cases hyx : y = x
    · subst hyx
      exact ⟨fun _ => rfl, fun _ => own⟩
    · exact ⟨fun set => absurd set (others y hy hyx), fun same => absurd (homeBits_getD_inj x hx y hy same.symm) hyx⟩

/-- Two offsets agree in every bit that is taken directly (Table 8.2). -/
def DirectBitsAgree (a b : Nat) : Prop := ∀ j, j ∉ homeBits → bit a j = bit b j

/-- What the bits that are not home bits add to select bit x. -/
def restParity (m x a : Nat) : Nat := parity 29 (insertBits (a / 64 &&& m) (homeBits.getD x 0 - 6) 1 0)

/-- The seven masks obey R237. -/
def MasksOk (masks : Nat → Nat) : Prop := ∀ y < 7, maskOk y (masks y) = true

/-- A select bit under a mask that obeys the rule is its home bit, turned by the parity of the rest. -/
theorem select_eq {x m : Nat} (hx : x < 7) (hm : maskOk x m = true) (a : Nat) :
    parity 29 (a / 64 &&& m) = (b2n (bit a (homeBits.getD x 0)) + restParity m x a) % 2 := by
  obtain ⟨own, -⟩ := (maskOk_iff hx m).mp hm
  obtain ⟨above, below⟩ := homeBits_bounds x hx
  have home : bit (a / 64 &&& m) (homeBits.getD x 0 - 6) = bit a (homeBits.getD x 0) := by
    rw [bit_and, own, Bool.and_true, bit_div_64, Nat.sub_add_cancel above]
  simp only [restParity, parity]
  rw [ones_eq_add_clearBit (k := homeBits.getD x 0 - 6) (by omega), home]
  omega

/-- A mask without the other home bits sees of the rest only what is taken directly. -/
theorem restParity_congr {x m a b : Nat} (hx : x < 7) (hm : maskOk x m = true) (hab : DirectBitsAgree a b) :
    restParity m x a = restParity m x b := by
  obtain ⟨-, others⟩ := (maskOk_iff hx m).mp hm
  simp only [restParity, parity]
  congr 1
  refine ones_congr fun i _ => ?_
  rw [bit_insertBits, bit_insertBits]
  split
  · rfl
  · next notOwn =>
    rw [bit_and, bit_and, bit_div_64, bit_div_64]
    by_cases hi : i + 6 ∈ homeBits
    · obtain ⟨y, hy, home⟩ := exists_getD_of_mem_homeBits _ hi
      have masked : bit m i = false := by
        rw [← others y hy (by rintro rfl; omega), home, Nat.add_sub_cancel]
      simp [masked]
    · rw [hab _ hi]

/-- A home bit is solved from its select bit. -/
theorem homeBit_eq {x m : Nat} (hx : x < 7) (hm : maskOk x m = true) (a : Nat) :
    bit a (homeBits.getD x 0) = decide ((parity 29 (a / 64 &&& m) + restParity m x a) % 2 = 1) := by
  rw [select_eq hx hm]
  cases bit a (homeBits.getD x 0) <;> simp only [b2n, Bool.false_eq_true, if_false, if_true] <;> symm
  · simp only [decide_eq_false_iff_not]
    omega
  · simp only [decide_eq_true_eq]
    omega

theorem selects_getD (masks : Nat → Nat) (a : Nat) {x : Nat} (hx : x < 7) :
    (selects masks a).getD x 0 = parity 29 (a / 64 &&& masks x) := by
  simp [selects, List.getD, hx]

theorem selects_eq_iff {old new : Nat → Nat} {a b : Nat} :
    selects old a = selects new b ↔ ∀ x < 7, parity 29 (a / 64 &&& old x) = parity 29 (b / 64 &&& new x) := by
  simp only [selects, List.map_inj_left, List.mem_range]

/-- Masks that obey R237 give a one-to-one map. -/
theorem eq_of_selects_eq {masks : Nat → Nat} (ok : MasksOk masks) {a b : Nat} (hab : DirectBitsAgree a b)
    (hs : selects masks a = selects masks b) : a = b := by
  refine eq_of_bit_eq fun j => ?_
  by_cases hj : j ∈ homeBits
  · obtain ⟨x, hx, rfl⟩ := exists_getD_of_mem_homeBits j hj
    rw [homeBit_eq hx (ok x hx), homeBit_eq hx (ok x hx) b, selects_eq_iff.mp hs x hx, restParity_congr hx (ok x hx) hab]
  · exact hab j hj

/-! ### Where a new map finds what an old one has put (R237) -/

/-- A bit that no step of the fold replaces is left alone. -/
theorem bit_foldl_insertBits_of_ne {p val : Nat → Nat} {j : Nat} (l : List Nat) (v : Nat) (hj : ∀ x ∈ l, p x ≠ j) :
    bit (l.foldl (fun v x => insertBits v (p x) 1 (val x)) v) j = bit v j := by
  induction l generalizing v with
  | nil => rfl
  | cons y l ih =>
    rw [List.foldl_cons, ih _ fun x hx => hj x (List.mem_cons_of_mem _ hx), bit_insertBits,
      if_neg (hj y List.mem_cons_self).symm]

/-- A bit that one step alone replaces reads as what that step puts there. -/
theorem bit_foldl_insertBits_of_mem {p val : Nat → Nat} {x : Nat} (l : List Nat) (v : Nat) (hx : x ∈ l)
    (inj : ∀ y ∈ l, p y = p x → y = x) :
    bit (l.foldl (fun v x => insertBits v (p x) 1 (val x)) v) (p x) = decide (val x % 2 = 1) := by
  induction l generalizing v with
  | nil => cases hx
  | cons y l ih =>
    rw [List.foldl_cons]
    by_cases later : x ∈ l
    · exact ih _ later fun z hz => inj z (List.mem_cons_of_mem _ hz)
    · obtain rfl : x = y := (List.mem_cons.mp hx).resolve_right later
      rw [bit_foldl_insertBits_of_ne, bit_insertBits, if_pos rfl]
      intro z hz same
      exact later (inj z (List.mem_cons_of_mem _ hz) same ▸ hz)

theorem remapOffset_eq_foldl (old new : Nat → Nat) (a : Nat) :
    remapOffset old new a = (List.range 7).foldl
      (fun v x => insertBits v (homeBits.getD x 0) 1 ((selects old a).getD x 0 + restParity (new x) x a)) a := rfl

theorem directBitsAgree_remapOffset (old new : Nat → Nat) (a : Nat) : DirectBitsAgree a (remapOffset old new a) := by
  intro j hj
  rw [remapOffset_eq_foldl, bit_foldl_insertBits_of_ne]
  rintro x hx rfl
  exact hj (homeBits_getD_mem x (List.mem_range.mp hx))

theorem bit_remapOffset_homeBit (old new : Nat → Nat) (a : Nat) {x : Nat} (hx : x < 7) :
    bit (remapOffset old new a) (homeBits.getD x 0)
      = decide ((parity 29 (a / 64 &&& old x) + restParity (new x) x a) % 2 = 1) := by
  rw [remapOffset_eq_foldl, bit_foldl_insertBits_of_mem (p := fun x => homeBits.getD x 0) _ _ (List.mem_range.mpr hx)
    (fun y hy => homeBits_getD_inj x hx y (List.mem_range.mp hy)), selects_getD old a hx]

/-- The select bits of the new place are those of the old one. -/
theorem selects_remapOffset {new : Nat → Nat} (ok : MasksOk new) (old : Nat → Nat) (a : Nat) :
    selects old a = selects new (remapOffset old new a) := by
  refine selects_eq_iff.mpr fun x hx => ?_
  have two : parity 29 (a / 64 &&& old x) < 2 := Nat.mod_lt _ (by decide)
  rw [select_eq hx (ok x hx) (remapOffset old new a), bit_remapOffset_homeBit old new a hx,
    ← restParity_congr hx (ok x hx) (directBitsAgree_remapOffset old new a)]
  simp only [b2n, decide_eq_true_eq]
  split <;> omega

theorem remapOffset_eq_iff {old new : Nat → Nat} (ok : MasksOk new) {a b : Nat} :
    remapOffset old new a = b ↔ DirectBitsAgree a b ∧ selects old a = selects new b := by
  constructor
  · rintro rfl
    exact ⟨directBitsAgree_remapOffset old new a, selects_remapOffset ok old a⟩
  · rintro ⟨hab, hs⟩
    have direct : DirectBitsAgree (remapOffset old new a) b := fun j hj =>
      (directBitsAgree_remapOffset old new a j hj).symm.trans (hab j hj)
    exact eq_of_selects_eq ok direct ((selects_remapOffset ok old a).symm.trans hs)

/-- No two offsets move to one place. -/
theorem remapOffset_injective {old new : Nat → Nat} (okOld : MasksOk old) (okNew : MasksOk new) :
    Function.Injective (remapOffset old new) := by
  intro a c same
  obtain ⟨direct, sel⟩ := (remapOffset_eq_iff okNew).mp same
  have direct' := directBitsAgree_remapOffset old new c
  exact eq_of_selects_eq okOld (fun j hj => (direct j hj).trans (direct' j hj).symm)
    (sel.trans (selects_remapOffset okNew old c).symm)

/-! ### What moving the stored bytes leaves where -/

theorem mapGet_of_mapAbove {α : Type} (d : α) {k n : Nat} {m : List (Nat × α)} (above : mapAbove n m) (hk : k ≤ n) :
    mapGet d m k = d := by
  induction m with
  | nil => rfl
  | cons e m ih =>
    have he : e.1 ≠ k := by
      have := above e List.mem_cons_self
      omega
    rw [mapGet, if_neg he, ih fun e he => above e (List.mem_cons_of_mem _ he)]

/-- A map filtered by its keys reads as before at the keys that pass, and as unlisted at the others. -/
theorem mapGet_filter_key {α : Type} (d : α) (p : Nat → Bool) (k : Nat) (m : List (Nat × α)) :
    mapGet d (m.filter fun e => p e.1) k = if p k then mapGet d m k else d := by
  induction m with
  | nil => simp [mapGet]
  | cons e m ih =>
    obtain ⟨k', v⟩ := e
    rw [List.filter_cons]
    by_cases hk : k' = k
    · subst hk
      cases hp : p k' <;> simp [mapGet, hp, ih]
    · cases hp : p k' <;> simp [mapGet, hk, ih]

/-- Cells written one after another: a byte that a single key is moved to reads as that key's cell, and as before where the key is not listed. -/
theorem byte_each_setByte {place : Nat → Nat} {x k : Nat} {cells : List Host.Cell} (wf : Memory.wf cells = true)
    (only : ∀ c ∈ cells, memKey (place c.1) = memKey x ↔ c.1 = k) (s : State) :
    (each (fun c s => s.setByte (place c.1) c.2) cells s).byte x = mapGet (s.byte x) cells k := by
  induction cells generalizing s with
  | nil => rfl
  | cons c cells ih =>
    obtain ⟨k', b⟩ := c
    obtain ⟨-, above, wf'⟩ := (mapWf_cons _ _ _ _).mp wf
    have here := only (k', b) List.mem_cons_self
    rw [each, ih wf' fun c hc => only c (List.mem_cons_of_mem _ hc), mapGet]
    by_cases hk : k' = k
    · have moved : (s.setByte (place k') b).byte x = b := by
        rw [State.byte, ← here.mpr hk]
        exact byte_setByte_self s (place k') b
      rw [if_pos hk, moved, mapGet_of_mapAbove _ above (Nat.le_of_eq hk.symm)]
    · rw [if_neg hk, byte_setByte_ne fun same => hk (here.mp same.symm)]

theorem memKey_of_dramBase_le {a : Nat} (ha : dramBase ≤ a) : memKey a = a := by
  have : 0x1000000000 ≤ a := ha
  rw [memKey, if_neg (by omega)]

theorem memKey_lt_dramBase {a : Nat} (ha : a < dramBase) : memKey a < dramBase := by
  simp only [memKey, dramBase] at *
  split <;> omega

theorem isDram_eq_true {a : Nat} : isDram a = true ↔ dramBase ≤ a ∧ a < dramBase + 2 ^ 35 := by
  rw [isDram, Bool.and_eq_true, decide_eq_true_eq, decide_eq_true_eq]
  rfl

theorem isDram_dramBase_add {a : Nat} (ha : a < 2 ^ 35) : isDram (dramBase + a) = true :=
  isDram_eq_true.mpr ⟨Nat.le_add_right _ _, Nat.add_lt_add_left ha _⟩

theorem not_isDram_of_lt {a : Nat} (ha : a < dramBase) : isDram a = false :=
  Bool.eq_false_iff.mpr fun dram => Nat.not_le.mpr ha (isDram_eq_true.mp dram).1

/-- The address to which a change of the map moves a cell. -/
def movedTo (old new : Nat → Nat) (a : Nat) : Nat :=
  if isDram a then dramBase + remapOffset old new (a - dramBase) else a

/-- A change of the map before the DRAM cells are written at their new addresses. -/
def lifted (old new : Nat → Nat) (s : State) : State :=
  { s with
    mem := s.mem.filter fun c => !isDram c.1
    cmd := { s.cmd with ecc := s.cmd.ecc.map fun e => (movedTo old new e.1, e.2) } }

theorem remapCells_eq (old new : Nat → Nat) (s : State) :
    remapCells old new s
      = each (fun c s => s.setByte (movedTo old new c.1) c.2) (s.mem.filter fun c => isDram c.1) (lifted old new s) := rfl

theorem each_setByte_regs (place : Nat → Nat) (cells : List Host.Cell) (s : State) :
    (each (fun c s => s.setByte (place c.1) c.2) cells s).regs = s.regs := by
  induction cells generalizing s with
  | nil => rfl
  | cons c cells ih => rw [each, ih, State.setByte_regs]

theorem each_setByte_mram (place : Nat → Nat) (cells : List Host.Cell) (s : State) :
    (each (fun c s => s.setByte (place c.1) c.2) cells s).mram = s.mram := by
  induction cells generalizing s with
  | nil => rfl
  | cons c cells ih => rw [each, ih, State.setByte_mram]

@[simp] theorem remapCells_get (old new : Nat → Nat) (s : State) (F : Fld) (i j : Nat) :
    (remapCells old new s).get F i j = s.get F i j := by
  rw [State.get, remapCells_eq, each_setByte_regs]
  rfl

@[simp] theorem remapCells_mram (old new : Nat → Nat) (s : State) : (remapCells old new s).mram = s.mram := by
  rw [remapCells_eq, each_setByte_mram]
  rfl

theorem lifted_byte (old new : Nat → Nat) (s : State) (x : Nat) :
    (lifted old new s).byte x = if isDram (memKey x) then 0 else s.byte x := by
  rw [State.byte, lifted, mapGet_filter_key 0 fun a => !isDram a]
  cases isDram (memKey x) <;> rfl

/-- Moving cells leaves memory outside DRAM as it is. -/
theorem byte_remapCells_of_lt {s : State} (wf : Memory.wf s.mem = true) (old new : Nat → Nat) {x : Nat} (hx : x < dramBase) :
    (remapCells old new s).byte x = s.byte x := by
  have key := memKey_lt_dramBase hx
  have untouched : ∀ c ∈ s.mem.filter fun c => isDram c.1, memKey (movedTo old new c.1) = memKey x ↔ c.1 = memKey x := by
    intro c hc
    have dram : isDram c.1 = true := (List.mem_filter.mp hc).2
    have base := (isDram_eq_true.mp dram).1
    rw [movedTo, if_pos dram, memKey_of_dramBase_le (Nat.le_add_right _ _)]
    omega
  rw [remapCells_eq, byte_each_setByte (mapWf_filter _ wf) untouched, mapGet_filter_key, lifted_byte, not_isDram_of_lt key]
  rfl

/-- A stored byte is found where the new map finds its cell. -/
theorem byte_remapCells_of_selects_eq {s : State} (wf : Memory.wf s.mem = true) {old new : Nat → Nat} (okOld : MasksOk old)
    (okNew : MasksOk new) {a b : Nat} (ha : a < 2 ^ 35) (hb : b < 2 ^ 35) (hab : DirectBitsAgree a b)
    (hs : selects old a = selects new b) : (remapCells old new s).byte (dramBase + b) = s.byte (dramBase + a) := by
  have moved : remapOffset old new a = b := (remapOffset_eq_iff okNew).mpr ⟨hab, hs⟩
  have key : memKey (dramBase + b) = dramBase + b := memKey_of_dramBase_le (Nat.le_add_right _ _)
  have only : ∀ c ∈ s.mem.filter fun c => isDram c.1,
      memKey (movedTo old new c.1) = memKey (dramBase + b) ↔ c.1 = dramBase + a := by
    intro c hc
    have dram : isDram c.1 = true := (List.mem_filter.mp hc).2
    have base := (isDram_eq_true.mp dram).1
    rw [movedTo, if_pos dram, memKey_of_dramBase_le (Nat.le_add_right _ _), key, Nat.add_left_cancel_iff, ← moved,
      (remapOffset_injective okOld okNew).eq_iff]
    omega
  rw [remapCells_eq, byte_each_setByte (mapWf_filter _ wf) only, lifted_byte, key, isDram_dramBase_add hb, if_pos rfl,
    mapGet_filter_key, isDram_dramBase_add ha, if_pos rfl, State.byte, memKey_of_dramBase_le (Nat.le_add_right _ _)]

/-! ### A write of DRAM_MAPx -/

/-- The rule of R237 on the written word: MASK holds every home bit. -/
theorem maskOk_written_iff (x : Fin 7) (v : Nat) :
    maskOk x.val (v % 2 ^ 29) = true ↔
      bit v (homeBits.getD x.val 0 - 6) = true ∧ ∀ y : Fin 7, y ≠ x → bit v (homeBits.getD y.val 0 - 6) = false := by
  have home : ∀ y < 7, bit (v % 2 ^ 29) (homeBits.getD y 0 - 6) = bit v (homeBits.getD y 0 - 6) := fun y hy => by
    have := homeBits_bounds y hy
    exact bit_mod_two_pow (by omega) v
  rw [maskOk_iff x.isLt, home x.val x.isLt, Fin.forall_iff]
  refine and_congr_right fun _ => forall₂_congr fun y hy => ?_
  rw [home y hy, ne_eq, ne_eq, Fin.ext_iff]

theorem dmaAnyOn_eq_true {s : State} : dmaAnyOn s = true ↔ ∃ c < 32, s.is DMA_CTL.EN c = true := by
  simp [dmaAnyOn]

/-- A job is open or a channel has EN 1: R237 locks the map. -/
def MapLocked (s : State) : Prop := jobOpen s = true ∨ ∃ c < 32, s.is DMA_CTL.EN c = true

theorem mapLocked_iff {s : State} : MapLocked s ↔ s.is FIRE_ING_JOB.OPEN = true ∨ dmaAnyOn s = true :=
  or_congr Iff.rfl dmaAnyOn_eq_true.symm

section
variable {x : Nat} {v : Nat} {s : State}

theorem dramMapWrite_of_not_maskOk (hm : maskOk x (v % 2 ^ 29) = false) : dramMapWrite x v s = (stBadParam, s) := by
  rw [dramMapWrite, hm]
  rfl

theorem dramMapWrite_of_same (hm : maskOk x (v % 2 ^ 29) = true) (same : v % 2 ^ 29 = s.get DRAM_MAP.MASK x) :
    dramMapWrite x v s = (stOk, s) := by
  rw [dramMapWrite, hm, if_neg (by decide), if_pos same]

theorem dramMapWrite_of_locked (hm : maskOk x (v % 2 ^ 29) = true) (changes : v % 2 ^ 29 ≠ s.get DRAM_MAP.MASK x)
    (locked : MapLocked s) : dramMapWrite x v s = (stBusy, s) := by
  rw [dramMapWrite, hm, if_neg (by decide), if_neg changes, if_pos (mapLocked_iff.mp locked)]

/-- The state after a change of one mask. -/
def remapped (x mask : Nat) (s : State) : State :=
  remapCells (fun y => s.get DRAM_MAP.MASK y) (fun y => (s.put DRAM_MAP.MASK mask x).get DRAM_MAP.MASK y) (s.put DRAM_MAP.MASK mask x)

theorem dramMapWrite_of_changes (hm : maskOk x (v % 2 ^ 29) = true) (changes : v % 2 ^ 29 ≠ s.get DRAM_MAP.MASK x)
    (free : ¬MapLocked s) : dramMapWrite x v s = (stOk, remapped x (v % 2 ^ 29) s) := by
  rw [dramMapWrite, hm, if_neg (by decide), if_neg changes, if_neg (mt mapLocked_iff.mpr free)]
  rfl

end

theorem mask_key_eq_iff {x y : Nat} : DRAM_MAP.MASK.key y 0 = DRAM_MAP.MASK.key x 0 ↔ y = x := by
  simp only [Fld.key, DRAM_MAP.MASK]
  omega

theorem get_remapped (x mask : Nat) (s : State) (F : Fld) (i j : Nat) :
    (remapped x mask s).get F i j = (s.put DRAM_MAP.MASK mask x).get F i j := remapCells_get _ _ _ F i j

theorem get_remapped_self (x v : Nat) (s : State) : (remapped x (v % 2 ^ 29) s).get DRAM_MAP.MASK x = v % 2 ^ 29 := by
  rw [get_remapped, get_put_self]
  exact Nat.mod_mod _ _

theorem sameRegsBut_remapped (x mask : Nat) (s : State) : SameRegsBut DRAM_MAP.MASK x 0 s (remapped x mask s) :=
  fun G i' j' other => by rw [get_remapped, get_put_ne other]

theorem masksOk_remapped {x v : Nat} {s : State} (ok : MasksOk fun y => s.get DRAM_MAP.MASK y) (hm : maskOk x (v % 2 ^ 29) = true) :
    MasksOk fun y => (remapped x (v % 2 ^ 29) s).get DRAM_MAP.MASK y := by
  intro y hy
  show maskOk y ((remapped x (v % 2 ^ 29) s).get DRAM_MAP.MASK y) = true
  by_cases hyx : y = x
  · subst hyx
    rwa [get_remapped_self]
  · rw [sameRegsBut_remapped x _ s DRAM_MAP.MASK y 0 fun same => hyx (mask_key_eq_iff.mp same)]
    exact ok y hy

/-! ### The packet that writes DRAM_MAPx -/

/-- The row of DRAM_MAPx in the register map of chapter 8. -/
def dramMapRow : RegRow := ⟨0x600110, 4, 7, 0, 1, [⟨28, 0, .rwc, DRAM_MAP.MASK, 0⟩]⟩

theorem rowAt_dramMap : ∀ x : Fin 7, rowAt (0x600110 + 4 * x.val) = some (dramMapRow, x.val, 0)
  | 0 | 1 | 2 | 3 | 4 | 5 | 6 => rfl

theorem regBlock_dramMap : ∀ x : Fin 7, regBlock (0x600110 + 4 * x.val) = some 8 := by decide

/-- MASK keeps its bits of the word as written, and no other bit of the row reaches it. -/
theorem combine_dramMapRow (v : Nat) : dramMapRow.combine v v % 2 ^ 29 = v % 2 ^ 29 := by
  have plain : dramMapRow.plainMask = 2 ^ 29 - 1 := rfl
  have rest : not32 (2 ^ 29 - 1) % 2 ^ 29 = 0 := by decide
  rw [RegRow.combine, plain, Nat.and_two_pow_sub_one_eq_mod, Nat.add_mod, Nat.and_mod_two_pow, rest, Nat.and_zero]
  simp

theorem dramMapWrite_congr {x v w : Nat} (h : v % 2 ^ 29 = w % 2 ^ 29) (s : State) : dramMapWrite x v s = dramMapWrite x w s := by
  simp only [dramMapWrite, h]

/-- A refused write of DRAM_MAPx leaves no report. -/
theorem writeReport_dramMap (e : Env) (x : Fin 7) (v st : Nat) (s t : State) :
    writeReport e (0x600110 + 4 * x.val) v v st s t = t := by
  simp [writeReport, rowAt_dramMap, regBlock_dramMap, dramMapRow]

theorem writeBlockReg_dramMap (e : Env) (x : Fin 7) (v : Nat) (s : State) :
    writeBlockReg e ((regBlock (0x600110 + 4 * x.val)).getD 0) dramMapRow x.val 0 (dramMapRow.combine v v) s = dramMapWrite x.val v s := by
  rw [regBlock_dramMap, ← dramMapWrite_congr (combine_dramMapRow v)]
  rfl

/-- A refusal carries the state it was made in. -/
theorem no_s (st : Nat) (s : State) : (no st s).s = s := rfl

/-- The packet of a write of DRAM_MAPx. -/
abbrev dramMapParams (x : Fin 7) (v : Word) : List Byte := writeParams (0x600110 + 4 * x.val) v.toNat

section
variable {via : Ingress} {h : Hdr} {s : State} {x : Fin 7} {v : Word}

theorem acted_dramMap : acted via 2 h (dramMapParams x v) s =
    (let t := actionState via 2 h (dramMapParams x v) s
     let p := settle t (dramMapWrite x.val v.toNat t)
     if p.1 = stOk then ok p.2 else no p.1 t) := by
  have place : ∀ x : Fin 7, inRegs (0x600110 + 4 * x.val) = true ∧ isDram (0x600110 + 4 * x.val) = false := by decide
  rw [acted_write (place x).1 (place x).2 (by omega) v.isLt (rowAt_dramMap x)]
  simp only [writeBlockReg_dramMap, writeReport_dramMap]

theorem exec_dramMapWrite (hr : PacketReady via 2 h (dramMapParams x v) s) :
    exec (.dramMapWrite via h x v) s = .next (answered via 2 h (dramMapParams x v) (acted via 2 h (dramMapParams x v) s)) := by
  have packetOf : exec (.dramMapWrite via h x v) s = .next (regPacket via h (0x600110 + 4 * x.val) 0 v.toNat s) := rfl
  rw [packetOf, regPacket, Nat.or_zero, packet_ready hr]

/-- A write that is refused answers its status and leaves the state that its action met. -/
theorem runs_dramMapWrite_refused {st : Nat} (hst : st ≠ stOk)
    (hw : dramMapWrite x.val v.toNat (actionState via 2 h (dramMapParams x v) s) = (st, actionState via 2 h (dramMapParams x v) s)) :
    Runs (.dramMapWrite via h x v) via 2 h (dramMapParams x v) s st fun _ t => t = actionState via 2 h (dramMapParams x v) s := by
  intro hr
  have result : acted via 2 h (dramMapParams x v) s = no st (actionState via 2 h (dramMapParams x v) s) := by
    rw [acted_dramMap]
    simp only [hw, settle, if_neg hst]
  exact ⟨no st (actionState via 2 h (dramMapParams x v) s), by rw [exec_dramMapWrite hr, result], rfl, no_s st _⟩

/-- A write that is carried out answers OK with the state after it. -/
theorem writes_dramMapWrite {t : State} {P : State → Prop}
    (hw : dramMapWrite x.val v.toNat (actionState via 2 h (dramMapParams x v) s) = (stOk, t)) (hP : P t) :
    Writes (.dramMapWrite via h x v) via h (0x600110 + 4 * x.val) v.toNat s P := by
  intro hr
  have result : acted via 2 h (dramMapParams x v) s = ok t := by
    rw [acted_dramMap]
    simp only [hw, settle, if_true]
  exact ⟨ok t, by rw [exec_dramMapWrite hr, result], rfl, hP⟩

theorem mapLocked_actionState {ps : List Byte} : MapLocked (actionState via 2 h ps s) ↔ MapLocked s := by
  simp only [MapLocked, jobOpen, actionState_is]

end

/-- What a change of one mask does: the mask is as written, and each stored byte is found where the new map finds its cell (R237, log entry 816). -/
def MapChanged (x v : Nat) (s t : State) : Prop :=
  t.get DRAM_MAP.MASK x = v % 2 ^ 29 ∧ SameRegsBut DRAM_MAP.MASK x 0 s t ∧ t.mram = s.mram
    ∧ (∀ a < dramBase, t.byte a = s.byte a)
    ∧ ∀ a b : Nat, a < 2 ^ 35 → b < 2 ^ 35 → DirectBitsAgree a b →
      selects (fun y => s.get DRAM_MAP.MASK y) a = selects (fun y => t.get DRAM_MAP.MASK y) b →
        t.byte (dramBase + b) = s.byte (dramBase + a)

theorem mapChanged_remapped {x v : Nat} {s : State} (hm : maskOk x (v % 2 ^ 29) = true) (wf : Memory.wf s.mem = true)
    (ok : MasksOk fun y => s.get DRAM_MAP.MASK y) : MapChanged x v s (remapped x (v % 2 ^ 29) s) := by
  have okNew := masksOk_remapped ok hm
  refine ⟨get_remapped_self x v s, sameRegsBut_remapped x _ s, remapCells_mram _ _ _,
    fun a ha => byte_remapCells_of_lt (s := s.put DRAM_MAP.MASK (v % 2 ^ 29) x) wf _ _ ha, fun a b ha hb hab sel => ?_⟩
  simp only [get_remapped] at okNew sel
  exact byte_remapCells_of_selects_eq (s := s.put DRAM_MAP.MASK (v % 2 ^ 29) x) wf ok okNew ha hb hab sel

/-- What a change of a mask does is said of registers and memories alone, which an action meets as the packet found them. -/
theorem MapChanged.of_actionState {x v : Nat} {via : Ingress} {h : Hdr} {ps : List Byte} {s t : State}
    (changed : MapChanged x v (actionState via 2 h ps s) t) : MapChanged x v s t := by
  simpa only [MapChanged, SameRegsBut, State.byte, actionState_get, actionState_mem, actionState_mram] using changed

/-- Settles O40: a write is refused or carried out by `dramMapWrite`'s cases; a change solves each home bit from its select bit, so the move of the cells is one-to-one and ends where the new map looks. -/
theorem dramMap : Obligations.DramMap := by
  unfold Obligations.DramMap
  refine ⟨fun via h s x v => ⟨fun bad => ?_, fun own others => ?_⟩, fun masks ok a b _ _ => eq_of_selects_eq ok⟩
  · have notOk : maskOk x.val (v.toNat % 2 ^ 29) = false := by
      rw [← Bool.not_eq_true, maskOk_written_iff]
      rintro ⟨own, others⟩
      rcases bad with ownClear | ⟨y, hy, otherSet⟩
      · exact Bool.false_ne_true (ownClear.symm.trans own)
      · exact Bool.false_ne_true ((others y hy).symm.trans otherSet)
    exact runs_dramMapWrite_refused (by decide) (dramMapWrite_of_not_maskOk notOk)
  · have isOk : maskOk x.val (v.toNat % 2 ^ 29) = true := (maskOk_written_iff x v.toNat).mpr ⟨own, others⟩
    refine ⟨fun same => ?_, fun changes => ⟨fun locked => ?_, fun closed idle wf ok => ?_⟩⟩
    · rw [← actionState_get via 2 h (dramMapParams x v)] at same
      exact writes_dramMapWrite (dramMapWrite_of_same isOk same)
        ⟨actionState_regs .., actionState_mem .., actionState_mram ..⟩
    · rw [← actionState_get via 2 h (dramMapParams x v)] at changes
      exact runs_dramMapWrite_refused (by decide) (dramMapWrite_of_locked isOk changes (mapLocked_actionState.mpr locked))
    · rw [← actionState_get via 2 h (dramMapParams x v)] at changes
      have free : ¬MapLocked s := by
        rintro (job | ⟨c, hc, on⟩)
        · exact Bool.false_ne_true (closed.symm.trans job)
        · exact Bool.false_ne_true ((idle c hc).symm.trans on)
      refine writes_dramMapWrite (dramMapWrite_of_changes isOk changes (mt mapLocked_actionState.mp free)) ?_
      refine MapChanged.of_actionState (mapChanged_remapped isOk ?_ ?_)
      · rwa [actionState_mem]
      · simpa only [MasksOk, actionState_get] using ok

end Sys2Proof.Machine
end
